-- ==== Sys2Proof/Word.lean ====
section
/-! DEFINITION. The word types of the CG4816 and their plainest arithmetic. -/

namespace Sys2Proof

/-- A byte. -/
abbrev Byte := BitVec 8

/-- A half word. -/
abbrev Half := BitVec 16

/-- A 32-bit register or memory word. -/
abbrev Word := BitVec 32

/-- A 64-bit word: a time, a counter pair or a wide element. -/
abbrev DWord := BitVec 64

/-- A 512-byte scratchpad row, byte 0 in bits [7:0] (R6, R199). -/
abbrev Row := BitVec 4096

/-- A 56-bit slot of a tile bundle. -/
abbrev Slot := BitVec 56

/-- A Nat brought down to a 32-bit word, modulo 2^32. -/
def word (n : Nat) : Word := BitVec.ofNat 32 n

/-- A truth value as 0 or 1. -/
def bit (b : Bool) : Nat := if b then 1 else 0

end Sys2Proof
end

