-- ==== Sys2Proof/Syntax.lean ====
section
/-! DEFINITION. The commands of the block, one constructor per row of spec/opcode_table.json, and the
operands they carry. The table gives its rows no fields: what a command carries is the model's choice (log
entry 1), namely what the event itself brings from outside. -/

namespace Sys2Proof

/-- The class of a requester at a bank (Table 7.4). -/
inductive BankUser where
  | tile | narrow | engine | scrubber
deriving DecidableEq, Repr

/-- A tile op as its bundle holds it (R179): the tile, the slot (Y, else X), the op's bits [55:8] (its CLASS and OPC are
the command's), and the overlaps met at banks: the op's how-many-eth wide access met one, and the earlier requester. -/
structure TileOp where
  tile : Nat
  y : Bool := false
  fields : BitVec 48 := 0
  clash : List (Nat × BankUser) := []
deriving DecidableEq, Repr

/-- The requesters of accesses, as DS_VIOL_CODE.SRC encodes them (Table 1.13, Table 7.12). -/
inductive Requester where
  | core (n : Nat)
  | mgmt
  | dpLath
  | dpHost
  | debug
  | tile (t : Nat)
  | gate
  | verifier
  | spill
deriving DecidableEq, Repr

/-- Where the level of a field input lies against its thresholds (R67, Table 2.12). -/
inductive InLevel where
  | low | band | high
deriving DecidableEq, Repr

/-- One line of the array as the ADCs converted it in one exposure (R137, R138): its row number in the output's own
numbering, and its samples by column at each gain. -/
structure PixLine where
  row : Nat
  hcg : List Nat
  lcg : List Nat := []
deriving DecidableEq, Repr

/-- A row the front end writes (R146, R147): the output line, the row within the line (in Skim the row of the
image), and the converted lines that its samples and their neighbours lie on (R143). A staging row is of one gain:
`gain` 0 HCG, 1 LCG. In Skim, `cells` holds the four binned samples of each output pixel (R138). -/
structure PixRow where
  line : Nat
  part : Nat
  gain : Nat := 0
  lines : List PixLine := []
  cells : List (List Nat) := []
deriving DecidableEq, Repr

/-- A 32-bit piece of a tile's internal state, as a debug read names it (R36, R244, Table 6.1). -/
inductive TileReg where
  | addr (i : Fin 16)
  | loop (i : Fin 8)
  | vec (i : Fin 16) (w : Fin 128)
  | acc (i : Fin 4) (e : Fin 1024)
  | lut (w : Fin 128)
  | counter (i : Fin 16)
  | pc
  | ftz
  | flags
deriving DecidableEq, Repr

/-- What the debug port asks of a tile (R36, Table 17.9). -/
inductive DebugReq where
  | halt | step | resume
  | read (what : TileReg)
deriving DecidableEq, Repr

/-- What an access met at its target (Table 7.4): nothing; the scrub handshake of the row it reaches; a row of a bank under
scrub that the scrubber has passed (R46); an earlier handshake of a tile or an engine in its bank; or a failed transfer of
the spill port (R234); or a parity error of the cache line it hits (R285). -/
inductive Met where
  | clean | scrub | scrubbed | wide | spillIo | parity
deriving DecidableEq, Repr

/-- A load or store of a core: the register loaded or stored, base register and offset, log2 of the width in bytes,
zero extension, whether the instruction is a 16-bit one, and what the access met at its target. -/
structure MemOp where
  reg : Fin 32
  base : Fin 32
  offset : BitVec 12 := 0
  size : Fin 3 := 2
  zeroExt : Bool := false
  short : Bool := false
  met : Met := .clean
  /-- A load whose response comes after those of later loads (R281). -/
  late : Bool := false
deriving DecidableEq, Repr

/-- The operands of LR.W, SC.W and AMO*.W. -/
structure AtomicOp where
  rd : Fin 32
  rs1 : Fin 32
  rs2 : Fin 32 := 0
  aq : Bool := false
  rl : Bool := false
deriving DecidableEq, Repr

/-- The AMO*.W operations. -/
inductive AmoKind where
  | swap | add | xor | and | or | min | max | minu | maxu
deriving DecidableEq, Repr

/-- A Zicsr instruction: read-write, set or clear; the source is a register or, with `imm`, its number. -/
structure CsrOp where
  op : Fin 3
  imm : Bool
  csr : BitVec 12
  rd : Fin 32
  rs1 : Fin 32
deriving DecidableEq, Repr

/-- What the debug port asks of a core: halt, step, resume, set or remove one of the two address-match triggers, or, as an
abstract command on a halted core, read or write a register, a CSR (0x7B0 is dcsr) or the pc (dpc). -/
inductive CoreDebug where
  | halt | step | resume
  | trigger (k : Fin 2) (addr : Option Word)
  | readReg (i : Fin 32)
  | writeReg (i : Fin 32) (v : Word)
  | readCsr (a : BitVec 12)
  | writeCsr (a : BitVec 12) (v : Word)
  | readPc
  | writePc (v : Word)
deriving DecidableEq, Repr

/-- The two host paths (R415). -/
inductive HostPath where
  | lath | spi
deriving DecidableEq, Repr

/-- A Lath port of the node: U towards the head, D away from it. -/
inductive Port where
  | u | d
deriving DecidableEq, Repr

/-- A frame as it arrives: its bytes from header to CRC, whether it held a code error, and whether it ended in
EOF_BAD (R400). -/
structure RxFrame where
  bytes : List Byte
  codeError : Bool := false
  eofBad : Bool := false
deriving DecidableEq, Repr

/-- What the boot ROM finds at the NVM part (R89, R90): an answer at all; SFDP with its density in bytes, whether the
4-byte method is usable, and 1-4-4 fast read; and whether the 0xEB read of the test block agrees. -/
structure NvmPart where
  responds : Bool
  sfdp : Bool
  size : Nat
  method4 : Bool
  quad144 : Bool
  quadAgrees : Bool
deriving DecidableEq, Repr

/-- A request for admission as model code writes it into an admit slot (R313): class and label, and its crop tokens. -/
structure AdmitWrite where
  cls : Nat
  label : Nat := 0
  crop : List Byte := []
deriving DecidableEq, Repr

/-- The commands, in the order of the table: each with its row's meaning. -/
inductive Instr where
  /-- VDD_AON rises through its brown-out threshold while RESET_N is high and starts the boot sequence at step 1 (R84). -/
  | powerOn (vbatKept testEn : Bool)
  /-- RESET_N is driven low for at least 1 µs, which asserts reset and closes the Lath bypass (R84). -/
  | resetNAssert
  /-- RESET_N rises after a valid low pulse, or after VDD_AON came up with RESET_N low, and starts the boot sequence (R84). -/
  | resetNRelease (vbatKept testEn : Bool)
  /-- VDD_AON falls below its brown-out threshold: reset, the bypass closes, the outputs release, and the brown-out flag is set in the VBAT domain (R551). -/
  | vddAonBrownout
  /-- VDDIO reaches 2.5 V within 10 ms of passing 1.5 V, or the 10 ms window ends, and the I/O mode latches as 3.3 V or 1.8 V (R57). -/
  | vddioModeLatch (v33 : Bool)
  /-- LHOLD_N goes low: the bypass closes and both Lath ports close (R69). -/
  | lholdNFall
  /-- LHOLD_N goes high and the Lath ports open if nothing else holds the bypass closed (R110). -/
  | lholdNRise
  /-- The 25 MHz reference counts 1,024 clean cycles; the PLL locks and the boot ROM starts (R86). -/
  | referenceStable
  /-- No stable reference within 10 ms: boot fails and a boot retry follows (R106). -/
  | bootNoRef
  /-- VDDIO is not good within 100 ms: boot fails and a boot retry follows (R106). -/
  | bootVddio
  /-- VCORE_PG rises after VCORE_EN and the boot ROM issues the AVSBus write for 0.80 V (R86). -/
  | vcorePgHigh
  /-- VCORE_PG is not high within 10 ms of VCORE_EN: VCORE_EN is driven low and a boot retry follows (R106). -/
  | bootVcorePg
  /-- The boot AVSBus write is not acknowledged within 1 ms: VCORE_EN is driven low and a boot retry follows (R106). -/
  | bootAvs
  /-- VDD_MEM is still below its undervoltage threshold at 100 ms: a boot retry follows (R106). -/
  | bootVmem
  /-- The step 8 scrub of every row and tag completes, with the Returned verification where it applies, and the completion reaches D4 (R87). -/
  | bootScrubDone (part : NvmPart) (clean : Bool) (bad : List Nat)
  /-- An image is read once from its NVM slot, checked in order and placed, or refused with its code (R341). -/
  | packageLoad (kind : Fin 3) (part : Fin 4) (ioA ioB : Option Nat)
  /-- Step 17: ports and host paths open, edge detectors are armed, and Run, Skim or recovery Run is entered (R103). -/
  | bootRunEntry
  /-- Step 17 is not reached 30 s after step 3: boot ends and a boot retry follows (R112). -/
  | bootTimeout
  /-- The 1 s wait after a retryable boot failure ends and the device resets with cause boot retry, or enters Safe Halt at the third failure (R106). -/
  | bootRetryReset
  /-- A write to SYS_SWRESET with KEY 0x5352 starts a system reset; any other key raises SYS_SWRESET_KEY (R134). -/
  | softwareReset (r : Requester) (v : Word)
  /-- A write to SYS_WDT_CTRL sets TIMEOUT and, with EN = 1 and a non-zero TIMEOUT, starts the watchdog (R134). -/
  | wdtStart (v : Word)
  /-- A write of 0xA55A to SYS_WDT_KICK restarts the watchdog count from TIMEOUT (R134). -/
  | wdtKick (v : Word)
  /-- The watchdog count expires and a system reset follows with cause watchdog (R134). -/
  | sysWdt
  /-- A write to a register with no row of its own acts on each field under its access code (R7). -/
  | registerWrite (r : Requester) (a v : Word)
  /-- DS_LC_CMD PROVISION from Blank, with an owner key programmed, is programmed to take effect at the next reset (R41). -/
  | provision (r : Requester) (confirm : Nat)
  /-- DS_LC_CMD SEAL from Provisioned is programmed to take effect at the next reset (R41). -/
  | sealOp (r : Requester) (confirm : Nat)
  /-- DS_LC_CMD RETURN with a valid token runs the Return sequence of Table 1.4, which ends in a reset (R41). -/
  | returnOp (r : Requester) (confirm : Nat)
  /-- A write to DS_TAG_QUERY looks up the tag of the addressed row and updates DS_TAG_RESULT (R19). -/
  | dsTagQuery (v : Word)
  /-- A write of 1 to DS_CTRL.VIOL_CNT_CLR clears DS_VIOL_CNT (R50). -/
  | violCntClr
  /-- A write to DS_CAP_FRAME lowers the frame cap from the next slot; a write that would raise it is ignored (R27). -/
  | dsCapFrameWrite (v : Word)
  /-- A write to DS_CAP_RATE lowers the rate cap from the next slot; a write that would raise it is ignored (R27). -/
  | dsCapRateWrite (v : Word)
  /-- A write of 1 to DS_DIG_CTRL.START starts an injected-pattern or stripe digest run, or refuses it with DS_DIGEST_DENIED (R42). -/
  | digestStart (r : Requester) (v : Word)
  /-- A digest run completes, the SHA-256 digest and histogram become valid, and a pending lifecycle command is carried out (R42). -/
  | digestDone (sha : BitVec 256) (hist : List Nat)
  /-- A debug halt request to a tile halts it, or ends and scrubs its task with DS_DEBUG_DENIED when the task tag is set (R36). -/
  | debugHaltTile (t : Fin 16) (q : DebugReq)
  /-- A partition's 1 s fault-report interval ends and, if faults were counted, one coalesced report is published (R37). -/
  | faultIntervalEnd (p : Fin 4)
  /-- A 100 ms slot of the local time base ends: the oldest slot ages out of the window, waiting charges are considered, and a budget frame starts while the sensor is stopped (R30). -/
  | budgetSlotAdvance
  /-- An output switch reaches thermal shutdown and the channel latches its fault (R64). -/
  | outThermalShutdown (n : Fin 2)
  /-- An output holds its current limit for the limit timeout and the channel latches its fault (R64). -/
  | outLimitTimeout (n : Fin 2)
  /-- An EG_RETRY instant arrives and a latched channel turns on for a retry if its level commands the switch on (R385). -/
  | outRetry (n : Fin 2)
  /-- A retry lasts one full current-limit timeout without the limit engaging, so the latch clears, CLEARED is set and an OUTPUT record is generated (R385). -/
  | outLatchClear (n : Fin 2)
  /-- A channel commanded off reads back low for 100 µs and sets its held-low-externally status (R65). -/
  | heldLowSet (n : Fin 2)
  /-- The readback stays above the high threshold for 100 µs and the held-low-externally status clears (R65). -/
  | heldLowClear (n : Fin 2)
  /-- A field input comparator first resolves after VDD_AON rises or a reset, and sets UNRESOLVED for a level inside the band (R68). -/
  | inputComparatorResolve (n : Fin 2) (l : InLevel)
  /-- A field input is sampled, every 1 ms or every 33 D8 ticks in Doze, and a debounced level change is accepted as an edge (R387). -/
  | inputSample (n : Fin 2) (l : InLevel)
  /-- The first charge transfer of a frame: the frame counter increments, a budget frame starts, and a free ring slot is taken or PX_RING_FULL is raised (R149). -/
  | frameInstant (means : Option (List Nat))
  /-- An exposure of a planned frame starts at its transfer instant minus its applied length (R140). -/
  | exposureStart (k : Fin 3)
  /-- A later exposure of the frame ends at its charge transfer and its sub-frame readout begins (R139). -/
  | chargeTransfer
  /-- A converted output or staging row is due and enters the crossing FIFO, or the frame is abandoned with PX_FIFO_OVF when the FIFO is full (R151). -/
  | ringRowWrite (r : PixRow) (held : Bool)
  /-- A ring row's bank handshake completes and is seen in D1, and a band increment is issued when a band is complete (R150). -/
  | ringRowAck (i : Nat)
  /-- Once every image row is acknowledged, the front end writes the slot header, updates exposure control and makes the final band increment (R148). -/
  | slotHeaderWrite
  /-- A write of 1 to PX_CTRL.RUN starts the sensor, or is refused with PX_STATE or PX_RING_GEOM (R158). -/
  | pxRunStart
  /-- A write of 0 to PX_CTRL.RUN starts no further exposure and lets frames in progress finish (R158). -/
  | pxRunStop
  /-- A write of 1 to PX_CTRL.APPLY checks the whole PX shadow set and copies it, or raises PX_CFG or PX_RING_GEOM (R155). -/
  | pxApply
  /-- A copied PX set takes effect at a frame instant, or once every hold mask is zero, after its ring geometry is checked again (R155). -/
  | pxApplyTakeEffect
  /-- A write of 1 to PX_RING_HOLD clears partition hold bits of ring slots (R149). -/
  | pxRingHoldRelease (high : Bool) (v : Word)
  /-- VDD_PIXA has been good for 20 ms and the sensor restarts itself (R164). -/
  | pxSupplyRestart
  /-- A task ends by END, fault, an external end, debug or TF_HANG; issuing stops and the untagged task's flags are published (R178). -/
  | taskEnd (t : Fin 16) (code : Nat) (row : Word)
  /-- The task-end scrub of tagged rows, tile state and counter tags completes, so the tile is idle for the next task (R39). -/
  | taskScrubDone (t : Fin 16) (waited : Nat)
  /-- A task exceeds its LIMIT while HANG_EN is 1 and is ended with TF_HANG (R196). -/
  | tfHang (t : Fin 16)
  /-- An issued row write completes its bank handshake and then increments its arrival counter where SIG is set (R171). -/
  | rowWriteLand (i : Nat) (clash : Option BankUser)
  /-- An access held at a bank under the waits outcome is admitted at the completion of the handshake it lost to, and completes (R213). -/
  | bankWaitAdmit (i : Nat)
  /-- CTL.NOP does nothing (R185). -/
  | nop (b : TileOp)
  /-- CTL.LDA loads a 32-bit value into an address register (R185). -/
  | lda (b : TileOp)
  /-- CTL.ADDA adds a signed immediate to an address register's ROW, modulo 2^19 (R185). -/
  | adda (b : TileOp)
  /-- CTL.LDL loads an immediate into a loop counter (R185). -/
  | ldl (b : TileOp)
  /-- CTL.LDLR loads a loop counter from a 16-bit element of a row (R185). -/
  | ldlr (b : TileOp)
  /-- CTL.LOOP decrements a non-zero loop counter and branches (R185). -/
  | loop (b : TileOp)
  /-- CTL.BNZ branches when a loop counter is non-zero, without decrementing it (R185). -/
  | bnz (b : TileOp)
  /-- CTL.JUMP branches by a signed offset, faulting with TF_PC outside the program rows (R185). -/
  | jump (b : TileOp)
  /-- CTL.SETM sets the task's FTZ bit in phase 3 of its bundle (R255). -/
  | setm (b : TileOp)
  /-- CTL.END ends the task (R178). -/
  | endOp (b : TileOp)
  /-- MOVE.COPY copies N rows, optionally asynchronously, with arrival signalling, spill requests and tag propagation (R185). -/
  | copy (b : TileOp)
  /-- MOVE.PUSH copies N rows to each named neighbour's near and increments counter CNT there (R185). -/
  | push (b : TileOp)
  /-- MOVE.LDV loads a row into a vector register (R185). -/
  | ldv (b : TileOp)
  /-- MOVE.STV stores a vector register into a row (R185). -/
  | stv (b : TileOp)
  /-- MMA.MM adds an exact block product into an accumulator, rounded once or clamped (R245). -/
  | mm (b : TileOp)
  /-- MMA.DRAIN writes an accumulator to rows in 32-bit, BF16 or FP16 form and optionally clears it (R247). -/
  | drain (b : TileOp)
  /-- VEC.ADD adds two operands elementwise in FMT (R248). -/
  | vecAdd (b : TileOp)
  /-- VEC.SUB subtracts two operands elementwise in FMT (R248). -/
  | vecSub (b : TileOp)
  /-- VEC.MUL multiplies two operands elementwise in FMT (R248). -/
  | vecMul (b : TileOp)
  /-- VEC.FMA computes VD + VA × VB exactly and rounds once (R248). -/
  | vecFma (b : TileOp)
  /-- VEC.MAX takes the elementwise maximum (R248). -/
  | vecMax (b : TileOp)
  /-- VEC.MIN takes the elementwise minimum (R248). -/
  | vecMin (b : TileOp)
  /-- VEC.LUT maps each element through the activation LUT, interpolating 16-bit operands (R249). -/
  | vecLut (b : TileOp)
  /-- VEC.LUTLD loads the activation LUT from a row (R249). -/
  | lutld (b : TileOp)
  /-- VEC.CVT converts elements from FMT to FMT2 over as many rows as needed (R250). -/
  | cvt (b : TileOp)
  /-- VEC.SCL multiplies every element by element 0 of VB (R248). -/
  | scl (b : TileOp)
  /-- RED.SUM sums each group exactly into a 32-bit result (R251). -/
  | redSum (b : TileOp)
  /-- RED.MAX gives the maximum of each group (R251). -/
  | redMax (b : TileOp)
  /-- RED.MIN gives the minimum of each group (R251). -/
  | redMin (b : TileOp)
  /-- RED.ARGMAX gives the index of the first maximum, or of the first NaN, of each group (R251). -/
  | argmax (b : TileOp)
  /-- RED.SUMSQ sums the squares of each group exactly (R251). -/
  | sumsq (b : TileOp)
  /-- GATH copies the table rows selected by an index row to destination rows (R185). -/
  | gath (b : TileOp)
  /-- TMASK.FILL replaces masked scores with the format's fill value, tree by tree (R252). -/
  | tmaskFill (b : TileOp)
  /-- TMASK.ZERO replaces masked scores with zero, tree by tree (R252). -/
  | tmaskZero (b : TileOp)
  /-- SYNC.WAIT waits until a counter reaches its threshold, subtracts it and takes the counter tag (R174). -/
  | syncWait (b : TileOp)
  /-- SYNC.SIG adds VALUE to a counter of this tile and of each named neighbour (R185). -/
  | syncSig (b : TileOp)
  /-- The 8 ms supervisor decision raises, lowers or holds the VDD_CORE request from the smallest margin (R189). -/
  | supervisorDecision
  /-- The 1 ms beat-rate measurement updates TF_BEAT_RATE, and sets SLOW with a ceiling request or clears it (R191). -/
  | beatMonitorMeasure (rate : Nat)
  /-- Each further minute that SLOW persists writes a further TF_SLOW_FLOOR Snag Log entry (R552). -/
  | slowFloorLog
  /-- A write to TF_SUP_MARGIN whose HI does not exceed LO is ignored whole (R189). -/
  | tfSupMarginWrite (v : Word)
  /-- A write of 1 to SP_CTRL.APPLY checks the SP shadow set and captures it, or raises SP_GEOM; it is ignored while an apply is pending (R207). -/
  | spApply (r : Requester)
  /-- Once no affected task runs, released banks are scrubbed and new banks are ready, the whole SP set takes effect (R207). -/
  | spApplyTakeEffect
  /-- A bank finishes powering up, zero-fill and any zero-initialisation, and its power bit reads 1 (R205). -/
  | bankReady (b : Nat)
  /-- The scrub of every tagged row in a bank leaving a partition, or in a released ring bank, completes (R218). -/
  | bankReleaseScrubDone (b waited : Nat)
  /-- At a frame instant, or each 100 ms budget frame while stopped, the spill engine starts a fixed sweep of every spilled row (R222). -/
  | spillSweepStart
  /-- The sweep reads one spilled row and serves every request-table entry waiting for it, or fails them with SP_SPILL_IO (R224). -/
  | spillSweepRow (io : Bool) (taken waited : Nat)
  /-- A sweep ends: queued spill writes and waiting narrow spill accesses are performed, and a late next sweep starts (R225). -/
  | spillSweepEnd
  /-- XS_RESET_N rises 10 µs after SP_XS_CFG.EN is set (R219). -/
  | xsResetRelease
  /-- A correct-path fetch by a core is checked and fills the I-cache, or faults (R124). -/
  | instructionFetch (c : Fin 5) (m : Met)
  /-- A core fetches a predicted-path line, which is counted and fills the I-cache only from an allowed, untagged row (R291). -/
  | wrongPathFetch (c : Fin 4) (a : Word) (m : Met)
  /-- A core load is checked, forwarded or issued, and its result is written in program order or faults precisely (R281). -/
  | coreLoad (c : Fin 5) (o : MemOp)
  /-- A core store is checked and enters the store buffer, merging where it can (R282). -/
  | coreStore (c : Fin 5) (o : MemOp)
  /-- A store-buffer entry drains to its target, recording any asynchronous error (R282). -/
  | storeBufferDrain (c : Fin 4) (i : Nat) (m : Met)
  /-- A combining-buffer entry drains its masked bytes as separate units (R276). -/
  | ntEntryDrain (c : Fin 4) (i : Nat) (m : Met)
  /-- FENCE waits until every earlier access is performed and every asynchronous error is recorded (R279). -/
  | fence (c : Fin 5)
  /-- FENCE.I acts as FENCE and also invalidates the core's I-cache (R279). -/
  | fenceI (c : Fin 5)
  /-- LR.W loads a word and reserves its 32-byte granule of cluster SRAM (R286). -/
  | lrW (c : Fin 5) (o : AtomicOp) (constrained : Bool)
  /-- SC.W stores only while the reservation holds, writes the result to rd, and clears the reservation (R286). -/
  | scW (c : Fin 5) (o : AtomicOp) (spurious : Bool)
  /-- An AMO*.W performs an atomic read-modify-write of a word at its cluster SRAM bank (R287). -/
  | amoW (c : Fin 5) (k : AmoKind) (o : AtomicOp)
  /-- 64 D3 cycles after the LR of a constrained loop, the SRAM releases the stores it held back (R288). -/
  | reservationHoldEnd (c : Fin 4)
  /-- WFI drains both buffers and stalls until an enabled interrupt is pending (R265). -/
  | wfi (c : Fin 5)
  /-- ECALL or EBREAK takes a trap (R263). -/
  | ecall (c : Fin 5) (brk : Bool)
  /-- MRET returns from a trap and clears the reservation (R263). -/
  | mret (c : Fin 5)
  /-- A Zicsr instruction reads or writes an implemented CSR, or raises an illegal-instruction exception (R264). -/
  | csrAccess (c : Fin 5) (o : CsrOp)
  /-- A pending, enabled machine interrupt is taken in MEI, MSI, MTI order (R265). -/
  | interruptTake (c : Fin 5)
  /-- CG.DISP offers a descriptor from cluster SRAM to a tile and returns started, busy, denied or refused (R269). -/
  | cgDisp (c : Fin 5) (rd rs1 rs2 : Fin 32)
  /-- CG.END ends a tile's running task and returns its result (R270). -/
  | cgEnd (c : Fin 5) (rd rs1 : Fin 32)
  /-- CG.SIG adds a value to a tile's arrival counter after the core's earlier accesses (R271). -/
  | cgSig (c : Fin 5) (rs1 rs2 : Fin 32)
  /-- CG.CNTRD returns a counter's state without consuming it (R272). -/
  | cgCntrd (c : Fin 5) (rd rs1 : Fin 32)
  /-- CG.NTSW stores a word into the non-temporal combining buffer (R275). -/
  | cgNtsw (c : Fin 5) (rs2 rs1 : Fin 32) (imm : BitVec 12)
  /-- A write of 1 to a CC_CTRL.CORE_RST bit resets one core after its accesses drain (R267). -/
  | coreRst (v : Word)
  /-- Clearing a CC_IRQ_PEND ASYNC bit also clears that core's asynchronous error registers (R298). -/
  | ccIrqPendClear (v : Word)
  /-- At a start instant the sequencer starts a frame task on every partition tile with public A1 and A2 (R304). -/
  | partitionFrameStart (p : Fin 4)
  /-- A tile that is not startable within 100 µs of the start instant causes the frame to be skipped (R304). -/
  | svTileBusy (p : Fin 4)
  /-- The last frame task ends: the margin is taken, flags are ORed, and the gate copies the candidates and count row (R305). -/
  | partitionFrameClose (p : Fin 4) (verdicts : List (Nat × List Byte)) (reqs : List AdmitWrite)
  /-- At the deadline instant the gate decides the frame's candidates, admits and releases records and zone decisions, and the hold bit is released (R24). -/
  | deadlineInstant (p : Fin 4)
  /-- A frame still open at its abandon instant is voided and its tasks are ended (R307). -/
  | frameAbandon (p : Fin 4)
  /-- The 1 s overrun interval ends, SV_OVERRUNp is updated, and SV_OVERRUN is raised if it is non-zero (R326). -/
  | overrunIntervalEnd (p : Fin 4)
  /-- Setting an SV_CTRL.EN bit starts the partition's frames from that frame number, with GAP (R303). -/
  | partitionEnable (p : Fin 4)
  /-- Clearing an SV_CTRL.EN bit starts no further frames and lets the frame in progress finish (R328). -/
  | partitionDisable (p : Fin 4)
  /-- Held SV_CFGp, SV_DEADLINEp and SV_CTABLEp writes take effect together at the epoch boundary (R308). -/
  | epochBoundaryApply (p : Fin 4)
  /-- PK_CS_CTRL.OPEN, or the CS_OPEN host operation, takes the change-set engine, or returns BUSY (R347). -/
  | csOpen (r : Requester)
  /-- The CS_WRITE host operation writes the change-set buffer from an offset (R415). -/
  | csWrite (r : Requester) (off : Nat) (bs : List Byte)
  /-- PK_CS_CTRL.SUBMIT, or the CS_SUBMIT host operation, submits the set for format and configuration checks (R348). -/
  | csSubmit (r : Requester)
  /-- PK_CS_CTRL.ABORT, or the CS_ABORT host operation, ends a set before its apply and undeclares staged banks (R361). -/
  | csAbort (r : Requester)
  /-- A submitted set passes its checks and becomes ready, or is refused (R348). -/
  | csCheckDone
  /-- Staging of a LOAD's new package ends and the set becomes ready (R354). -/
  | csStagingDone
  /-- At a boundary the engine applies a ready set if the boundary is usable, or ends it BUSY under REJECT (R351). -/
  | csBoundary (p : Fin 4)
  /-- Under DEFER with no usable boundary within 1 s, the engine suppresses one start instant and applies the set (R351). -/
  | csDeferTimeout (p : Fin 4)
  /-- A QUIESCE set disables partitions, waits for holds to clear, reloads packages and re-enables them (R358). -/
  | csQuiesce (io : Option (Fin 4 × Nat))
  /-- A change set held open by a host path for 10 s without SUBMIT or ABORT is aborted (R415). -/
  | csOpenTimeout
  /-- A channel's hold-off timer expires and the channel moves from ARMING to OCCUPIED (R382). -/
  | holdoffExpiry (n : Fin 2)
  /-- A channel's vacancy timer expires and the channel moves from RELEASING to VACANT (R382). -/
  | vacancyExpiry (n : Fin 2)
  /-- A write to EG_OUTn_CMD in MODE 0 sets the channel's logical state directly (R381). -/
  | outCmdWrite (n : Fin 2) (v : Word)
  /-- No decision for STALE seconds forces the channel to OCCUPIED and generates an OUTPUT record (R384). -/
  | outStale (n : Fin 2)
  /-- The link controller measures LK_REXT and opens the ports, or keeps them closed with LK_REXT (R399). -/
  | portOpen (ohms : Nat)
  /-- Every 500 µs an open port sends an HB ordered set with its address (R397). -/
  | heartbeatSend (p : Port)
  /-- A valid heartbeat trains a port to UP, updates the neighbour address and sets CHANGED or D_UNADDRESSED (R398). -/
  | heartbeatReceive (p : Port) (a c : Byte) (codeError : Bool)
  /-- An UP port with no valid heartbeat for 3.0 ms goes LOST, sets U_LOST or D_LOST and retrains (R411). -/
  | portLost (p : Port)
  /-- A frame arriving on the U port is checked, taken and/or forwarded cut-through on the D port (R403). -/
  | lathFrameRxU (f : RxFrame)
  /-- A frame arriving on the D port is forwarded upward through the two-frame buffer, or discarded with LK_FWD_OVF (R404). -/
  | lathFrameRxD (f : RxFrame)
  /-- The INFO host operation returns PART, UID, boot status, address and power state (R415). -/
  | info (p : HostPath)
  /-- The REG_READ host operation reads one register as the engine's own requester (R416). -/
  | regRead (p : HostPath)
  /-- The EVENTS host operation returns the path's event word and clears the masked sticky bits (R420). -/
  | events (p : HostPath)
  /-- DP_SETADDR sets the path's data pointer (R418). -/
  | dpSetaddr (p : HostPath)
  /-- DP_READ bursts 8-byte narrow reads from the pointer, ending at the first failing unit (R418). -/
  | dpRead (p : HostPath) (clash : Option (Nat × Met))
  /-- DP_WRITE bursts 8-byte narrow writes from the pointer, ending at the first failing unit (R418). -/
  | dpWrite (p : HostPath) (clash : Option (Nat × Met))
  /-- A valid SYNC frame drives the Plumb servo: step, slew or outlier handling, and the lock state (R446). -/
  | sync
  /-- ENUMERATE assigns the node's address and forwards the updated count or sends ENUM_DONE (R408). -/
  | enumerate
  /-- A DELAY request arriving on the D port is answered on the same port with TURN, FWD and PATH (R444). -/
  | delay (turn fwd : Nat)
  /-- On port UP, U_CHANGED, DELAY_NOW, an outlier or the DELAY_PERIOD, the node sends a DELAY request upstream (R444). -/
  | delayMeasureStart
  /-- A DELAY response gives d and PATH, or the measurement is discarded and retried (R443). -/
  | delayResponse
  /-- No DELAY response within 100 µs: the measurement is retried 1 ms later, and TM_PATH is raised after eight failures (R443). -/
  | delayTimeout
  /-- RECORD_READ offers whole records from the path's cursor and passes the previously offered ones (R419). -/
  | recordRead (p : HostPath)
  /-- MBOX_WRITE writes the mailbox from an offset, claiming it when it is idle (R525). -/
  | mboxWrite (p : HostPath)
  /-- MBOX_READ returns mailbox bytes (R415). -/
  | mboxRead (p : HostPath)
  /-- POWER_REQ hands a state request to the power controller once its own response has left (R495). -/
  | powerReq (p : HostPath)
  /-- A complete WAKE pattern for this node or broadcast raises a wake request, and is forwarded when the node is not dozing (R413). -/
  | wakePattern (target : Nat) (codeError : Bool)
  /-- Link energy present for 10 µs in Doze with ENERGY set raises a wake request (R414). -/
  | linkEnergyWake
  /-- The SPI STATUS command returns HP_STATUS, sampled again every 4 bytes (R422). -/
  | status (n : Nat)
  /-- The SPI REQUEST command writes a request, which is carried out when HSPI_CS_N rises if it is well formed (R423). -/
  | request (b : List Byte)
  /-- The quad REQUEST command (0x32) acts as REQUEST (R423). -/
  | requestQuad (b : List Byte)
  /-- The SPI RESPONSE command reads the response from its first byte (R423). -/
  | response (n : Nat)
  /-- The quad RESPONSE command (0x6B) acts as RESPONSE (R423). -/
  | responseQuad (n : Nat)
  /-- The SPI IRQ_CLEAR command clears the named sticky bits of HP_IRQ_STATUS (R422). -/
  | irqClear (mask : Word)
  /-- The SPI WAKE command raises a wake request in Skim or Doze (R422). -/
  | wake
  /-- An unknown SPI opcode sets CMD_ERR and the port stays silent until HSPI_CS_N rises (R422). -/
  | hpBadCmd (op : Byte)
  /-- The calendar's sub-second count completes a second, with trim, and the fields roll over; the alarm fires on a match (R435). -/
  | calendarRollover
  /-- The calendar oscillator produces no tick for 1 ms and OSC_STOP is set (R437). -/
  | oscStop
  /-- VBAT is sampled once per second and VBAT_LOW follows it (R437). -/
  | vbatSample (mv : Nat)
  /-- A write of 1 to TM_CTRL.RTC_SET checks the set fields and loads the calendar, or raises TM_CAL_RANGE (R438). -/
  | rtcSet
  /-- A write of 1 to TM_CTRL.CAPTURE copies the calendar, Plumb time and local time in one D4 cycle (R438). -/
  | capture
  /-- A write of 1 to TM_CTRL.DELAY_NOW starts a path-delay measurement (R444). -/
  | delayNow
  /-- No valid SYNC within 3 × J enters HOLDOVER and raises TM_SYNC_LOST (R447). -/
  | syncTimeout
  /-- When Plumb time crosses a multiple of 60 s while LOCKED with RTC_FOLLOW, the calendar is corrected if it is off by more than 2 ms (R449). -/
  | rtcFollowCheck
  /-- A write of 1 to AX_CTRL.START starts a software-triggered pass, or holds it, or counts it late (R462). -/
  | start
  /-- A write of 1 to AX_CTRL.SELFCAL requests aux self-calibration (R477). -/
  | selfcal
  /-- SYSCAL_ZERO converts 256 samples of an entry's zero input to store SOFF_k (R478). -/
  | syscalZero (k : Fin 16)
  /-- SYSCAL_FULL converts 256 samples of a full-scale input to store SGAIN_k, or raises AX_SYSCAL_FAIL (R478). -/
  | syscalFull (k : Fin 16)
  /-- Writing AX_SEL.RUN starts the sequencer on a valid live bank, or stops it after the running pass (R467). -/
  | axRun (run : Bool)
  /-- Writing AX_SEL.BANK switches the live bank at the next pass boundary, or is refused with AX_CFG (R467). -/
  | axBankSwitch (bank : Fin 2)
  /-- A write to AX_IMG_MASK sets imaging-class bits from the next pass, ignoring writes of 0 to set bits (R468). -/
  | axImgMaskWrite (v : Word)
  /-- A write of AX_SIG or AX_DEST that names a tile outside the destination partition clears AX_SIG.EN and raises AX_CFG (R471). -/
  | axSigWrite (dest : Bool) (v : Word)
  /-- With AUTO_PD, the converter powers up 80 clocks before a periodic due instant or after a trigger (R464). -/
  | axPowerUp
  /-- A pass starts on its software, continuous, periodic or frame trigger, or is counted late (R462). -/
  | axPassStart (late : Bool)
  /-- An entry's result completes and goes to AX_RESULTk, or to the pass's aux row when the entry is imaging-class (R469). -/
  | axEntryResult (raw : List Int)
  /-- A pass's last result completes: AX_PASS_CNT increments, an aux row is queued, and any bank switch takes effect (R461). -/
  | axPassEnd
  /-- An aux row's bank handshake completes and AX_SIG's counter is incremented with its tag (R471). -/
  | auxRowLanded (waited : Bool)
  /-- A self-calibration run ends and writes all ten factors together, or fails with AX_CAL_FAIL (R476). -/
  | selfcalDone (sums : List (Int × Int))
  /-- A system-calibration step ends and sets SYSCAL_DONE (R478). -/
  | syscalDone (raw : List Int)
  /-- A request for Trim, if not refused, gates unused tiles and caps the supervisor ceiling (R496). -/
  | enterTrim
  /-- A request for Skim, if not refused, suspends partitions, retains the cluster and tiles, and sets the LDO to low-power mode (R497). -/
  | enterSkim
  /-- A request for Doze, if not refused, suspends partitions, powers down the fabric and stops the reference (R500). -/
  | enterDoze
  /-- A request for Off, if not refused, performs the Doze steps, releases the outputs and holds (R503). -/
  | enterOff
  /-- A request to leave Trim removes the cap and ungates the tiles within 20 µs (R496). -/
  | leaveTrim
  /-- A wake request in Skim restores the voltage, ungates tiles and resumes the suspended partitions (R498). -/
  | wakeFromSkim
  /-- A wake request in Doze restarts the reference and VDD_CORE, reloads images and re-enters the resume state (R501). -/
  | wakeFromDoze
  /-- The low-power LDO load exceeds 13 mA for 5 µs and the LDO returns to normal mode (R507). -/
  | ldoHigh
  /-- The regulator answers an AVSBus write frame; a non-zero SlaveAck repeats the write up to twice (R509). -/
  | avsWriteAck (slaveAck : Fin 4)
  /-- An AVSBus read returns a voltage, and a value within ±1 % of the target acknowledges the request (R509). -/
  | avsReadResponse (mv : Nat)
  /-- No acknowledge within TIMEOUT: one read-back is issued, and LOST is set after three (R509). -/
  | pwAvsTimeout (readBack : Option Nat)
  /-- While LOST is set, a read is issued every 1 s, and a good answer clears LOST (R510). -/
  | avsLostPoll (answered : Bool)
  /-- The die temperatures are sampled and the thermal warning cap or the trip restart is applied or ended (R512). -/
  | tempSample (logic pixel memory : Int)
  /-- VDD_CORE undervoltage, or a VCORE_PG loss over 10 µs, starts a supply restart (R512). -/
  | vddCoreUv (pgLow : Bool)
  /-- VDD_MEM undervoltage starts a supply restart (R512). -/
  | vddMemUv
  /-- VDD_PIXA undervoltage abandons the sensor frame and the aux pass (R512). -/
  | vddPixaUv
  /-- The end condition of a supply restart holds and the Doze exit steps run (R513). -/
  | supplyRestartEnd (cond : Nat)
  /-- The owner's write of DOORBELL.GO moves the mailbox to BUSY and the supervisor takes the command (R525). -/
  | mboxDoorbell (r : Requester) (v : Word)
  /-- A FILLING mailbox with no doorbell for 10 s returns to IDLE (R525). -/
  | mboxFillTimeout
  /-- The mailbox INFO command returns status, versions, boot slots and fuse counts (R526). -/
  | mboxInfo
  /-- SNAG_READ returns up to 63 Snag Log entries, newest first (R526). -/
  | snagRead
  /-- UPD_BEGIN checks a slot and erases it, or raises MG_UPD_SLOT (R533). -/
  | updBegin
  /-- UPD_DATA programs payload pages into the slot and reads them back (R534). -/
  | updData
  /-- UPD_FINISH reads the image back and checks it by its MAGIC (R534). -/
  | updFinish
  /-- UPD_ABORT ends the update, leaving the slot as written (R535). -/
  | updAbort
  /-- An update with no command from its owner for 60 s is aborted (R535). -/
  | updTimeout
  /-- ARB_ADVANCE programs anti-rollback fuses up to N when every loaded image allows it (R536). -/
  | arbAdvance
  /-- KEY_PROGRAM programs an owner key slot digest, with authorisation in Provisioned (R527). -/
  | keyProgram
  /-- KEY_REVOKE revokes a key slot under authorisation (R527). -/
  | keyRevoke
  /-- POLICY_PROGRAM sets further policy fuse bits (R538). -/
  | policyProgram
  /-- The LIFECYCLE command issues PROVISION, SEAL or RETURN through DS_LC_CMD (R539). -/
  | lifecycle
  /-- The mailbox RESET command writes its response and then resets the device (R526). -/
  | reset
  /-- A mailbox command 0x8000 to 0xFFFF is passed to the management firmware, or ends with MG_MBOX_CMD (R526). -/
  | mboxFirmwareCmd (status res0 res1 : Nat) (payload : List Byte)
  /-- FZ_PROG_CMD OP 1 programs a key slot's digest (R538). -/
  | fzProgKey (r : Requester) (slot : Fin 4)
  /-- FZ_PROG_CMD OP 2 sets a slot's revoked fuses (R538). -/
  | fzProgRevoke (r : Requester) (slot : Fin 4)
  /-- FZ_PROG_CMD OP 3 programs anti-rollback steps (R538). -/
  | fzProgArb (r : Requester)
  /-- FZ_PROG_CMD OP 4 programs policy fuse bits (R538). -/
  | fzProgPolicy (r : Requester)
  /-- FZ_PROG_CMD OP 5 draws entropy and programs the pseudonym secret K (R538). -/
  | pseudoGen (r : Requester)
  /-- A queued Snag Log entry is written at the write point, erasing its sector first at a sector start (R529). -/
  | snagEntryWrite
  /-- An NVM program or erase exceeds its timeout or fails read-back (R542). -/
  | mgNvmProg (left : List Byte)
  /-- A write of 0x4D47 to MG_WDT_KICK restarts the 2 s management watchdog (R523). -/
  | mgWdtKick (r : Requester) (v : Word)
  /-- The management watchdog expires and a system reset follows with cause watchdog (R523). -/
  | mgWdt
  /-- VDDIO rises through its good threshold after the mode has latched and is reported good, which lets boot step 5 drive VCORE_EN (R57). -/
  | vddioGood
  /-- VDDIO falls below 1.5 V and the latched I/O mode is released, ready to be detected afresh on the next rise (R57). -/
  | vddioFall
  /-- VDD_MEM rises above its undervoltage threshold during boot, and step 8 then powers and scrubs the banks (R86). -/
  | vddMemGood
  /-- The always-on load exceeds 15 mA in low-power mode before the LDO returns to normal mode, so the always-on domain browns out and resets with the PW_LDO_OVL flag set (R507). -/
  | ldoOverload
  /-- The debug port halts, steps or resumes a control core or the management core, draining its combining buffer at halt entry, subject to Table 17.9 (R296). -/
  | debugHaltCore (c : Fin 5) (q : CoreDebug)
  /-- A memory or register access by the debug access port is checked against REQ_DBG, the lifecycle rules and the row tag, and is performed or refused with an error status (R131). -/
  | debugPortAccess (a : Word) (size : Fin 3) (data : Option Word) (m : Met)
  /-- An NVM page program or erase completes when the write-in-progress bit clears, so the entry or update data is read back and the waiting command answers (R542). -/
  | writeInProgressClear
  /-- A fuse program, including lifecycle state bits, completes with read-back, setting FZ_PROG_STATUS.DONE or DS_LC_STATUS.DONE and DS_LC.PENDING (R538). -/
  | fuseProgramDone (ok : Bool) (part : Nat)
deriving DecidableEq, Repr

end Sys2Proof
end

