-- ==== Sys2Proof/Decode.lean ====
section
/-! DEFINITION. The command that a word spells by the bits of spec/opcode_table.json. The table gives none of its rows
any bits (every row's fields are empty): its rows are events, and no word spells one. -/

namespace Sys2Proof

/-- No row of the table has bits, so every word is turned down. -/
def decodeTableWord (_nbits _w : Nat) : Option Instr := none

end Sys2Proof
end

