-- ==== Sys2Proof/Config.lean ====
section
/-! DEFINITION. What an implementation or an outside standard fixes and the spec leaves open: opaque
constants, which nothing in Lean can evaluate. -/

namespace Sys2Proof.Config

/-- SHA-256 of a byte string (an outside standard, FIPS 180-4), as a 256-bit number, byte 0 least significant. -/
opaque sha256 : List Byte → BitVec 256

/-- Ed25519 verification (RFC 8032, pure): public key, message, signature. -/
opaque ed25519 : List Byte → List Byte → List Byte → Bool

/-- The n-th free value of the run, for a value the spec leaves open after a step that goes on. -/
opaque freeValue : Nat → BitVec 64

/-- The bytes of the boot ROM, by offset: fixed in the mask and printed nowhere in the spec (R123). -/
opaque bootRom : Nat → Byte

/-- Digests of the serving kernels the boot ROM holds (R301): fixed in the mask and printed nowhere. -/
opaque kernelHeld : BitVec 256 → Bool

/-- The Ed25519 public key whose SHA-256 digest a key slot holds; an authorisation carries no key of its own. -/
opaque slotKey : BitVec 256 → List Byte

/-- The n-th secret the fuse controller's entropy source gives after conditioning (R538). -/
opaque entropy : Nat → BitVec 256

/-- What word `j` of key slot `k`'s digest reads as while its fuse words cannot be corrected (R537). -/
opaque badFuse : Nat → Nat → BitVec 32

/-- Where the serving kernel keeps its tables in the serving area (R302), which the spec does not lay out: does row `r` of
the area hold table `t` (0, 1 the copies of the stream table, 2 the selector row, 3 the admit queue, 4 the work lists, 5 the
tree masks), and which row holds the verdict of item `i`? -/
opaque servTable : Nat → Nat → Bool
opaque verdictRow : Nat → Nat

/-- The n-th free row of the run, for row contents the spec leaves open. -/
opaque freeRow : Nat → BitVec 4096

end Sys2Proof.Config
end

