-- ==== Sys2Proof/Machine/Flags.lean ====
section
/-! DEFINITION. The five sticky numeric flags of a task (R243, Table 8.3). -/

namespace Sys2Proof.Machine

/-- The sticky flags NX, UF, OF, NV and SAT (Table 8.3). -/
structure NumFlags where
  nx : Bool := false
  uf : Bool := false
  ov : Bool := false
  nv : Bool := false
  sat : Bool := false
deriving DecidableEq, Repr

/-- No flag set. -/
def noFlags : NumFlags := { nx := false, uf := false, ov := false, nv := false, sat := false }

/-- The union of two sets of flags: flags are set, never cleared, during a task (R243). -/
def orFlags (a b : NumFlags) : NumFlags :=
  { nx := a.nx || b.nx, uf := a.uf || b.uf, ov := a.ov || b.ov, nv := a.nv || b.nv,
    sat := a.sat || b.sat }

/-- The flags as the bits of Table 8.3. -/
def flagBits (f : NumFlags) : Nat :=
  bit f.nx + 2 * bit f.uf + 4 * bit f.ov + 8 * bit f.nv + 16 * bit f.sat

/-- Only NX. -/
def onlyNx : NumFlags := { noFlags with nx := true }
/-- UF and NX. -/
def ufNx : NumFlags := { noFlags with uf := true, nx := true }
/-- OF and NX. -/
def ofNx : NumFlags := { noFlags with ov := true, nx := true }
/-- Only OF. -/
def onlyOf : NumFlags := { noFlags with ov := true }
/-- Only NV. -/
def onlyNv : NumFlags := { noFlags with nv := true }
/-- Only SAT. -/
def onlySat : NumFlags := { noFlags with sat := true }

end Sys2Proof.Machine
end

