-- ==== Sys2Proof/Machine/RegMap.lean ====
section
/-! DEFINITION. The register map of the sixteen blocks, written from the spec's own register tables:
every register's address, its reset value and the access code of its fields (R7, Table 0.6), and a name
for every field. A field whose reset the spec gives as F (fuses), Kept (VBAT domain) or a dash holds 0
here; the boot meanings load it. -/

namespace Sys2Proof.Machine

/-- A field of a register: the register's address and the field's bit range [hi:lo]. -/
structure RegField where
  addr : Nat
  hi : Nat
  lo : Nat
deriving DecidableEq, Repr

/-- One row of a block's register map: `count` registers from `base`, `stride` bytes apart, with the
reset value and the bits of each writable access code (Table 0.6). -/
structure RegRow where
  base : Nat
  stride : Nat
  count : Nat
  reset : Nat
  rw : Nat
  w1c : Nat
  wo : Nat
deriving DecidableEq, Repr

/-! ## SYS (Tables 4.13 to 4.19, spec/04_layout_table_and_address_map.md), default base 0x10000000 -/

namespace Reg
def SYS_VERSION : Nat := 0x10000000
def SYS_BOOT_STATUS : Nat := 0x10000004
def SYS_BOOT_CODE : Nat := 0x10000008
def SYS_RESET_CAUSE : Nat := 0x1000000C
def SYS_BOOT_SLOTS : Nat := 0x10000010
def SYS_SWRESET : Nat := 0x10000014
def SYS_WDT_CTRL : Nat := 0x10000018
def SYS_WDT_KICK : Nat := 0x1000001C
def SYS_UID_LO : Nat := 0x10000020
def SYS_UID_HI : Nat := 0x10000024
def SYS_ERR_STATUS : Nat := 0x10000030
def SYS_ERR_CODE : Nat := 0x10000034
def SYS_ERR_ADDR : Nat := 0x10000038
def SYS_ERR_CNT : Nat := 0x1000003C
end Reg

namespace Fld
def SYS_BOOT_STATUS_PHASE : RegField := ⟨Reg.SYS_BOOT_STATUS, 1, 0⟩
def SYS_BOOT_STATUS_BOOT_DONE : RegField := ⟨Reg.SYS_BOOT_STATUS, 2, 2⟩
def SYS_BOOT_STATUS_PRIMER : RegField := ⟨Reg.SYS_BOOT_STATUS, 5, 4⟩
def SYS_BOOT_STATUS_EXCLUDED : RegField := ⟨Reg.SYS_BOOT_STATUS, 10, 8⟩
def SYS_BOOT_STATUS_RETRIES : RegField := ⟨Reg.SYS_BOOT_STATUS, 17, 16⟩
def SYS_BOOT_CODE_CODE : RegField := ⟨Reg.SYS_BOOT_CODE, 15, 0⟩
def SYS_BOOT_CODE_DETAIL : RegField := ⟨Reg.SYS_BOOT_CODE, 31, 16⟩
def SYS_RESET_CAUSE_CAUSE : RegField := ⟨Reg.SYS_RESET_CAUSE, 2, 0⟩
def SYS_BOOT_SLOTS_MGMT_FW : RegField := ⟨Reg.SYS_BOOT_SLOTS, 1, 0⟩
def SYS_BOOT_SLOTS_CLUSTER_FW : RegField := ⟨Reg.SYS_BOOT_SLOTS, 3, 2⟩
def SYS_BOOT_SLOTS_PART0 : RegField := ⟨Reg.SYS_BOOT_SLOTS, 5, 4⟩
def SYS_BOOT_SLOTS_PART1 : RegField := ⟨Reg.SYS_BOOT_SLOTS, 7, 6⟩
def SYS_BOOT_SLOTS_PART2 : RegField := ⟨Reg.SYS_BOOT_SLOTS, 9, 8⟩
def SYS_BOOT_SLOTS_PART3 : RegField := ⟨Reg.SYS_BOOT_SLOTS, 11, 10⟩
def SYS_SWRESET_KEY : RegField := ⟨Reg.SYS_SWRESET, 31, 16⟩
def SYS_WDT_CTRL_EN : RegField := ⟨Reg.SYS_WDT_CTRL, 0, 0⟩
def SYS_WDT_CTRL_TIMEOUT : RegField := ⟨Reg.SYS_WDT_CTRL, 31, 16⟩
def SYS_WDT_KICK_KEY : RegField := ⟨Reg.SYS_WDT_KICK, 15, 0⟩
def SYS_UID_LO_UID : RegField := ⟨Reg.SYS_UID_LO, 31, 0⟩
def SYS_UID_HI_UID : RegField := ⟨Reg.SYS_UID_HI, 31, 0⟩
def SYS_ERR_STATUS_FLAGS : RegField := ⟨Reg.SYS_ERR_STATUS, 5, 0⟩
def SYS_ERR_CODE_CODE : RegField := ⟨Reg.SYS_ERR_CODE, 15, 0⟩
def SYS_ERR_CODE_SRC : RegField := ⟨Reg.SYS_ERR_CODE, 23, 16⟩
def SYS_ERR_ADDR_ADDR : RegField := ⟨Reg.SYS_ERR_ADDR, 31, 0⟩
def SYS_ERR_CNT_COUNT : RegField := ⟨Reg.SYS_ERR_CNT, 15, 0⟩
end Fld

/-! ## DS (Tables 1.7 to 1.15, spec/01_dust_sheet.md), default base 0x10010000 -/

namespace Reg
def DS_VERSION : Nat := 0x10010000
def DS_LC : Nat := 0x10010004
def DS_LC_CMD : Nat := 0x10010008
def DS_LC_STATUS : Nat := 0x1001000C
def DS_FUSE_POLICY : Nat := 0x10010010
def DS_BUDGET_FRAME : Nat := 0x10010014
def DS_BUDGET_RATE : Nat := 0x10010018
def DS_CAP_FRAME : Nat := 0x1001001C
def DS_CAP_RATE : Nat := 0x10010020
def DS_WIN_USED : Nat := 0x10010024
def DS_FRAME_USED : Nat := 0x10010028
def DS_VIOL_STATUS : Nat := 0x10010030
def DS_VIOL_CODE : Nat := 0x10010034
def DS_VIOL_ADDR : Nat := 0x10010038
def DS_VIOL_CNT : Nat := 0x1001003C
def DS_TAG_QUERY : Nat := 0x10010040
def DS_TAG_RESULT : Nat := 0x10010044
def DS_CTRL : Nat := 0x10010048
def DS_DIG_CTRL : Nat := 0x10010060
def DS_DIG_STATUS : Nat := 0x10010064
def DS_DIG_SHA (k : Nat) : Nat := 0x10010080 + 4 * k
def DS_LC_TOKEN (k : Nat) : Nat := 0x10010100 + 4 * k
def DS_DIG_HIST (k : Nat) : Nat := 0x10010200 + 4 * k
end Reg

namespace Fld
def DS_LC_STATE : RegField := ⟨Reg.DS_LC, 2, 0⟩
def DS_LC_PENDING : RegField := ⟨Reg.DS_LC, 3, 3⟩
def DS_LC_CMD_CMD : RegField := ⟨Reg.DS_LC_CMD, 3, 0⟩
def DS_LC_CMD_CONFIRM : RegField := ⟨Reg.DS_LC_CMD, 31, 16⟩
def DS_LC_STATUS_BUSY : RegField := ⟨Reg.DS_LC_STATUS, 0, 0⟩
def DS_LC_STATUS_DONE : RegField := ⟨Reg.DS_LC_STATUS, 1, 1⟩
def DS_LC_STATUS_FAIL : RegField := ⟨Reg.DS_LC_STATUS, 2, 2⟩
def DS_LC_STATUS_CODE : RegField := ⟨Reg.DS_LC_STATUS, 31, 16⟩
def DS_FUSE_POLICY_FRAME_CUT : RegField := ⟨Reg.DS_FUSE_POLICY, 6, 0⟩
def DS_FUSE_POLICY_RATE_CUT : RegField := ⟨Reg.DS_FUSE_POLICY, 14, 8⟩
def DS_FUSE_POLICY_SCHEMA_FORBID : RegField := ⟨Reg.DS_FUSE_POLICY, 22, 16⟩
def DS_FUSE_POLICY_AUX_ALL_TAGGED : RegField := ⟨Reg.DS_FUSE_POLICY, 24, 24⟩
def DS_BUDGET_FRAME_BITS : RegField := ⟨Reg.DS_BUDGET_FRAME, 13, 0⟩
def DS_BUDGET_RATE_BPS : RegField := ⟨Reg.DS_BUDGET_RATE, 16, 0⟩
def DS_CAP_FRAME_BITS : RegField := ⟨Reg.DS_CAP_FRAME, 13, 0⟩
def DS_CAP_RATE_BPS : RegField := ⟨Reg.DS_CAP_RATE, 16, 0⟩
def DS_WIN_USED_BITS : RegField := ⟨Reg.DS_WIN_USED, 19, 0⟩
def DS_FRAME_USED_BITS : RegField := ⟨Reg.DS_FRAME_USED, 13, 0⟩
def DS_VIOL_STATUS_FLAGS : RegField := ⟨Reg.DS_VIOL_STATUS, 11, 0⟩
def DS_VIOL_CODE_CODE : RegField := ⟨Reg.DS_VIOL_CODE, 15, 0⟩
def DS_VIOL_CODE_SRC : RegField := ⟨Reg.DS_VIOL_CODE, 23, 16⟩
def DS_VIOL_ADDR_ADDR : RegField := ⟨Reg.DS_VIOL_ADDR, 31, 0⟩
def DS_VIOL_CNT_COUNT : RegField := ⟨Reg.DS_VIOL_CNT, 15, 0⟩
def DS_TAG_QUERY_ADDR : RegField := ⟨Reg.DS_TAG_QUERY, 31, 0⟩
def DS_TAG_RESULT_TAGGED : RegField := ⟨Reg.DS_TAG_RESULT, 0, 0⟩
def DS_TAG_RESULT_VALID : RegField := ⟨Reg.DS_TAG_RESULT, 1, 1⟩
def DS_CTRL_VIOL_CNT_CLR : RegField := ⟨Reg.DS_CTRL, 0, 0⟩
def DS_DIG_CTRL_MODE : RegField := ⟨Reg.DS_DIG_CTRL, 1, 0⟩
def DS_DIG_CTRL_PATTERN : RegField := ⟨Reg.DS_DIG_CTRL, 7, 4⟩
def DS_DIG_CTRL_STRIPE : RegField := ⟨Reg.DS_DIG_CTRL, 11, 8⟩
def DS_DIG_CTRL_START : RegField := ⟨Reg.DS_DIG_CTRL, 16, 16⟩
def DS_DIG_STATUS_BUSY : RegField := ⟨Reg.DS_DIG_STATUS, 0, 0⟩
def DS_DIG_STATUS_DONE : RegField := ⟨Reg.DS_DIG_STATUS, 1, 1⟩
def DS_DIG_STATUS_DENIED : RegField := ⟨Reg.DS_DIG_STATUS, 2, 2⟩
def DS_DIG_SHA_DIGEST (k : Nat) : RegField := ⟨Reg.DS_DIG_SHA k, 31, 0⟩
def DS_LC_TOKEN_TOKEN (k : Nat) : RegField := ⟨Reg.DS_LC_TOKEN k, 31, 0⟩
def DS_DIG_HIST_BINS (k : Nat) : RegField := ⟨Reg.DS_DIG_HIST k, 31, 0⟩
end Fld

/-! ## PX (Tables 5.9 to 5.12, spec/05_pixel_front_end.md), default base 0x10020000 -/

namespace Reg
def PX_VERSION : Nat := 0x10020000
def PX_CTRL : Nat := 0x10020004
def PX_STATUS : Nat := 0x10020008
def PX_MODE : Nat := 0x1002000C
def PX_FRAME_PERIOD : Nat := 0x10020010
def PX_EXP_MAX : Nat := 0x10020014
def PX_EXP_MIN : Nat := 0x10020018
def PX_EXP_RATIO : Nat := 0x1002001C
def PX_AE_TARGET : Nat := 0x10020020
def PX_DCG_RATIO : Nat := 0x10020024
def PX_KNEE : Nat := 0x10020028
def PX_BLACK : Nat := 0x1002002C
def PX_DPC_THRESH : Nat := 0x10020030
def PX_SKIM_PERIOD : Nat := 0x10020034
def PX_RING_BANKS : Nat := 0x10020040
def PX_RING_SLOTS : Nat := 0x10020044
def PX_RING_READERS : Nat := 0x10020048
def PX_RING_SIG (k : Nat) : Nat := 0x10020050 + 4 * k
def PX_RING_HOLD_LO : Nat := 0x10020060
def PX_RING_HOLD_HI : Nat := 0x10020064
def PX_RING_LAST : Nat := 0x10020068
def PX_LOCK_CTRL : Nat := 0x10020070
def PX_LOCK_T0_LO : Nat := 0x10020074
def PX_LOCK_T0_HI : Nat := 0x10020078
def PX_LOCK_SLIP : Nat := 0x1002007C
def PX_FRAME_CNT : Nat := 0x10020080
def PX_DROP_CNT : Nat := 0x10020084
def PX_CONFLICT_CNT : Nat := 0x10020088
def PX_ERR_STATUS : Nat := 0x1002008C
def PX_ERR_CODE : Nat := 0x10020090
def PX_LAST_T_LO : Nat := 0x10020094
def PX_LAST_T_HI : Nat := 0x10020098
end Reg

namespace Fld
def PX_CTRL_RUN : RegField := ⟨Reg.PX_CTRL, 0, 0⟩
def PX_CTRL_APPLY : RegField := ⟨Reg.PX_CTRL, 1, 1⟩
def PX_STATUS_STATE : RegField := ⟨Reg.PX_STATUS, 1, 0⟩
def PX_STATUS_APPLY_PENDING : RegField := ⟨Reg.PX_STATUS, 2, 2⟩
def PX_STATUS_LOCKED : RegField := ⟨Reg.PX_STATUS, 3, 3⟩
def PX_MODE_MODE : RegField := ⟨Reg.PX_MODE, 1, 0⟩
def PX_MODE_FMT : RegField := ⟨Reg.PX_MODE, 3, 2⟩
def PX_MODE_E : RegField := ⟨Reg.PX_MODE, 5, 4⟩
def PX_MODE_DCG : RegField := ⟨Reg.PX_MODE, 6, 6⟩
def PX_MODE_DPC_EN : RegField := ⟨Reg.PX_MODE, 7, 7⟩
def PX_MODE_AE_EN : RegField := ⟨Reg.PX_MODE, 8, 8⟩
def PX_MODE_BL_AUTO : RegField := ⟨Reg.PX_MODE, 9, 9⟩
def PX_FRAME_PERIOD_PERIOD : RegField := ⟨Reg.PX_FRAME_PERIOD, 31, 0⟩
def PX_EXP_MAX_EMAX : RegField := ⟨Reg.PX_EXP_MAX, 26, 0⟩
def PX_EXP_MIN_EMIN : RegField := ⟨Reg.PX_EXP_MIN, 26, 0⟩
def PX_EXP_RATIO_S2 : RegField := ⟨Reg.PX_EXP_RATIO, 2, 0⟩
def PX_EXP_RATIO_S3 : RegField := ⟨Reg.PX_EXP_RATIO, 6, 4⟩
def PX_AE_TARGET_TARGET : RegField := ⟨Reg.PX_AE_TARGET, 19, 0⟩
def PX_DCG_RATIO_RATIO : RegField := ⟨Reg.PX_DCG_RATIO, 15, 0⟩
def PX_KNEE_KNEE : RegField := ⟨Reg.PX_KNEE, 11, 0⟩
def PX_BLACK_LEVEL : RegField := ⟨Reg.PX_BLACK, 11, 0⟩
def PX_BLACK_PEDESTAL : RegField := ⟨Reg.PX_BLACK, 27, 16⟩
def PX_DPC_THRESH_THRESH : RegField := ⟨Reg.PX_DPC_THRESH, 11, 0⟩
def PX_SKIM_PERIOD_PERIOD : RegField := ⟨Reg.PX_SKIM_PERIOD, 31, 0⟩
def PX_RING_BANKS_FIRST : RegField := ⟨Reg.PX_RING_BANKS, 5, 0⟩
def PX_RING_BANKS_COUNT : RegField := ⟨Reg.PX_RING_BANKS, 14, 8⟩
def PX_RING_SLOTS_SLOTS : RegField := ⟨Reg.PX_RING_SLOTS, 4, 0⟩
def PX_RING_READERS_MASK : RegField := ⟨Reg.PX_RING_READERS, 3, 0⟩
def PX_RING_SIG_TILE (k : Nat) : RegField := ⟨Reg.PX_RING_SIG k, 3, 0⟩
def PX_RING_SIG_COUNTER (k : Nat) : RegField := ⟨Reg.PX_RING_SIG k, 7, 4⟩
def PX_RING_SIG_BAND (k : Nat) : RegField := ⟨Reg.PX_RING_SIG k, 17, 8⟩
def PX_RING_SIG_EN (k : Nat) : RegField := ⟨Reg.PX_RING_SIG k, 31, 31⟩
def PX_RING_HOLD_LO_HOLD : RegField := ⟨Reg.PX_RING_HOLD_LO, 31, 0⟩
def PX_RING_HOLD_HI_HOLD : RegField := ⟨Reg.PX_RING_HOLD_HI, 31, 0⟩
def PX_RING_LAST_SLOT : RegField := ⟨Reg.PX_RING_LAST, 3, 0⟩
def PX_LOCK_CTRL_EN : RegField := ⟨Reg.PX_LOCK_CTRL, 0, 0⟩
def PX_LOCK_T0_LO_T0 : RegField := ⟨Reg.PX_LOCK_T0_LO, 31, 0⟩
def PX_LOCK_T0_HI_T0 : RegField := ⟨Reg.PX_LOCK_T0_HI, 31, 0⟩
def PX_LOCK_SLIP_COUNT : RegField := ⟨Reg.PX_LOCK_SLIP, 15, 0⟩
def PX_FRAME_CNT_COUNT : RegField := ⟨Reg.PX_FRAME_CNT, 31, 0⟩
def PX_DROP_CNT_COUNT : RegField := ⟨Reg.PX_DROP_CNT, 15, 0⟩
def PX_CONFLICT_CNT_COUNT : RegField := ⟨Reg.PX_CONFLICT_CNT, 31, 0⟩
def PX_ERR_STATUS_FLAGS : RegField := ⟨Reg.PX_ERR_STATUS, 6, 0⟩
def PX_ERR_CODE_CODE : RegField := ⟨Reg.PX_ERR_CODE, 15, 0⟩
def PX_LAST_T_LO_T : RegField := ⟨Reg.PX_LAST_T_LO, 31, 0⟩
def PX_LAST_T_HI_T : RegField := ⟨Reg.PX_LAST_T_HI, 31, 0⟩
end Fld

/-! ## TF (Tables 6.21 and 6.22, spec/06_tile_fabric.md), default base 0x10030000 -/

namespace Reg
def TF_VERSION : Nat := 0x10030000
def TF_CTRL : Nat := 0x10030004
def TF_BEAT_RATE : Nat := 0x10030008
def TF_SUP_CTRL : Nat := 0x10030010
def TF_SUP_CEIL : Nat := 0x10030014
def TF_SUP_MARGIN : Nat := 0x10030018
def TF_SUP_VFUSE : Nat := 0x1003001C
def TF_SUP_STATUS : Nat := 0x10030020
def TF_SUP_EVENTS : Nat := 0x10030024
def TF_FAULT_STATUS : Nat := 0x10030030
def TF_FAULT_CODE : Nat := 0x10030034
def TF_FAULT_PC : Nat := 0x10030038
def TF_FAULT_ADDR : Nat := 0x1003003C
def TF_FAULT_CNT : Nat := 0x10030040
def TF_CNT_SEL : Nat := 0x10030050
def TF_CNT_VAL : Nat := 0x10030054
def TF_TILE_STATUS (k : Nat) : Nat := 0x10030100 + 4 * k
end Reg

namespace Fld
def TF_CTRL_HANG_EN : RegField := ⟨Reg.TF_CTRL, 0, 0⟩
def TF_BEAT_RATE_RATE : RegField := ⟨Reg.TF_BEAT_RATE, 15, 0⟩
def TF_SUP_CTRL_EN : RegField := ⟨Reg.TF_SUP_CTRL, 0, 0⟩
def TF_SUP_CTRL_STEP : RegField := ⟨Reg.TF_SUP_CTRL, 15, 8⟩
def TF_SUP_CTRL_LOWER_AFTER : RegField := ⟨Reg.TF_SUP_CTRL, 19, 16⟩
def TF_SUP_CEIL_CEIL : RegField := ⟨Reg.TF_SUP_CEIL, 9, 0⟩
def TF_SUP_MARGIN_LO : RegField := ⟨Reg.TF_SUP_MARGIN, 15, 0⟩
def TF_SUP_MARGIN_HI : RegField := ⟨Reg.TF_SUP_MARGIN, 31, 16⟩
def TF_SUP_VFUSE_VFUSE : RegField := ⟨Reg.TF_SUP_VFUSE, 9, 0⟩
def TF_SUP_STATUS_REQ : RegField := ⟨Reg.TF_SUP_STATUS, 9, 0⟩
def TF_SUP_STATUS_SATURATED : RegField := ⟨Reg.TF_SUP_STATUS, 16, 16⟩
def TF_SUP_STATUS_AVS_WAIT : RegField := ⟨Reg.TF_SUP_STATUS, 17, 17⟩
def TF_SUP_STATUS_SLOW : RegField := ⟨Reg.TF_SUP_STATUS, 18, 18⟩
def TF_SUP_STATUS_AT_FLOOR : RegField := ⟨Reg.TF_SUP_STATUS, 19, 19⟩
def TF_SUP_EVENTS_RAISES : RegField := ⟨Reg.TF_SUP_EVENTS, 15, 0⟩
def TF_SUP_EVENTS_LOWERS : RegField := ⟨Reg.TF_SUP_EVENTS, 31, 16⟩
def TF_FAULT_STATUS_FLAGS : RegField := ⟨Reg.TF_FAULT_STATUS, 7, 0⟩
def TF_FAULT_CODE_CODE : RegField := ⟨Reg.TF_FAULT_CODE, 15, 0⟩
def TF_FAULT_CODE_TILE : RegField := ⟨Reg.TF_FAULT_CODE, 19, 16⟩
def TF_FAULT_CODE_PART : RegField := ⟨Reg.TF_FAULT_CODE, 21, 20⟩
def TF_FAULT_CODE_COALESCED : RegField := ⟨Reg.TF_FAULT_CODE, 31, 24⟩
def TF_FAULT_PC_PC : RegField := ⟨Reg.TF_FAULT_PC, 31, 0⟩
def TF_FAULT_ADDR_ROW : RegField := ⟨Reg.TF_FAULT_ADDR, 31, 0⟩
def TF_FAULT_CNT_COUNT : RegField := ⟨Reg.TF_FAULT_CNT, 15, 0⟩
def TF_CNT_SEL_TILE : RegField := ⟨Reg.TF_CNT_SEL, 3, 0⟩
def TF_CNT_SEL_COUNTER : RegField := ⟨Reg.TF_CNT_SEL, 7, 4⟩
def TF_CNT_VAL_VALUE : RegField := ⟨Reg.TF_CNT_VAL, 15, 0⟩
def TF_CNT_VAL_TAG : RegField := ⟨Reg.TF_CNT_VAL, 16, 16⟩
def TF_CNT_VAL_VALID : RegField := ⟨Reg.TF_CNT_VAL, 17, 17⟩
def TF_TILE_STATUS_STATE (k : Nat) : RegField := ⟨Reg.TF_TILE_STATUS k, 1, 0⟩
def TF_TILE_STATUS_TAGGED (k : Nat) : RegField := ⟨Reg.TF_TILE_STATUS k, 2, 2⟩
def TF_TILE_STATUS_PART (k : Nat) : RegField := ⟨Reg.TF_TILE_STATUS k, 5, 4⟩
def TF_TILE_STATUS_TASK_ID (k : Nat) : RegField := ⟨Reg.TF_TILE_STATUS k, 31, 16⟩
end Fld

/-! ## SP (Tables 7.8 to 7.12, spec/07_scratchpad_memory.md), default base 0x10040000 -/

namespace Reg
def SP_VERSION : Nat := 0x10040000
def SP_CTRL : Nat := 0x10040004
def SP_STATUS : Nat := 0x10040008
def SP_FAR_PWR (k : Nat) : Nat := 0x10040010 + 4 * k
def SP_BANKMODE_F (k : Nat) : Nat := 0x10040018 + 4 * k
def SP_FAR_ZINIT (k : Nat) : Nat := 0x10040020 + 4 * k
def SP_TILE_PART (k : Nat) : Nat := 0x10040028 + 4 * k
def SP_FAR_OWNER (k : Nat) : Nat := 0x10040040 + 4 * k
def SP_NEAR_DECL (k : Nat) : Nat := 0x10040080 + 4 * k
def SP_BANKMODE_N (k : Nat) : Nat := 0x100400C0 + 4 * k
def SP_NEAR_ZINIT (k : Nat) : Nat := 0x10040100 + 4 * k
def SP_NEAR_PWR (k : Nat) : Nat := 0x10040140 + 4 * k
def SP_SPILL_BASE (k : Nat) : Nat := 0x10040200 + 8 * k
def SP_SPILL_SIZE (k : Nat) : Nat := 0x10040204 + 8 * k
def SP_XS_CFG : Nat := 0x10040220
def SP_XS_CMD : Nat := 0x10040224
def SP_XS_STATUS : Nat := 0x10040228
def SP_ERR_STATUS : Nat := 0x10040240
def SP_ERR_CODE : Nat := 0x10040244
def SP_ERR_ADDR : Nat := 0x10040248
def SP_CONFLICT_CNT : Nat := 0x1004024C
def SP_WAIT_CNT : Nat := 0x10040250
def SP_ECC_CNT : Nat := 0x10040254
def SP_SPILL_RETRY : Nat := 0x10040258
def SP_SWEEP_LATE : Nat := 0x1004025C
def SP_RS_CTRL (k : Nat) : Nat := 0x10040400 + 32 * k
def SP_RS_NEAR (k : Nat) : Nat := 0x10040404 + 32 * k
def SP_RS_NBR (k : Nat) : Nat := 0x10040408 + 32 * k
def SP_RS_TASK_BASE (k : Nat) : Nat := 0x1004040C + 32 * k
def SP_RS_TASK_SIZE (k : Nat) : Nat := 0x10040410 + 32 * k
def SP_RS_PART_BASE (k : Nat) : Nat := 0x10040414 + 32 * k
def SP_RS_PART_SIZE (k : Nat) : Nat := 0x10040418 + 32 * k
end Reg

namespace Fld
def SP_CTRL_APPLY : RegField := ⟨Reg.SP_CTRL, 0, 0⟩
def SP_STATUS_APPLY_PENDING : RegField := ⟨Reg.SP_STATUS, 0, 0⟩
def SP_STATUS_SCRUB_BUSY : RegField := ⟨Reg.SP_STATUS, 1, 1⟩
def SP_STATUS_ZERO_BUSY : RegField := ⟨Reg.SP_STATUS, 2, 2⟩
def SP_STATUS_BOOT_MAP : RegField := ⟨Reg.SP_STATUS, 3, 3⟩
def SP_FAR_PWR_PWR (k : Nat) : RegField := ⟨Reg.SP_FAR_PWR k, 31, 0⟩
def SP_BANKMODE_F_NARROW (k : Nat) : RegField := ⟨Reg.SP_BANKMODE_F k, 31, 0⟩
def SP_FAR_ZINIT_ZINIT (k : Nat) : RegField := ⟨Reg.SP_FAR_ZINIT k, 31, 0⟩
def SP_NEAR_DECL_DECL (k : Nat) : RegField := ⟨Reg.SP_NEAR_DECL k, 31, 0⟩
def SP_BANKMODE_N_NARROW (k : Nat) : RegField := ⟨Reg.SP_BANKMODE_N k, 31, 0⟩
def SP_NEAR_ZINIT_ZINIT (k : Nat) : RegField := ⟨Reg.SP_NEAR_ZINIT k, 31, 0⟩
def SP_NEAR_PWR_PWR (k : Nat) : RegField := ⟨Reg.SP_NEAR_PWR k, 31, 0⟩
def SP_SPILL_BASE_ROW (k : Nat) : RegField := ⟨Reg.SP_SPILL_BASE k, 20, 0⟩
def SP_SPILL_SIZE_ROWS (k : Nat) : RegField := ⟨Reg.SP_SPILL_SIZE k, 17, 0⟩
def SP_XS_CFG_EN : RegField := ⟨Reg.SP_XS_CFG, 0, 0⟩
def SP_XS_CFG_LATENCY : RegField := ⟨Reg.SP_XS_CFG, 12, 8⟩
def SP_XS_CFG_SIZE : RegField := ⟨Reg.SP_XS_CFG, 25, 16⟩
def SP_XS_CMD_READ : RegField := ⟨Reg.SP_XS_CMD, 7, 0⟩
def SP_XS_CMD_WRITE : RegField := ⟨Reg.SP_XS_CMD, 15, 8⟩
def SP_XS_STATUS_READY : RegField := ⟨Reg.SP_XS_STATUS, 0, 0⟩
def SP_XS_STATUS_SWEEP : RegField := ⟨Reg.SP_XS_STATUS, 1, 1⟩
def SP_XS_STATUS_CLK_100 : RegField := ⟨Reg.SP_XS_STATUS, 2, 2⟩
def SP_XS_STATUS_PENDING : RegField := ⟨Reg.SP_XS_STATUS, 24, 16⟩
def SP_ERR_STATUS_FLAGS : RegField := ⟨Reg.SP_ERR_STATUS, 7, 0⟩
def SP_ERR_CODE_CODE : RegField := ⟨Reg.SP_ERR_CODE, 15, 0⟩
def SP_ERR_CODE_SRC : RegField := ⟨Reg.SP_ERR_CODE, 23, 16⟩
def SP_ERR_ADDR_ADDR : RegField := ⟨Reg.SP_ERR_ADDR, 31, 0⟩
def SP_CONFLICT_CNT_COUNT : RegField := ⟨Reg.SP_CONFLICT_CNT, 31, 0⟩
def SP_WAIT_CNT_COUNT : RegField := ⟨Reg.SP_WAIT_CNT, 31, 0⟩
def SP_ECC_CNT_COUNT : RegField := ⟨Reg.SP_ECC_CNT, 15, 0⟩
def SP_SPILL_RETRY_COUNT : RegField := ⟨Reg.SP_SPILL_RETRY, 15, 0⟩
def SP_SWEEP_LATE_COUNT : RegField := ⟨Reg.SP_SWEEP_LATE, 15, 0⟩
def SP_RS_CTRL_VALID (k : Nat) : RegField := ⟨Reg.SP_RS_CTRL k, 0, 0⟩
def SP_RS_CTRL_PART (k : Nat) : RegField := ⟨Reg.SP_RS_CTRL k, 5, 4⟩
def SP_RS_CTRL_SPILL (k : Nat) : RegField := ⟨Reg.SP_RS_CTRL k, 8, 8⟩
def SP_RS_NEAR_BASE (k : Nat) : RegField := ⟨Reg.SP_RS_NEAR k, 11, 0⟩
def SP_RS_NEAR_SIZE (k : Nat) : RegField := ⟨Reg.SP_RS_NEAR k, 28, 16⟩
def SP_RS_NBR_BASE (k : Nat) : RegField := ⟨Reg.SP_RS_NBR k, 11, 0⟩
def SP_RS_NBR_SIZE (k : Nat) : RegField := ⟨Reg.SP_RS_NBR k, 28, 16⟩
def SP_RS_TASK_BASE_ROW (k : Nat) : RegField := ⟨Reg.SP_RS_TASK_BASE k, 18, 0⟩
def SP_RS_TASK_SIZE_ROWS (k : Nat) : RegField := ⟨Reg.SP_RS_TASK_SIZE k, 18, 0⟩
def SP_RS_PART_BASE_ROW (k : Nat) : RegField := ⟨Reg.SP_RS_PART_BASE k, 18, 0⟩
def SP_RS_PART_SIZE_ROWS (k : Nat) : RegField := ⟨Reg.SP_RS_PART_SIZE k, 18, 0⟩
def SP_FAR_OWNER_OWNER (bank : Nat) : RegField := ⟨Reg.SP_FAR_OWNER (bank / 8), 4 * (bank % 8) + 3, 4 * (bank % 8)⟩
def SP_TILE_PART_PART (t : Nat) : RegField := ⟨Reg.SP_TILE_PART (t / 8), 4 * (t % 8) + 3, 4 * (t % 8)⟩
end Fld

/-! ## CC (Tables 9.9 and 9.10, spec/09_control_cores_and_ordering.md), default base 0x10050000 -/

namespace Reg
def CC_VERSION : Nat := 0x10050000
def CC_CTRL : Nat := 0x10050004
def CC_STATUS : Nat := 0x10050008
def CC_DISP_MASK : Nat := 0x1005000C
def CC_BOOT_ADDR (k : Nat) : Nat := 0x10050010 + 4 * k
def CC_MTIME_LO : Nat := 0x10050020
def CC_MTIME_HI : Nat := 0x10050024
def CC_MTIMECMP_LO (k : Nat) : Nat := 0x10050030 + 8 * k
def CC_MTIMECMP_HI (k : Nat) : Nat := 0x10050034 + 8 * k
def CC_MSIP : Nat := 0x10050050
def CC_IRQ_EN (k : Nat) : Nat := 0x10050060 + 4 * k
def CC_IRQ_PEND : Nat := 0x10050070
def CC_FAULT_CODE (k : Nat) : Nat := 0x10050080 + 16 * k
def CC_FAULT_ADDR (k : Nat) : Nat := 0x10050084 + 16 * k
def CC_ASYNC_CODE (k : Nat) : Nat := 0x10050088 + 16 * k
def CC_ASYNC_ADDR (k : Nat) : Nat := 0x1005008C + 16 * k
def CC_WRONGPATH_FETCH_LO (k : Nat) : Nat := 0x100500C0 + 8 * k
def CC_WRONGPATH_FETCH_HI (k : Nat) : Nat := 0x100500C4 + 8 * k
def CC_ERR_STATUS : Nat := 0x100500E0
def CC_ERR_CODE : Nat := 0x100500E4
def CC_ECC_CNT : Nat := 0x100500E8
end Reg

namespace Fld
def CC_CTRL_CORE_RST : RegField := ⟨Reg.CC_CTRL, 3, 0⟩
def CC_STATUS_RUNNING : RegField := ⟨Reg.CC_STATUS, 3, 0⟩
def CC_STATUS_WFI : RegField := ⟨Reg.CC_STATUS, 7, 4⟩
def CC_STATUS_HALTED : RegField := ⟨Reg.CC_STATUS, 11, 8⟩
def CC_DISP_MASK_TILES : RegField := ⟨Reg.CC_DISP_MASK, 15, 0⟩
def CC_BOOT_ADDR_ADDR (k : Nat) : RegField := ⟨Reg.CC_BOOT_ADDR k, 31, 0⟩
def CC_MTIME_LO_TIME : RegField := ⟨Reg.CC_MTIME_LO, 31, 0⟩
def CC_MTIME_HI_TIME : RegField := ⟨Reg.CC_MTIME_HI, 31, 0⟩
def CC_MTIMECMP_LO_CMP (k : Nat) : RegField := ⟨Reg.CC_MTIMECMP_LO k, 31, 0⟩
def CC_MTIMECMP_HI_CMP (k : Nat) : RegField := ⟨Reg.CC_MTIMECMP_HI k, 31, 0⟩
def CC_MSIP_MSIP : RegField := ⟨Reg.CC_MSIP, 3, 0⟩
def CC_IRQ_EN_EN (k : Nat) : RegField := ⟨Reg.CC_IRQ_EN k, 15, 0⟩
def CC_IRQ_PEND_ASYNC : RegField := ⟨Reg.CC_IRQ_PEND, 3, 0⟩
def CC_IRQ_PEND_TASK_END : RegField := ⟨Reg.CC_IRQ_PEND, 4, 4⟩
def CC_IRQ_PEND_TILE_FAULT : RegField := ⟨Reg.CC_IRQ_PEND, 5, 5⟩
def CC_IRQ_PEND_SP_APPLY : RegField := ⟨Reg.CC_IRQ_PEND, 6, 6⟩
def CC_IRQ_PEND_PX : RegField := ⟨Reg.CC_IRQ_PEND, 7, 7⟩
def CC_IRQ_PEND_BLOCK : RegField := ⟨Reg.CC_IRQ_PEND, 15, 8⟩
def CC_FAULT_CODE_CODE (k : Nat) : RegField := ⟨Reg.CC_FAULT_CODE k, 15, 0⟩
def CC_FAULT_ADDR_ADDR (k : Nat) : RegField := ⟨Reg.CC_FAULT_ADDR k, 31, 0⟩
def CC_ASYNC_CODE_CODE (k : Nat) : RegField := ⟨Reg.CC_ASYNC_CODE k, 15, 0⟩
def CC_ASYNC_CODE_COUNT (k : Nat) : RegField := ⟨Reg.CC_ASYNC_CODE k, 23, 16⟩
def CC_ASYNC_ADDR_ADDR (k : Nat) : RegField := ⟨Reg.CC_ASYNC_ADDR k, 31, 0⟩
def CC_WRONGPATH_FETCH_LO_COUNT (k : Nat) : RegField := ⟨Reg.CC_WRONGPATH_FETCH_LO k, 31, 0⟩
def CC_WRONGPATH_FETCH_HI_COUNT (k : Nat) : RegField := ⟨Reg.CC_WRONGPATH_FETCH_HI k, 31, 0⟩
def CC_ERR_STATUS_FLAGS : RegField := ⟨Reg.CC_ERR_STATUS, 4, 0⟩
def CC_ERR_CODE_CODE : RegField := ⟨Reg.CC_ERR_CODE, 15, 0⟩
def CC_ERR_CODE_CORE : RegField := ⟨Reg.CC_ERR_CODE, 17, 16⟩
def CC_ECC_CNT_COUNT : RegField := ⟨Reg.CC_ECC_CNT, 15, 0⟩
end Fld

/-! ## SV (Tables 10.7 and 10.8, spec/10_stream_serving.md), default base 0x10060000 -/

namespace Reg
def SV_VERSION : Nat := 0x10060000
def SV_CTRL : Nat := 0x10060004
def SV_STATUS : Nat := 0x10060008
def SV_ERR_STATUS : Nat := 0x1006000C
def SV_ERR_CODE : Nat := 0x10060010
def SV_CFGPOLICY : Nat := 0x10060014
def SV_CFG (k : Nat) : Nat := 0x10060100 + 32 * k
def SV_DEADLINE (k : Nat) : Nat := 0x10060104 + 32 * k
def SV_CTABLE (k : Nat) : Nat := 0x10060108 + 32 * k
def SV_OVERRUN (k : Nat) : Nat := 0x1006010C + 32 * k
def SV_NUMFLAGS (k : Nat) : Nat := 0x10060110 + 32 * k
def SV_DESC (t j : Nat) : Nat := 0x10060400 + 64 * t + 4 * j
end Reg

namespace Fld
def SV_CTRL_EN : RegField := ⟨Reg.SV_CTRL, 3, 0⟩
def SV_ERR_STATUS_FLAGS : RegField := ⟨Reg.SV_ERR_STATUS, 4, 0⟩
def SV_ERR_CODE_CODE : RegField := ⟨Reg.SV_ERR_CODE, 15, 0⟩
def SV_ERR_CODE_PART : RegField := ⟨Reg.SV_ERR_CODE, 17, 16⟩
def SV_CFGPOLICY_REJECT : RegField := ⟨Reg.SV_CFGPOLICY, 3, 0⟩
def SV_CFG_DIV (k : Nat) : RegField := ⟨Reg.SV_CFG k, 3, 0⟩
def SV_CFG_MODE (k : Nat) : RegField := ⟨Reg.SV_CFG k, 4, 4⟩
def SV_CFG_SKIM (k : Nat) : RegField := ⟨Reg.SV_CFG k, 5, 5⟩
def SV_CFG_FAULT_LIMIT (k : Nat) : RegField := ⟨Reg.SV_CFG k, 11, 8⟩
def SV_DEADLINE_US (k : Nat) : RegField := ⟨Reg.SV_DEADLINE k, 15, 0⟩
def SV_CTABLE_ROW (k : Nat) : RegField := ⟨Reg.SV_CTABLE k, 18, 0⟩
def SV_OVERRUN_COUNT (k : Nat) : RegField := ⟨Reg.SV_OVERRUN k, 7, 0⟩
def SV_NUMFLAGS_FLAGS (k : Nat) : RegField := ⟨Reg.SV_NUMFLAGS k, 4, 0⟩
def SV_STATUS_STATE (p : Nat) : RegField := ⟨Reg.SV_STATUS, 2 * p + 1, 2 * p⟩
end Fld

/-! ## PK (Tables 11.11 and 11.12, spec/11_model_packages_and_live_change.md), default base 0x10070000 -/

namespace Reg
def PK_VERSION : Nat := 0x10070000
def PK_CS_CTRL : Nat := 0x10070004
def PK_CS_STATUS : Nat := 0x10070008
def PK_CS_CODE : Nat := 0x1007000C
def PK_CS_TAG : Nat := 0x10070010
def PK_CS_FRAME : Nat := 0x10070014
def PK_CS_TAPPLY : Nat := 0x10070018
def PK_PART_STATUS (k : Nat) : Nat := 0x10070024 + 16 * k
def PK_PART_VERSION (k : Nat) : Nat := 0x10070028 + 16 * k
def PK_PART_CODE (k : Nat) : Nat := 0x1007002C + 16 * k
def PK_ERR_STATUS : Nat := 0x10070060
def PK_ERR_CODE : Nat := 0x10070064
end Reg

namespace Fld
def PK_CS_CTRL_OPEN : RegField := ⟨Reg.PK_CS_CTRL, 0, 0⟩
def PK_CS_CTRL_SUBMIT : RegField := ⟨Reg.PK_CS_CTRL, 1, 1⟩
def PK_CS_CTRL_ABORT : RegField := ⟨Reg.PK_CS_CTRL, 2, 2⟩
def PK_CS_STATUS_STATE : RegField := ⟨Reg.PK_CS_STATUS, 3, 0⟩
def PK_CS_STATUS_OWNER : RegField := ⟨Reg.PK_CS_STATUS, 6, 4⟩
def PK_CS_STATUS_CORE : RegField := ⟨Reg.PK_CS_STATUS, 9, 8⟩
def PK_CS_CODE_CODE : RegField := ⟨Reg.PK_CS_CODE, 15, 0⟩
def PK_CS_CODE_DETAIL : RegField := ⟨Reg.PK_CS_CODE, 31, 16⟩
def PK_CS_TAG_TAG : RegField := ⟨Reg.PK_CS_TAG, 15, 0⟩
def PK_CS_FRAME_FRAME : RegField := ⟨Reg.PK_CS_FRAME, 31, 0⟩
def PK_CS_TAPPLY_NS : RegField := ⟨Reg.PK_CS_TAPPLY, 19, 0⟩
def PK_PART_STATUS_STATE (k : Nat) : RegField := ⟨Reg.PK_PART_STATUS k, 1, 0⟩
def PK_PART_STATUS_SLOT (k : Nat) : RegField := ⟨Reg.PK_PART_STATUS k, 3, 2⟩
def PK_PART_STATUS_KERNEL_REV (k : Nat) : RegField := ⟨Reg.PK_PART_STATUS k, 31, 16⟩
def PK_PART_VERSION_VERSION (k : Nat) : RegField := ⟨Reg.PK_PART_VERSION k, 31, 0⟩
def PK_PART_CODE_CODE (k : Nat) : RegField := ⟨Reg.PK_PART_CODE k, 15, 0⟩
def PK_ERR_STATUS_FLAGS : RegField := ⟨Reg.PK_ERR_STATUS, 19, 0⟩
def PK_ERR_CODE_CODE : RegField := ⟨Reg.PK_ERR_CODE, 15, 0⟩
def PK_ERR_CODE_OWNER : RegField := ⟨Reg.PK_ERR_CODE, 18, 16⟩
end Fld

/-! ## EG (Tables 12.8 and 12.9, spec/12_result_records_and_outputs.md), default base 0x10080000 -/

namespace Reg
def EG_VERSION : Nat := 0x10080000
def EG_SHARE (k : Nat) : Nat := 0x10080010 + 4 * k
def EG_QUEUE_STATUS : Nat := 0x10080020
def EG_QUEUE_LOST : Nat := 0x10080024
def EG_SEQ : Nat := 0x10080028
def EG_OUT_CFG (k : Nat) : Nat := 0x10080040 + 16 * k
def EG_OUT_HOLDOFF (k : Nat) : Nat := 0x10080044 + 16 * k
def EG_OUT_VACDELAY (k : Nat) : Nat := 0x10080048 + 16 * k
def EG_OUT_CMD (k : Nat) : Nat := 0x1008004C + 16 * k
def EG_OUT_STATUS : Nat := 0x10080060
def EG_FAULT : Nat := 0x10080064
def EG_RETRY : Nat := 0x10080068
def EG_FAULT_CNT : Nat := 0x1008006C
def EG_IN_CFG (k : Nat) : Nat := 0x10080080 + 8 * k
def EG_IN_STATUS : Nat := 0x10080090
def EG_IN_EVENT : Nat := 0x10080094
def EG_IN_EDGES : Nat := 0x10080098
def EG_ERR_STATUS : Nat := 0x100800A0
def EG_ERR_CODE : Nat := 0x100800A4
end Reg

namespace Fld
def EG_SHARE_SHARE (k : Nat) : RegField := ⟨Reg.EG_SHARE k, 6, 0⟩
def EG_QUEUE_STATUS_BYTES : RegField := ⟨Reg.EG_QUEUE_STATUS, 16, 0⟩
def EG_QUEUE_STATUS_NONEMPTY : RegField := ⟨Reg.EG_QUEUE_STATUS, 20, 20⟩
def EG_QUEUE_LOST_COUNT : RegField := ⟨Reg.EG_QUEUE_LOST, 31, 0⟩
def EG_SEQ_SEQ : RegField := ⟨Reg.EG_SEQ, 31, 0⟩
def EG_OUT_CFG_MODE (k : Nat) : RegField := ⟨Reg.EG_OUT_CFG k, 1, 0⟩
def EG_OUT_CFG_POL (k : Nat) : RegField := ⟨Reg.EG_OUT_CFG k, 2, 2⟩
def EG_OUT_CFG_UNK_OCC (k : Nat) : RegField := ⟨Reg.EG_OUT_CFG k, 3, 3⟩
def EG_OUT_CFG_PART (k : Nat) : RegField := ⟨Reg.EG_OUT_CFG k, 5, 4⟩
def EG_OUT_CFG_ZONE (k : Nat) : RegField := ⟨Reg.EG_OUT_CFG k, 11, 6⟩
def EG_OUT_CFG_IN_SEL (k : Nat) : RegField := ⟨Reg.EG_OUT_CFG k, 12, 12⟩
def EG_OUT_CFG_STALE (k : Nat) : RegField := ⟨Reg.EG_OUT_CFG k, 31, 16⟩
def EG_OUT_HOLDOFF_MS (k : Nat) : RegField := ⟨Reg.EG_OUT_HOLDOFF k, 15, 0⟩
def EG_OUT_VACDELAY_S (k : Nat) : RegField := ⟨Reg.EG_OUT_VACDELAY k, 15, 0⟩
def EG_OUT_CMD_OCC (k : Nat) : RegField := ⟨Reg.EG_OUT_CMD k, 0, 0⟩
def EG_RETRY_MS : RegField := ⟨Reg.EG_RETRY, 15, 0⟩
def EG_FAULT_CNT_CH0 : RegField := ⟨Reg.EG_FAULT_CNT, 15, 0⟩
def EG_FAULT_CNT_CH1 : RegField := ⟨Reg.EG_FAULT_CNT, 31, 16⟩
def EG_IN_CFG_DEBOUNCE (k : Nat) : RegField := ⟨Reg.EG_IN_CFG k, 7, 0⟩
def EG_IN_CFG_INV (k : Nat) : RegField := ⟨Reg.EG_IN_CFG k, 8, 8⟩
def EG_IN_CFG_RISE_EV (k : Nat) : RegField := ⟨Reg.EG_IN_CFG k, 9, 9⟩
def EG_IN_CFG_FALL_EV (k : Nat) : RegField := ⟨Reg.EG_IN_CFG k, 10, 10⟩
def EG_IN_EDGES_IN0 : RegField := ⟨Reg.EG_IN_EDGES, 15, 0⟩
def EG_IN_EDGES_IN1 : RegField := ⟨Reg.EG_IN_EDGES, 31, 16⟩
def EG_ERR_STATUS_FLAGS : RegField := ⟨Reg.EG_ERR_STATUS, 3, 0⟩
def EG_ERR_CODE_CODE : RegField := ⟨Reg.EG_ERR_CODE, 15, 0⟩
def EG_ERR_CODE_CHANNEL : RegField := ⟨Reg.EG_ERR_CODE, 16, 16⟩
def EG_OUT_STATUS_ON (n : Nat) : RegField := ⟨Reg.EG_OUT_STATUS, 8 * n + 0, 8 * n + 0⟩
def EG_OUT_STATUS_HELD_LOW (n : Nat) : RegField := ⟨Reg.EG_OUT_STATUS, 8 * n + 1, 8 * n + 1⟩
def EG_OUT_STATUS_LEVEL (n : Nat) : RegField := ⟨Reg.EG_OUT_STATUS, 8 * n + 2, 8 * n + 2⟩
def EG_FAULT_LATCHED (n : Nat) : RegField := ⟨Reg.EG_FAULT, 8 * n + 0, 8 * n + 0⟩
def EG_FAULT_CAUSE (n : Nat) : RegField := ⟨Reg.EG_FAULT, 8 * n + 2, 8 * n + 1⟩
def EG_FAULT_CLEARED (n : Nat) : RegField := ⟨Reg.EG_FAULT, 8 * n + 3, 8 * n + 3⟩
def EG_IN_STATUS_LEVEL (n : Nat) : RegField := ⟨Reg.EG_IN_STATUS, 8 * n + 0, 8 * n + 0⟩
def EG_IN_STATUS_UNRESOLVED (n : Nat) : RegField := ⟨Reg.EG_IN_STATUS, 8 * n + 1, 8 * n + 1⟩
def EG_IN_STATUS_RAW (n : Nat) : RegField := ⟨Reg.EG_IN_STATUS, 8 * n + 2, 8 * n + 2⟩
def EG_IN_EVENT_RISE (n : Nat) : RegField := ⟨Reg.EG_IN_EVENT, 8 * n + 0, 8 * n + 0⟩
def EG_IN_EVENT_FALL (n : Nat) : RegField := ⟨Reg.EG_IN_EVENT, 8 * n + 1, 8 * n + 1⟩
end Fld

/-! ## LK (Table 13.11, spec/13_lath_link_and_host_port.md), default base 0x10090000 -/

namespace Reg
def LK_VERSION : Nat := 0x10090000
def LK_CFG : Nat := 0x10090004
def LK_WAKE_CFG : Nat := 0x10090008
def LK_ATTN_EN : Nat := 0x1009000C
def LK_STATUS : Nat := 0x10090010
def LK_EVENT : Nat := 0x10090014
def LK_REXT : Nat := 0x10090018
def LK_TX_SEQ : Nat := 0x1009001C
def LK_DATA_ADDR : Nat := 0x10090020
def LK_CRC_CNT : Nat := 0x10090030
def LK_CODE_CNT : Nat := 0x10090034
def LK_DROP_CNT : Nat := 0x10090038
def LK_REPLAY_CNT : Nat := 0x1009003C
def LK_ERR_STATUS : Nat := 0x10090040
def LK_ERR_CODE : Nat := 0x10090044
end Reg

namespace Fld
def LK_CFG_ADDR_MODE : RegField := ⟨Reg.LK_CFG, 0, 0⟩
def LK_CFG_FIXED_ADDR : RegField := ⟨Reg.LK_CFG, 14, 8⟩
def LK_CFG_RECORDS : RegField := ⟨Reg.LK_CFG, 16, 16⟩
def LK_CFG_PORT_EN : RegField := ⟨Reg.LK_CFG, 20, 20⟩
def LK_WAKE_CFG_ENERGY : RegField := ⟨Reg.LK_WAKE_CFG, 0, 0⟩
def LK_WAKE_CFG_PATTERN : RegField := ⟨Reg.LK_WAKE_CFG, 1, 1⟩
def LK_ATTN_EN_EN : RegField := ⟨Reg.LK_ATTN_EN, 14, 0⟩
def LK_STATUS_ADDR : RegField := ⟨Reg.LK_STATUS, 6, 0⟩
def LK_STATUS_U_STATE : RegField := ⟨Reg.LK_STATUS, 9, 8⟩
def LK_STATUS_D_STATE : RegField := ⟨Reg.LK_STATUS, 11, 10⟩
def LK_STATUS_CHAIN_END : RegField := ⟨Reg.LK_STATUS, 12, 12⟩
def LK_STATUS_REXT_FAIL : RegField := ⟨Reg.LK_STATUS, 13, 13⟩
def LK_STATUS_U_NBR : RegField := ⟨Reg.LK_STATUS, 23, 16⟩
def LK_STATUS_D_NBR : RegField := ⟨Reg.LK_STATUS, 31, 24⟩
def LK_EVENT_EVENTS : RegField := ⟨Reg.LK_EVENT, 14, 0⟩
def LK_REXT_OHMS : RegField := ⟨Reg.LK_REXT, 9, 0⟩
def LK_TX_SEQ_SEQ : RegField := ⟨Reg.LK_TX_SEQ, 15, 0⟩
def LK_DATA_ADDR_ADDR : RegField := ⟨Reg.LK_DATA_ADDR, 31, 0⟩
def LK_CRC_CNT_U : RegField := ⟨Reg.LK_CRC_CNT, 15, 0⟩
def LK_CRC_CNT_D : RegField := ⟨Reg.LK_CRC_CNT, 31, 16⟩
def LK_CODE_CNT_U : RegField := ⟨Reg.LK_CODE_CNT, 15, 0⟩
def LK_CODE_CNT_D : RegField := ⟨Reg.LK_CODE_CNT, 31, 16⟩
def LK_DROP_CNT_RX_DROP : RegField := ⟨Reg.LK_DROP_CNT, 15, 0⟩
def LK_DROP_CNT_FWD_OVF : RegField := ⟨Reg.LK_DROP_CNT, 31, 16⟩
def LK_REPLAY_CNT_COUNT : RegField := ⟨Reg.LK_REPLAY_CNT, 15, 0⟩
def LK_ERR_STATUS_FLAGS : RegField := ⟨Reg.LK_ERR_STATUS, 7, 0⟩
def LK_ERR_CODE_CODE : RegField := ⟨Reg.LK_ERR_CODE, 15, 0⟩
end Fld

/-! ## HP (Table 13.12, spec/13_lath_link_and_host_port.md), default base 0x100A0000 -/

namespace Reg
def HP_VERSION : Nat := 0x100A0000
def HP_CFG : Nat := 0x100A0004
def HP_IRQ_EN : Nat := 0x100A0008
def HP_STATUS : Nat := 0x100A000C
def HP_IRQ_STATUS : Nat := 0x100A0010
def HP_DATA_ADDR : Nat := 0x100A0014
def HP_BAD_CMD_CNT : Nat := 0x100A0018
def HP_ERR_STATUS : Nat := 0x100A0020
def HP_ERR_CODE : Nat := 0x100A0024
end Reg

namespace Fld
def HP_CFG_RECORDS : RegField := ⟨Reg.HP_CFG, 0, 0⟩
def HP_IRQ_EN_EN : RegField := ⟨Reg.HP_IRQ_EN, 14, 0⟩
def HP_STATUS_PHASE : RegField := ⟨Reg.HP_STATUS, 1, 0⟩
def HP_STATUS_POWER : RegField := ⟨Reg.HP_STATUS, 3, 2⟩
def HP_STATUS_BUSY : RegField := ⟨Reg.HP_STATUS, 4, 4⟩
def HP_STATUS_DONE : RegField := ⟨Reg.HP_STATUS, 5, 5⟩
def HP_STATUS_REQ_ERR : RegField := ⟨Reg.HP_STATUS, 6, 6⟩
def HP_STATUS_CMD_ERR : RegField := ⟨Reg.HP_STATUS, 7, 7⟩
def HP_STATUS_EVENTS : RegField := ⟨Reg.HP_STATUS, 22, 8⟩
def HP_IRQ_STATUS_EVENTS : RegField := ⟨Reg.HP_IRQ_STATUS, 14, 0⟩
def HP_DATA_ADDR_ADDR : RegField := ⟨Reg.HP_DATA_ADDR, 31, 0⟩
def HP_BAD_CMD_CNT_COUNT : RegField := ⟨Reg.HP_BAD_CMD_CNT, 15, 0⟩
def HP_ERR_STATUS_FLAGS : RegField := ⟨Reg.HP_ERR_STATUS, 4, 0⟩
def HP_ERR_CODE_CODE : RegField := ⟨Reg.HP_ERR_CODE, 15, 0⟩
end Fld

/-! ## TM (Tables 14.5 and 14.6, spec/14_time_and_calendar.md), default base 0x100B0000 -/

namespace Reg
def TM_VERSION : Nat := 0x100B0000
def TM_CTRL : Nat := 0x100B0004
def TM_CFG : Nat := 0x100B0008
def TM_STATUS : Nat := 0x100B000C
def TM_EVENT : Nat := 0x100B0010
def TM_PATH_NS : Nat := 0x100B0014
def TM_LINK_DELAY : Nat := 0x100B0018
def TM_OFFSET : Nat := 0x100B001C
def TM_RATE : Nat := 0x100B0020
def TM_PLUMB_LO : Nat := 0x100B0024
def TM_PLUMB_HI : Nat := 0x100B0028
def TM_LOCAL_LO : Nat := 0x100B002C
def TM_LOCAL_HI : Nat := 0x100B0030
def TM_CAP_PLUMB_LO : Nat := 0x100B0034
def TM_CAP_PLUMB_HI : Nat := 0x100B0038
def TM_CAP_LOCAL_LO : Nat := 0x100B003C
def TM_CAP_LOCAL_HI : Nat := 0x100B0040
def TM_CAP_SUBSEC : Nat := 0x100B0044
def TM_CAP_TIME : Nat := 0x100B0048
def TM_CAP_DATE : Nat := 0x100B004C
def TM_RTC_TIME : Nat := 0x100B0050
def TM_RTC_DATE : Nat := 0x100B0054
def TM_RTC_SUBSEC : Nat := 0x100B0058
def TM_SET_TIME : Nat := 0x100B0060
def TM_SET_DATE : Nat := 0x100B0064
def TM_RTC_TRIM : Nat := 0x100B0068
def TM_ALARM_TIME : Nat := 0x100B0070
def TM_ALARM_DATE : Nat := 0x100B0074
def TM_SYNC_CNT : Nat := 0x100B0080
def TM_SYNC_MISS : Nat := 0x100B0084
def TM_STEP_CNT : Nat := 0x100B0088
def TM_ERR_STATUS : Nat := 0x100B0090
def TM_ERR_CODE : Nat := 0x100B0094
end Reg

namespace Fld
def TM_CTRL_CAPTURE : RegField := ⟨Reg.TM_CTRL, 0, 0⟩
def TM_CTRL_RTC_SET : RegField := ⟨Reg.TM_CTRL, 1, 1⟩
def TM_CTRL_DELAY_NOW : RegField := ⟨Reg.TM_CTRL, 2, 2⟩
def TM_CFG_SYNC_EN : RegField := ⟨Reg.TM_CFG, 0, 0⟩
def TM_CFG_NO_BACKSTEP : RegField := ⟨Reg.TM_CFG, 1, 1⟩
def TM_CFG_RTC_FOLLOW : RegField := ⟨Reg.TM_CFG, 2, 2⟩
def TM_CFG_ALARM_EN : RegField := ⟨Reg.TM_CFG, 3, 3⟩
def TM_CFG_DELAY_PERIOD : RegField := ⟨Reg.TM_CFG, 7, 4⟩
def TM_CFG_STEP_NS : RegField := ⟨Reg.TM_CFG, 23, 8⟩
def TM_STATUS_STATE : RegField := ⟨Reg.TM_STATUS, 1, 0⟩
def TM_STATUS_LOCKED : RegField := ⟨Reg.TM_STATUS, 2, 2⟩
def TM_STATUS_PATH_VALID : RegField := ⟨Reg.TM_STATUS, 3, 3⟩
def TM_STATUS_OSC_STOP : RegField := ⟨Reg.TM_STATUS, 4, 4⟩
def TM_STATUS_VBAT_LOW : RegField := ⟨Reg.TM_STATUS, 5, 5⟩
def TM_STATUS_CAL_WRAP : RegField := ⟨Reg.TM_STATUS, 6, 6⟩
def TM_EVENT_ALARM : RegField := ⟨Reg.TM_EVENT, 0, 0⟩
def TM_EVENT_STEP : RegField := ⟨Reg.TM_EVENT, 1, 1⟩
def TM_EVENT_LOCK_CHANGE : RegField := ⟨Reg.TM_EVENT, 2, 2⟩
def TM_PATH_NS_NS : RegField := ⟨Reg.TM_PATH_NS, 31, 0⟩
def TM_LINK_DELAY_NS : RegField := ⟨Reg.TM_LINK_DELAY, 15, 0⟩
def TM_OFFSET_NS : RegField := ⟨Reg.TM_OFFSET, 31, 0⟩
def TM_RATE_PPB : RegField := ⟨Reg.TM_RATE, 31, 0⟩
def TM_PLUMB_LO_NS : RegField := ⟨Reg.TM_PLUMB_LO, 31, 0⟩
def TM_PLUMB_HI_NS : RegField := ⟨Reg.TM_PLUMB_HI, 31, 0⟩
def TM_LOCAL_LO_NS : RegField := ⟨Reg.TM_LOCAL_LO, 31, 0⟩
def TM_LOCAL_HI_NS : RegField := ⟨Reg.TM_LOCAL_HI, 31, 0⟩
def TM_CAP_PLUMB_LO_NS : RegField := ⟨Reg.TM_CAP_PLUMB_LO, 31, 0⟩
def TM_CAP_PLUMB_HI_NS : RegField := ⟨Reg.TM_CAP_PLUMB_HI, 31, 0⟩
def TM_CAP_LOCAL_LO_NS : RegField := ⟨Reg.TM_CAP_LOCAL_LO, 31, 0⟩
def TM_CAP_LOCAL_HI_NS : RegField := ⟨Reg.TM_CAP_LOCAL_HI, 31, 0⟩
def TM_CAP_SUBSEC_TICKS : RegField := ⟨Reg.TM_CAP_SUBSEC, 14, 0⟩
def TM_CAP_TIME_SEC : RegField := ⟨Reg.TM_CAP_TIME, 5, 0⟩
def TM_CAP_TIME_MIN : RegField := ⟨Reg.TM_CAP_TIME, 13, 8⟩
def TM_CAP_TIME_HOUR : RegField := ⟨Reg.TM_CAP_TIME, 20, 16⟩
def TM_CAP_TIME_WDAY : RegField := ⟨Reg.TM_CAP_TIME, 26, 24⟩
def TM_CAP_DATE_DAY : RegField := ⟨Reg.TM_CAP_DATE, 4, 0⟩
def TM_CAP_DATE_MONTH : RegField := ⟨Reg.TM_CAP_DATE, 11, 8⟩
def TM_CAP_DATE_YEAR : RegField := ⟨Reg.TM_CAP_DATE, 23, 16⟩
def TM_RTC_TIME_SEC : RegField := ⟨Reg.TM_RTC_TIME, 5, 0⟩
def TM_RTC_TIME_MIN : RegField := ⟨Reg.TM_RTC_TIME, 13, 8⟩
def TM_RTC_TIME_HOUR : RegField := ⟨Reg.TM_RTC_TIME, 20, 16⟩
def TM_RTC_TIME_WDAY : RegField := ⟨Reg.TM_RTC_TIME, 26, 24⟩
def TM_RTC_DATE_DAY : RegField := ⟨Reg.TM_RTC_DATE, 4, 0⟩
def TM_RTC_DATE_MONTH : RegField := ⟨Reg.TM_RTC_DATE, 11, 8⟩
def TM_RTC_DATE_YEAR : RegField := ⟨Reg.TM_RTC_DATE, 23, 16⟩
def TM_RTC_SUBSEC_TICKS : RegField := ⟨Reg.TM_RTC_SUBSEC, 14, 0⟩
def TM_SET_TIME_SEC : RegField := ⟨Reg.TM_SET_TIME, 5, 0⟩
def TM_SET_TIME_MIN : RegField := ⟨Reg.TM_SET_TIME, 13, 8⟩
def TM_SET_TIME_HOUR : RegField := ⟨Reg.TM_SET_TIME, 20, 16⟩
def TM_SET_DATE_DAY : RegField := ⟨Reg.TM_SET_DATE, 4, 0⟩
def TM_SET_DATE_MONTH : RegField := ⟨Reg.TM_SET_DATE, 11, 8⟩
def TM_SET_DATE_YEAR : RegField := ⟨Reg.TM_SET_DATE, 23, 16⟩
def TM_RTC_TRIM_PPM : RegField := ⟨Reg.TM_RTC_TRIM, 8, 0⟩
def TM_ALARM_TIME_SEC : RegField := ⟨Reg.TM_ALARM_TIME, 5, 0⟩
def TM_ALARM_TIME_MIN : RegField := ⟨Reg.TM_ALARM_TIME, 13, 8⟩
def TM_ALARM_TIME_HOUR : RegField := ⟨Reg.TM_ALARM_TIME, 20, 16⟩
def TM_ALARM_DATE_DAY : RegField := ⟨Reg.TM_ALARM_DATE, 4, 0⟩
def TM_ALARM_DATE_MONTH : RegField := ⟨Reg.TM_ALARM_DATE, 11, 8⟩
def TM_ALARM_DATE_YEAR : RegField := ⟨Reg.TM_ALARM_DATE, 23, 16⟩
def TM_SYNC_CNT_COUNT : RegField := ⟨Reg.TM_SYNC_CNT, 31, 0⟩
def TM_SYNC_MISS_COUNT : RegField := ⟨Reg.TM_SYNC_MISS, 15, 0⟩
def TM_STEP_CNT_COUNT : RegField := ⟨Reg.TM_STEP_CNT, 15, 0⟩
def TM_ERR_STATUS_FLAGS : RegField := ⟨Reg.TM_ERR_STATUS, 5, 0⟩
def TM_ERR_CODE_CODE : RegField := ⟨Reg.TM_ERR_CODE, 15, 0⟩
end Fld

/-! ## AX (Tables 15.5 to 15.10, spec/15_aux_analog.md), default base 0x100C0000 -/

namespace Reg
def AX_VERSION : Nat := 0x100C0000
def AX_CTRL : Nat := 0x100C0004
def AX_SEL : Nat := 0x100C0008
def AX_STATUS : Nat := 0x100C000C
def AX_IMG_MASK : Nat := 0x100C0010
def AX_DEST : Nat := 0x100C0014
def AX_DEST_BASE : Nat := 0x100C0018
def AX_DEST_ROWS : Nat := 0x100C001C
def AX_SIG : Nat := 0x100C0020
def AX_DAC : Nat := 0x100C0024
def AX_TEMP_TRIM (k : Nat) : Nat := 0x100C0028 + 4 * k
def AX_SYSCAL_TARGET : Nat := 0x100C0034
def AX_CAL_OFF (k : Nat) : Nat := 0x100C0040 + 8 * k
def AX_CAL_GAIN (k : Nat) : Nat := 0x100C0044 + 8 * k
def AX_SYSCAL (k : Nat) : Nat := 0x100C0080 + 4 * k
def AX_SEQA_ENT (k : Nat) : Nat := 0x100C0100 + 4 * k
def AX_SEQB_ENT (k : Nat) : Nat := 0x100C0140 + 4 * k
def AX_SEQA_CFG : Nat := 0x100C0180
def AX_SEQB_CFG : Nat := 0x100C0184
def AX_SEQA_PERIOD : Nat := 0x100C0188
def AX_SEQB_PERIOD : Nat := 0x100C018C
def AX_RESULT (k : Nat) : Nat := 0x100C0200 + 4 * k
def AX_SAMPLE_CNT : Nat := 0x100C0240
def AX_PASS_CNT : Nat := 0x100C0244
def AX_EVENT : Nat := 0x100C0248
def AX_IRQ_EN : Nat := 0x100C024C
def AX_IMG_DROP : Nat := 0x100C0250
def AX_LATE_CNT : Nat := 0x100C0254
def AX_ERR_STATUS : Nat := 0x100C0258
def AX_ERR_CODE : Nat := 0x100C025C
end Reg

namespace Fld
def AX_CTRL_START : RegField := ⟨Reg.AX_CTRL, 0, 0⟩
def AX_CTRL_SELFCAL : RegField := ⟨Reg.AX_CTRL, 1, 1⟩
def AX_CTRL_SYSCAL_ZERO : RegField := ⟨Reg.AX_CTRL, 2, 2⟩
def AX_CTRL_SYSCAL_FULL : RegField := ⟨Reg.AX_CTRL, 3, 3⟩
def AX_CTRL_SYSCAL_ENTRY : RegField := ⟨Reg.AX_CTRL, 11, 8⟩
def AX_SEL_RUN : RegField := ⟨Reg.AX_SEL, 0, 0⟩
def AX_SEL_BANK : RegField := ⟨Reg.AX_SEL, 1, 1⟩
def AX_STATUS_RUNNING : RegField := ⟨Reg.AX_STATUS, 0, 0⟩
def AX_STATUS_LIVE : RegField := ⟨Reg.AX_STATUS, 1, 1⟩
def AX_STATUS_CAL_BUSY : RegField := ⟨Reg.AX_STATUS, 2, 2⟩
def AX_STATUS_POWERED : RegField := ⟨Reg.AX_STATUS, 3, 3⟩
def AX_STATUS_START_HELD : RegField := ⟨Reg.AX_STATUS, 4, 4⟩
def AX_STATUS_FLIP_PENDING : RegField := ⟨Reg.AX_STATUS, 5, 5⟩
def AX_STATUS_CAL_VALID : RegField := ⟨Reg.AX_STATUS, 6, 6⟩
def AX_IMG_MASK_AIN : RegField := ⟨Reg.AX_IMG_MASK, 11, 0⟩
def AX_DEST_PART : RegField := ⟨Reg.AX_DEST, 1, 0⟩
def AX_DEST_EN : RegField := ⟨Reg.AX_DEST, 4, 4⟩
def AX_DEST_BASE_ROW : RegField := ⟨Reg.AX_DEST_BASE, 18, 0⟩
def AX_DEST_ROWS_ROWS : RegField := ⟨Reg.AX_DEST_ROWS, 15, 0⟩
def AX_SIG_TILE : RegField := ⟨Reg.AX_SIG, 3, 0⟩
def AX_SIG_COUNTER : RegField := ⟨Reg.AX_SIG, 7, 4⟩
def AX_SIG_EN : RegField := ⟨Reg.AX_SIG, 31, 31⟩
def AX_DAC_CODE : RegField := ⟨Reg.AX_DAC, 9, 0⟩
def AX_DAC_EN : RegField := ⟨Reg.AX_DAC, 16, 16⟩
def AX_TEMP_TRIM_TEMP25 (k : Nat) : RegField := ⟨Reg.AX_TEMP_TRIM k, 13, 0⟩
def AX_SYSCAL_TARGET_TARGET : RegField := ⟨Reg.AX_SYSCAL_TARGET, 15, 0⟩
def AX_CAL_OFF_OFF (k : Nat) : RegField := ⟨Reg.AX_CAL_OFF k, 15, 0⟩
def AX_CAL_GAIN_GAIN (k : Nat) : RegField := ⟨Reg.AX_CAL_GAIN k, 15, 0⟩
def AX_SYSCAL_SOFF (k : Nat) : RegField := ⟨Reg.AX_SYSCAL k, 15, 0⟩
def AX_SYSCAL_SGAIN (k : Nat) : RegField := ⟨Reg.AX_SYSCAL k, 31, 16⟩
def AX_SEQA_ENT_CHAN (k : Nat) : RegField := ⟨Reg.AX_SEQA_ENT k, 5, 0⟩
def AX_SEQA_ENT_SAMP (k : Nat) : RegField := ⟨Reg.AX_SEQA_ENT k, 13, 8⟩
def AX_SEQA_ENT_GAIN (k : Nat) : RegField := ⟨Reg.AX_SEQA_ENT k, 18, 16⟩
def AX_SEQA_ENT_AVG (k : Nat) : RegField := ⟨Reg.AX_SEQA_ENT k, 23, 20⟩
def AX_SEQA_ENT_SHIFT (k : Nat) : RegField := ⟨Reg.AX_SEQA_ENT k, 27, 24⟩
def AX_SEQA_ENT_LEFT (k : Nat) : RegField := ⟨Reg.AX_SEQA_ENT k, 28, 28⟩
def AX_SEQA_ENT_DIAG (k : Nat) : RegField := ⟨Reg.AX_SEQA_ENT k, 29, 29⟩
def AX_SEQA_ENT_SYSCAL (k : Nat) : RegField := ⟨Reg.AX_SEQA_ENT k, 30, 30⟩
def AX_SEQB_ENT_CHAN (k : Nat) : RegField := ⟨Reg.AX_SEQB_ENT k, 5, 0⟩
def AX_SEQB_ENT_SAMP (k : Nat) : RegField := ⟨Reg.AX_SEQB_ENT k, 13, 8⟩
def AX_SEQB_ENT_GAIN (k : Nat) : RegField := ⟨Reg.AX_SEQB_ENT k, 18, 16⟩
def AX_SEQB_ENT_AVG (k : Nat) : RegField := ⟨Reg.AX_SEQB_ENT k, 23, 20⟩
def AX_SEQB_ENT_SHIFT (k : Nat) : RegField := ⟨Reg.AX_SEQB_ENT k, 27, 24⟩
def AX_SEQB_ENT_LEFT (k : Nat) : RegField := ⟨Reg.AX_SEQB_ENT k, 28, 28⟩
def AX_SEQB_ENT_DIAG (k : Nat) : RegField := ⟨Reg.AX_SEQB_ENT k, 29, 29⟩
def AX_SEQB_ENT_SYSCAL (k : Nat) : RegField := ⟨Reg.AX_SEQB_ENT k, 30, 30⟩
def AX_SEQA_CFG_LEN : RegField := ⟨Reg.AX_SEQA_CFG, 3, 0⟩
def AX_SEQA_CFG_TRIG : RegField := ⟨Reg.AX_SEQA_CFG, 5, 4⟩
def AX_SEQA_CFG_AUTO_PD : RegField := ⟨Reg.AX_SEQA_CFG, 6, 6⟩
def AX_SEQB_CFG_LEN : RegField := ⟨Reg.AX_SEQB_CFG, 3, 0⟩
def AX_SEQB_CFG_TRIG : RegField := ⟨Reg.AX_SEQB_CFG, 5, 4⟩
def AX_SEQB_CFG_AUTO_PD : RegField := ⟨Reg.AX_SEQB_CFG, 6, 6⟩
def AX_SEQA_PERIOD_CLOCKS : RegField := ⟨Reg.AX_SEQA_PERIOD, 31, 0⟩
def AX_SEQB_PERIOD_CLOCKS : RegField := ⟨Reg.AX_SEQB_PERIOD, 31, 0⟩
def AX_RESULT_VALUE (k : Nat) : RegField := ⟨Reg.AX_RESULT k, 15, 0⟩
def AX_RESULT_NEW (k : Nat) : RegField := ⟨Reg.AX_RESULT k, 16, 16⟩
def AX_RESULT_TAGGED (k : Nat) : RegField := ⟨Reg.AX_RESULT k, 17, 17⟩
def AX_RESULT_CLAMP (k : Nat) : RegField := ⟨Reg.AX_RESULT k, 18, 18⟩
def AX_RESULT_LOST (k : Nat) : RegField := ⟨Reg.AX_RESULT k, 19, 19⟩
def AX_SAMPLE_CNT_COUNT : RegField := ⟨Reg.AX_SAMPLE_CNT, 31, 0⟩
def AX_PASS_CNT_COUNT : RegField := ⟨Reg.AX_PASS_CNT, 31, 0⟩
def AX_EVENT_PASS_DONE : RegField := ⟨Reg.AX_EVENT, 0, 0⟩
def AX_EVENT_CAL_DONE : RegField := ⟨Reg.AX_EVENT, 1, 1⟩
def AX_EVENT_SYSCAL_DONE : RegField := ⟨Reg.AX_EVENT, 2, 2⟩
def AX_IRQ_EN_EN : RegField := ⟨Reg.AX_IRQ_EN, 2, 0⟩
def AX_IMG_DROP_COUNT : RegField := ⟨Reg.AX_IMG_DROP, 15, 0⟩
def AX_LATE_CNT_COUNT : RegField := ⟨Reg.AX_LATE_CNT, 15, 0⟩
def AX_ERR_STATUS_FLAGS : RegField := ⟨Reg.AX_ERR_STATUS, 5, 0⟩
def AX_ERR_CODE_CODE : RegField := ⟨Reg.AX_ERR_CODE, 15, 0⟩
end Fld

/-! ## PW (Tables 16.11 and 16.12, spec/16_power_states_and_supplies.md), default base 0x100D0000 -/

namespace Reg
def PW_VERSION : Nat := 0x100D0000
def PW_STATE : Nat := 0x100D0004
def PW_REQ : Nat := 0x100D0008
def PW_CFG : Nat := 0x100D000C
def PW_VETO : Nat := 0x100D0010
def PW_PIN : Nat := 0x100D0014
def PW_WAKE_EN : Nat := 0x100D0018
def PW_WAKE_CAUSE : Nat := 0x100D001C
def PW_REFUSE_CNT_A : Nat := 0x100D0020
def PW_REFUSE_CNT_B : Nat := 0x100D0024
def PW_LAST_REFUSER : Nat := 0x100D0028
def PW_AVS_CFG : Nat := 0x100D0030
def PW_SET_MV : Nat := 0x100D0034
def PW_FLOOR_MV : Nat := 0x100D0038
def PW_TRIM_CEIL : Nat := 0x100D003C
def PW_AVS_STATUS : Nat := 0x100D0040
def PW_STATUS : Nat := 0x100D0044
def PW_MON_STATUS : Nat := 0x100D0048
def PW_TEMP_WARN : Nat := 0x100D004C
def PW_SKIM_WAKE : Nat := 0x100D0050
def PW_ERR_STATUS : Nat := 0x100D0060
def PW_ERR_CODE : Nat := 0x100D0064
end Reg

namespace Fld
def PW_STATE_STATE : RegField := ⟨Reg.PW_STATE, 2, 0⟩
def PW_STATE_TARGET : RegField := ⟨Reg.PW_STATE, 6, 4⟩
def PW_STATE_BUSY : RegField := ⟨Reg.PW_STATE, 7, 7⟩
def PW_REQ_STATE : RegField := ⟨Reg.PW_REQ, 2, 0⟩
def PW_CFG_RESUME : RegField := ⟨Reg.PW_CFG, 1, 0⟩
def PW_VETO_CORE : RegField := ⟨Reg.PW_VETO, 3, 0⟩
def PW_PIN_PART : RegField := ⟨Reg.PW_PIN, 3, 0⟩
def PW_WAKE_EN_ALARM : RegField := ⟨Reg.PW_WAKE_EN, 0, 0⟩
def PW_WAKE_EN_IN0 : RegField := ⟨Reg.PW_WAKE_EN, 1, 1⟩
def PW_WAKE_EN_IN1 : RegField := ⟨Reg.PW_WAKE_EN, 2, 2⟩
def PW_WAKE_CAUSE_SRC : RegField := ⟨Reg.PW_WAKE_CAUSE, 7, 0⟩
def PW_REFUSE_CNT_A_TRIM : RegField := ⟨Reg.PW_REFUSE_CNT_A, 15, 0⟩
def PW_REFUSE_CNT_A_SKIM : RegField := ⟨Reg.PW_REFUSE_CNT_A, 31, 16⟩
def PW_REFUSE_CNT_B_DOZE : RegField := ⟨Reg.PW_REFUSE_CNT_B, 15, 0⟩
def PW_REFUSE_CNT_B_OFF : RegField := ⟨Reg.PW_REFUSE_CNT_B, 31, 16⟩
def PW_LAST_REFUSER_TARGET : RegField := ⟨Reg.PW_LAST_REFUSER, 2, 0⟩
def PW_LAST_REFUSER_CAUSE : RegField := ⟨Reg.PW_LAST_REFUSER, 6, 4⟩
def PW_LAST_REFUSER_UNIT : RegField := ⟨Reg.PW_LAST_REFUSER, 9, 8⟩
def PW_LAST_REFUSER_SOURCE : RegField := ⟨Reg.PW_LAST_REFUSER, 14, 12⟩
def PW_AVS_CFG_RAIL : RegField := ⟨Reg.PW_AVS_CFG, 3, 0⟩
def PW_AVS_CFG_DIV : RegField := ⟨Reg.PW_AVS_CFG, 14, 8⟩
def PW_AVS_CFG_TIMEOUT : RegField := ⟨Reg.PW_AVS_CFG, 29, 16⟩
def PW_SET_MV_MV : RegField := ⟨Reg.PW_SET_MV, 9, 0⟩
def PW_FLOOR_MV_MV : RegField := ⟨Reg.PW_FLOOR_MV, 9, 0⟩
def PW_TRIM_CEIL_MV : RegField := ⟨Reg.PW_TRIM_CEIL, 9, 0⟩
def PW_AVS_STATUS_TARGET_MV : RegField := ⟨Reg.PW_AVS_STATUS, 9, 0⟩
def PW_AVS_STATUS_ACK_MV : RegField := ⟨Reg.PW_AVS_STATUS, 25, 16⟩
def PW_AVS_STATUS_OUTSTANDING : RegField := ⟨Reg.PW_AVS_STATUS, 28, 28⟩
def PW_AVS_STATUS_LOST : RegField := ⟨Reg.PW_AVS_STATUS, 29, 29⟩
def PW_STATUS_LDO_NORMAL : RegField := ⟨Reg.PW_STATUS, 0, 0⟩
def PW_STATUS_RESTART : RegField := ⟨Reg.PW_STATUS, 1, 1⟩
def PW_STATUS_CEIL_TRIM : RegField := ⟨Reg.PW_STATUS, 2, 2⟩
def PW_STATUS_CEIL_THERM : RegField := ⟨Reg.PW_STATUS, 3, 3⟩
def PW_MON_STATUS_UV : RegField := ⟨Reg.PW_MON_STATUS, 4, 0⟩
def PW_MON_STATUS_WARN : RegField := ⟨Reg.PW_MON_STATUS, 10, 8⟩
def PW_TEMP_WARN_DEGC : RegField := ⟨Reg.PW_TEMP_WARN, 7, 0⟩
def PW_SKIM_WAKE_ZONE : RegField := ⟨Reg.PW_SKIM_WAKE, 5, 0⟩
def PW_SKIM_WAKE_EN : RegField := ⟨Reg.PW_SKIM_WAKE, 8, 8⟩
def PW_ERR_STATUS_FLAGS : RegField := ⟨Reg.PW_ERR_STATUS, 11, 0⟩
def PW_ERR_CODE_CODE : RegField := ⟨Reg.PW_ERR_CODE, 15, 0⟩
end Fld

/-! ## MG (Tables 17.11 and 17.12, spec/17_management_and_update.md), default base 0x100E0000 -/

namespace Reg
def MG_VERSION : Nat := 0x100E0000
def MG_STATUS : Nat := 0x100E0004
def MG_FW_VERSION : Nat := 0x100E0008
def MG_WDT_KICK : Nat := 0x100E000C
def MG_SNAG_WP : Nat := 0x100E0010
def MG_SNAG_QUEUE : Nat := 0x100E0014
def MG_SNAG_LOST : Nat := 0x100E0018
def MG_SNAG_TORN : Nat := 0x100E001C
def MG_UPD_STATUS : Nat := 0x100E0020
def MG_UPD_OFFSET : Nat := 0x100E0024
def MG_UPD_LEN : Nat := 0x100E0028
def MG_NVM_CFG : Nat := 0x100E002C
def MG_ERR_STATUS : Nat := 0x100E0030
def MG_ERR_CODE : Nat := 0x100E0034
end Reg

namespace Fld
def MG_STATUS_FW : RegField := ⟨Reg.MG_STATUS, 0, 0⟩
def MG_STATUS_NVM_BUSY : RegField := ⟨Reg.MG_STATUS, 1, 1⟩
def MG_FW_VERSION_VERSION : RegField := ⟨Reg.MG_FW_VERSION, 31, 0⟩
def MG_WDT_KICK_KEY : RegField := ⟨Reg.MG_WDT_KICK, 15, 0⟩
def MG_SNAG_WP_WP : RegField := ⟨Reg.MG_SNAG_WP, 11, 0⟩
def MG_SNAG_WP_PASS : RegField := ⟨Reg.MG_SNAG_WP, 31, 16⟩
def MG_SNAG_QUEUE_COUNT : RegField := ⟨Reg.MG_SNAG_QUEUE, 6, 0⟩
def MG_SNAG_LOST_COUNT : RegField := ⟨Reg.MG_SNAG_LOST, 15, 0⟩
def MG_SNAG_TORN_COUNT : RegField := ⟨Reg.MG_SNAG_TORN, 15, 0⟩
def MG_UPD_STATUS_STATE : RegField := ⟨Reg.MG_UPD_STATUS, 2, 0⟩
def MG_UPD_STATUS_OWNER : RegField := ⟨Reg.MG_UPD_STATUS, 6, 4⟩
def MG_UPD_OFFSET_OFFSET : RegField := ⟨Reg.MG_UPD_OFFSET, 31, 0⟩
def MG_UPD_LEN_LEN : RegField := ⟨Reg.MG_UPD_LEN, 31, 0⟩
def MG_NVM_CFG_DIV : RegField := ⟨Reg.MG_NVM_CFG, 4, 0⟩
def MG_ERR_STATUS_FLAGS : RegField := ⟨Reg.MG_ERR_STATUS, 13, 0⟩
def MG_ERR_CODE_CODE : RegField := ⟨Reg.MG_ERR_CODE, 15, 0⟩
end Fld

/-! ## FZ (Table 17.14, spec/17_management_and_update.md), default base 0x100F0000 -/

namespace Reg
def FZ_VERSION : Nat := 0x100F0000
def FZ_STATUS : Nat := 0x100F0004
def FZ_ARB_COUNT : Nat := 0x100F0008
def FZ_KEY_STATE : Nat := 0x100F000C
def FZ_POLICY : Nat := 0x100F0010
def FZ_TRIM (k : Nat) : Nat := 0x100F0014 + 4 * k
def FZ_KEY_DIG (k : Nat) : Nat := 0x100F0040 + 4 * k
def FZ_PROG_CMD : Nat := 0x100F0100
def FZ_PROG_ARG : Nat := 0x100F0104
def FZ_PROG_STATUS : Nat := 0x100F0108
def FZ_ERR_STATUS : Nat := 0x100F0110
def FZ_ERR_CODE : Nat := 0x100F0114
def FZ_PROG_DATA (k : Nat) : Nat := 0x100F0200 + 4 * k
end Reg

namespace Fld
def FZ_STATUS_PSEUDO_SET : RegField := ⟨Reg.FZ_STATUS, 0, 0⟩
def FZ_STATUS_PIX_OFF : RegField := ⟨Reg.FZ_STATUS, 1, 1⟩
def FZ_STATUS_ECC_ERR : RegField := ⟨Reg.FZ_STATUS, 2, 2⟩
def FZ_ARB_COUNT_COUNT : RegField := ⟨Reg.FZ_ARB_COUNT, 6, 0⟩
def FZ_KEY_STATE_PROG : RegField := ⟨Reg.FZ_KEY_STATE, 3, 0⟩
def FZ_KEY_STATE_REVOKED : RegField := ⟨Reg.FZ_KEY_STATE, 7, 4⟩
def FZ_KEY_STATE_ECC : RegField := ⟨Reg.FZ_KEY_STATE, 11, 8⟩
def FZ_POLICY_POLICY : RegField := ⟨Reg.FZ_POLICY, 31, 0⟩
def FZ_TRIM_TRIM (k : Nat) : RegField := ⟨Reg.FZ_TRIM k, 31, 0⟩
def FZ_KEY_DIG_DIGEST (k : Nat) : RegField := ⟨Reg.FZ_KEY_DIG k, 31, 0⟩
def FZ_PROG_CMD_OP : RegField := ⟨Reg.FZ_PROG_CMD, 3, 0⟩
def FZ_PROG_CMD_SLOT : RegField := ⟨Reg.FZ_PROG_CMD, 5, 4⟩
def FZ_PROG_ARG_ARG : RegField := ⟨Reg.FZ_PROG_ARG, 31, 0⟩
def FZ_PROG_STATUS_BUSY : RegField := ⟨Reg.FZ_PROG_STATUS, 0, 0⟩
def FZ_PROG_STATUS_DONE : RegField := ⟨Reg.FZ_PROG_STATUS, 1, 1⟩
def FZ_PROG_STATUS_FAIL : RegField := ⟨Reg.FZ_PROG_STATUS, 2, 2⟩
def FZ_PROG_STATUS_CODE : RegField := ⟨Reg.FZ_PROG_STATUS, 31, 16⟩
def FZ_ERR_STATUS_FLAGS : RegField := ⟨Reg.FZ_ERR_STATUS, 4, 0⟩
def FZ_ERR_CODE_CODE : RegField := ⟨Reg.FZ_ERR_CODE, 15, 0⟩
def FZ_PROG_DATA_DATA (k : Nat) : RegField := ⟨Reg.FZ_PROG_DATA k, 31, 0⟩
end Fld

/-! ## Reset values and access codes, block by block -/

namespace RegMap
/-- The SYS block. -/
def sys : List RegRow :=
  [⟨0x10000000, 4, 1, 0x100, 0, 0, 0⟩,
   ⟨0x10000004, 4, 1, 0x0, 0x0, 0x0, 0x0⟩,
   ⟨0x10000008, 4, 1, 0x0, 0x0, 0x0, 0x0⟩,
   ⟨0x1000000C, 4, 1, 0x0, 0x0, 0x0, 0x0⟩,
   ⟨0x10000010, 4, 1, 0x0, 0x0, 0x0, 0x0⟩,
   ⟨0x10000014, 4, 1, 0x0, 0x0, 0x0, 0xFFFF0000⟩,
   ⟨0x10000018, 4, 1, 0x0, 0xFFFF0001, 0x0, 0x0⟩,
   ⟨0x1000001C, 4, 1, 0x0, 0x0, 0x0, 0xFFFF⟩,
   ⟨0x10000020, 4, 1, 0x0, 0x0, 0x0, 0x0⟩,
   ⟨0x10000024, 4, 1, 0x0, 0x0, 0x0, 0x0⟩,
   ⟨0x10000030, 4, 1, 0x0, 0x0, 0x3F, 0x0⟩,
   ⟨0x10000034, 4, 1, 0x0, 0x0, 0x0, 0x0⟩,
   ⟨0x10000038, 4, 1, 0x0, 0x0, 0x0, 0x0⟩,
   ⟨0x1000003C, 4, 1, 0x0, 0x0, 0x0, 0x0⟩]

/-- The DS block. -/
def ds : List RegRow :=
  [⟨0x10010000, 4, 1, 0x10100, 0, 0, 0⟩,
   ⟨0x10010004, 4, 1, 0x0, 0x0, 0x0, 0x0⟩,
   ⟨0x10010008, 4, 1, 0x0, 0x0, 0x0, 0xFFFF000F⟩,
   ⟨0x1001000C, 4, 1, 0x0, 0x0, 0x6, 0x0⟩,
   ⟨0x10010010, 4, 1, 0x0, 0x0, 0x0, 0x0⟩,
   ⟨0x10010014, 4, 1, 0x0, 0x0, 0x0, 0x0⟩,
   ⟨0x10010018, 4, 1, 0x0, 0x0, 0x0, 0x0⟩,
   ⟨0x1001001C, 4, 1, 0x0, 0x3FFF, 0x0, 0x0⟩,
   ⟨0x10010020, 4, 1, 0x0, 0x1FFFF, 0x0, 0x0⟩,
   ⟨0x10010024, 4, 1, 0x0, 0x0, 0x0, 0x0⟩,
   ⟨0x10010028, 4, 1, 0x0, 0x0, 0x0, 0x0⟩,
   ⟨0x10010030, 4, 1, 0x0, 0x0, 0xFFF, 0x0⟩,
   ⟨0x10010034, 4, 1, 0x0, 0x0, 0x0, 0x0⟩,
   ⟨0x10010038, 4, 1, 0x0, 0x0, 0x0, 0x0⟩,
   ⟨0x1001003C, 4, 1, 0x0, 0x0, 0x0, 0x0⟩,
   ⟨0x10010040, 4, 1, 0x0, 0xFFFFFFFF, 0x0, 0x0⟩,
   ⟨0x10010044, 4, 1, 0x0, 0x0, 0x0, 0x0⟩,
   ⟨0x10010048, 4, 1, 0x0, 0x0, 0x0, 0x1⟩,
   ⟨0x10010060, 4, 1, 0x0, 0xFF3, 0x0, 0x10000⟩,
   ⟨0x10010064, 4, 1, 0x0, 0x0, 0x6, 0x0⟩,
   ⟨0x10010080, 4, 8, 0x0, 0x0, 0x0, 0x0⟩,
   ⟨0x10010100, 4, 16, 0x0, 0x0, 0x0, 0xFFFFFFFF⟩,
   ⟨0x10010200, 4, 32, 0x0, 0x0, 0x0, 0x0⟩]

/-- The PX block. -/
def px : List RegRow :=
  [⟨0x10020000, 4, 1, 0x20100, 0, 0, 0⟩,
   ⟨0x10020004, 4, 1, 0x0, 0x1, 0x0, 0x2⟩,
   ⟨0x10020008, 4, 1, 0x0, 0x0, 0x0, 0x0⟩,
   ⟨0x1002000C, 4, 1, 0x390, 0x3FF, 0x0, 0x0⟩,
   ⟨0x10020010, 4, 1, 0xCB735, 0xFFFFFFFF, 0x0, 0x0⟩,
   ⟨0x10020014, 4, 1, 0xC3500, 0x7FFFFFF, 0x0, 0x0⟩,
   ⟨0x10020018, 4, 1, 0xC8, 0x7FFFFFF, 0x0, 0x0⟩,
   ⟨0x1002001C, 4, 1, 0x0, 0x77, 0x0, 0x0⟩,
   ⟨0x10020020, 4, 1, 0x800, 0xFFFFF, 0x0, 0x0⟩,
   ⟨0x10020024, 4, 1, 0x0, 0x0, 0x0, 0x0⟩,
   ⟨0x10020028, 4, 1, 0xF00, 0xFFF, 0x0, 0x0⟩,
   ⟨0x1002002C, 4, 1, 0x400040, 0xFFF0FFF, 0x0, 0x0⟩,
   ⟨0x10020030, 4, 1, 0x100, 0xFFF, 0x0, 0x0⟩,
   ⟨0x10020034, 4, 1, 0x2FAF080, 0xFFFFFFFF, 0x0, 0x0⟩,
   ⟨0x10020040, 4, 1, 0x0, 0x7F3F, 0x0, 0x0⟩,
   ⟨0x10020044, 4, 1, 0x2, 0x1F, 0x0, 0x0⟩,
   ⟨0x10020048, 4, 1, 0x0, 0xF, 0x0, 0x0⟩,
   ⟨0x10020050, 4, 4, 0x100, 0x8003FFFF, 0x0, 0x0⟩,
   ⟨0x10020060, 4, 1, 0x0, 0x0, 0xFFFFFFFF, 0x0⟩,
   ⟨0x10020064, 4, 1, 0x0, 0x0, 0xFFFFFFFF, 0x0⟩,
   ⟨0x10020068, 4, 1, 0x0, 0x0, 0x0, 0x0⟩,
   ⟨0x10020070, 4, 1, 0x0, 0x1, 0x0, 0x0⟩,
   ⟨0x10020074, 4, 1, 0x0, 0xFFFFFFFF, 0x0, 0x0⟩,
   ⟨0x10020078, 4, 1, 0x0, 0xFFFFFFFF, 0x0, 0x0⟩,
   ⟨0x1002007C, 4, 1, 0x0, 0x0, 0x0, 0x0⟩,
   ⟨0x10020080, 4, 1, 0x0, 0x0, 0x0, 0x0⟩,
   ⟨0x10020084, 4, 1, 0x0, 0x0, 0x0, 0x0⟩,
   ⟨0x10020088, 4, 1, 0x0, 0x0, 0x0, 0x0⟩,
   ⟨0x1002008C, 4, 1, 0x0, 0x0, 0x7F, 0x0⟩,
   ⟨0x10020090, 4, 1, 0x0, 0x0, 0x0, 0x0⟩,
   ⟨0x10020094, 4, 1, 0x0, 0x0, 0x0, 0x0⟩,
   ⟨0x10020098, 4, 1, 0x0, 0x0, 0x0, 0x0⟩]

/-- The TF block. -/
def tf : List RegRow :=
  [⟨0x10030000, 4, 1, 0x30100, 0, 0, 0⟩,
   ⟨0x10030004, 4, 1, 0x1, 0x1, 0x0, 0x0⟩,
   ⟨0x10030008, 4, 1, 0x0, 0x0, 0x0, 0x0⟩,
   ⟨0x10030010, 4, 1, 0x40A01, 0xFFF01, 0x0, 0x0⟩,
   ⟨0x10030014, 4, 1, 0x352, 0x3FF, 0x0, 0x0⟩,
   ⟨0x10030018, 4, 1, 0x7D001F4, 0xFFFFFFFF, 0x0, 0x0⟩,
   ⟨0x1003001C, 4, 1, 0x0, 0x0, 0x0, 0x0⟩,
   ⟨0x10030020, 4, 1, 0x320, 0x0, 0x0, 0x0⟩,
   ⟨0x10030024, 4, 1, 0x0, 0x0, 0x0, 0x0⟩,
   ⟨0x10030030, 4, 1, 0x0, 0x0, 0xFF, 0x0⟩,
   ⟨0x10030034, 4, 1, 0x0, 0x0, 0x0, 0x0⟩,
   ⟨0x10030038, 4, 1, 0x0, 0x0, 0x0, 0x0⟩,
   ⟨0x1003003C, 4, 1, 0x0, 0x0, 0x0, 0x0⟩,
   ⟨0x10030040, 4, 1, 0x0, 0x0, 0x0, 0x0⟩,
   ⟨0x10030050, 4, 1, 0x0, 0xFF, 0x0, 0x0⟩,
   ⟨0x10030054, 4, 1, 0x0, 0x0, 0x0, 0x0⟩,
   ⟨0x10030100, 4, 16, 0x0, 0x0, 0x0, 0x0⟩]

/-- The SP block. -/
def sp : List RegRow :=
  [⟨0x10040000, 4, 1, 0x40100, 0, 0, 0⟩,
   ⟨0x10040004, 4, 1, 0x0, 0x0, 0x0, 0x1⟩,
   ⟨0x10040008, 4, 1, 0x8, 0x0, 0x0, 0x0⟩,
   ⟨0x10040010, 4, 2, 0xFFFFFFFF, 0x0, 0x0, 0x0⟩,
   ⟨0x10040018, 4, 2, 0x0, 0xFFFFFFFF, 0x0, 0x0⟩,
   ⟨0x10040020, 4, 2, 0x0, 0xFFFFFFFF, 0x0, 0x0⟩,
   ⟨0x10040028, 4, 2, 0x0, 0xFFFFFFFF, 0x0, 0x0⟩,
   ⟨0x10040040, 4, 8, 0x0, 0xFFFFFFFF, 0x0, 0x0⟩,
   ⟨0x10040080, 4, 16, 0x0, 0xFFFFFFFF, 0x0, 0x0⟩,
   ⟨0x100400C0, 4, 16, 0x0, 0xFFFFFFFF, 0x0, 0x0⟩,
   ⟨0x10040100, 4, 16, 0x0, 0xFFFFFFFF, 0x0, 0x0⟩,
   ⟨0x10040140, 4, 16, 0xFFFFFFFF, 0x0, 0x0, 0x0⟩,
   ⟨0x10040200, 8, 4, 0x0, 0x1FFFFF, 0x0, 0x0⟩,
   ⟨0x10040204, 8, 4, 0x0, 0x3FFFF, 0x0, 0x0⟩,
   ⟨0x10040220, 4, 1, 0x1400, 0x3FF1F01, 0x0, 0x0⟩,
   ⟨0x10040224, 4, 1, 0xDEEE, 0xFFFF, 0x0, 0x0⟩,
   ⟨0x10040228, 4, 1, 0x0, 0x0, 0x0, 0x0⟩,
   ⟨0x10040240, 4, 1, 0x0, 0x0, 0xFF, 0x0⟩,
   ⟨0x10040244, 4, 1, 0x0, 0x0, 0x0, 0x0⟩,
   ⟨0x10040248, 4, 1, 0x0, 0x0, 0x0, 0x0⟩,
   ⟨0x1004024C, 4, 1, 0x0, 0x0, 0x0, 0x0⟩,
   ⟨0x10040250, 4, 1, 0x0, 0x0, 0x0, 0x0⟩,
   ⟨0x10040254, 4, 1, 0x0, 0x0, 0x0, 0x0⟩,
   ⟨0x10040258, 4, 1, 0x0, 0x0, 0x0, 0x0⟩,
   ⟨0x1004025C, 4, 1, 0x0, 0x0, 0x0, 0x0⟩,
   ⟨0x10040400, 32, 32, 0x0, 0x131, 0x0, 0x0⟩,
   ⟨0x10040404, 32, 32, 0x0, 0x1FFF0FFF, 0x0, 0x0⟩,
   ⟨0x10040408, 32, 32, 0x0, 0x1FFF0FFF, 0x0, 0x0⟩,
   ⟨0x1004040C, 32, 32, 0x0, 0x7FFFF, 0x0, 0x0⟩,
   ⟨0x10040410, 32, 32, 0x0, 0x7FFFF, 0x0, 0x0⟩,
   ⟨0x10040414, 32, 32, 0x0, 0x7FFFF, 0x0, 0x0⟩,
   ⟨0x10040418, 32, 32, 0x0, 0x7FFFF, 0x0, 0x0⟩]

/-- The CC block. -/
def cc : List RegRow :=
  [⟨0x10050000, 4, 1, 0x50100, 0, 0, 0⟩,
   ⟨0x10050004, 4, 1, 0x0, 0x0, 0x0, 0xF⟩,
   ⟨0x10050008, 4, 1, 0x0, 0x0, 0x0, 0x0⟩,
   ⟨0x1005000C, 4, 1, 0x0, 0xFFFF, 0x0, 0x0⟩,
   ⟨0x10050010, 4, 4, 0x0, 0xFFFFFFFF, 0x0, 0x0⟩,
   ⟨0x10050020, 4, 1, 0x0, 0xFFFFFFFF, 0x0, 0x0⟩,
   ⟨0x10050024, 4, 1, 0x0, 0xFFFFFFFF, 0x0, 0x0⟩,
   ⟨0x10050030, 8, 4, 0xFFFFFFFF, 0xFFFFFFFF, 0x0, 0x0⟩,
   ⟨0x10050034, 8, 4, 0xFFFFFFFF, 0xFFFFFFFF, 0x0, 0x0⟩,
   ⟨0x10050050, 4, 1, 0x0, 0xF, 0x0, 0x0⟩,
   ⟨0x10050060, 4, 4, 0x0, 0xFFFF, 0x0, 0x0⟩,
   ⟨0x10050070, 4, 1, 0x0, 0x0, 0xFFFF, 0x0⟩,
   ⟨0x10050080, 16, 4, 0x0, 0x0, 0x0, 0x0⟩,
   ⟨0x10050084, 16, 4, 0x0, 0x0, 0x0, 0x0⟩,
   ⟨0x10050088, 16, 4, 0x0, 0x0, 0x0, 0x0⟩,
   ⟨0x1005008C, 16, 4, 0x0, 0x0, 0x0, 0x0⟩,
   ⟨0x100500C0, 8, 4, 0x0, 0x0, 0x0, 0x0⟩,
   ⟨0x100500C4, 8, 4, 0x0, 0x0, 0x0, 0x0⟩,
   ⟨0x100500E0, 4, 1, 0x0, 0x0, 0x1F, 0x0⟩,
   ⟨0x100500E4, 4, 1, 0x0, 0x0, 0x0, 0x0⟩,
   ⟨0x100500E8, 4, 1, 0x0, 0x0, 0x0, 0x0⟩]

/-- The SV block. -/
def sv : List RegRow :=
  [⟨0x10060000, 4, 1, 0x60100, 0, 0, 0⟩,
   ⟨0x10060004, 4, 1, 0x0, 0xF, 0x0, 0x0⟩,
   ⟨0x10060008, 4, 1, 0x0, 0x0, 0x0, 0x0⟩,
   ⟨0x1006000C, 4, 1, 0x0, 0x0, 0x1F, 0x0⟩,
   ⟨0x10060010, 4, 1, 0x0, 0x0, 0x0, 0x0⟩,
   ⟨0x10060014, 4, 1, 0x0, 0xF, 0x0, 0x0⟩,
   ⟨0x10060100, 32, 4, 0x301, 0xF3F, 0x0, 0x0⟩,
   ⟨0x10060104, 32, 4, 0x3E80, 0xFFFF, 0x0, 0x0⟩,
   ⟨0x10060108, 32, 4, 0x0, 0x7FFFF, 0x0, 0x0⟩,
   ⟨0x1006010C, 32, 4, 0x0, 0x0, 0x0, 0x0⟩,
   ⟨0x10060110, 32, 4, 0x0, 0x0, 0x1F, 0x0⟩,
   ⟨0x10060400, 4, 12, 0, 0xFFFFFFFF, 0, 0⟩,
   ⟨0x10060440, 4, 12, 0, 0xFFFFFFFF, 0, 0⟩,
   ⟨0x10060480, 4, 12, 0, 0xFFFFFFFF, 0, 0⟩,
   ⟨0x100604C0, 4, 12, 0, 0xFFFFFFFF, 0, 0⟩,
   ⟨0x10060500, 4, 12, 0, 0xFFFFFFFF, 0, 0⟩,
   ⟨0x10060540, 4, 12, 0, 0xFFFFFFFF, 0, 0⟩,
   ⟨0x10060580, 4, 12, 0, 0xFFFFFFFF, 0, 0⟩,
   ⟨0x100605C0, 4, 12, 0, 0xFFFFFFFF, 0, 0⟩,
   ⟨0x10060600, 4, 12, 0, 0xFFFFFFFF, 0, 0⟩,
   ⟨0x10060640, 4, 12, 0, 0xFFFFFFFF, 0, 0⟩,
   ⟨0x10060680, 4, 12, 0, 0xFFFFFFFF, 0, 0⟩,
   ⟨0x100606C0, 4, 12, 0, 0xFFFFFFFF, 0, 0⟩,
   ⟨0x10060700, 4, 12, 0, 0xFFFFFFFF, 0, 0⟩,
   ⟨0x10060740, 4, 12, 0, 0xFFFFFFFF, 0, 0⟩,
   ⟨0x10060780, 4, 12, 0, 0xFFFFFFFF, 0, 0⟩,
   ⟨0x100607C0, 4, 12, 0, 0xFFFFFFFF, 0, 0⟩]

/-- The PK block. -/
def pk : List RegRow :=
  [⟨0x10070000, 4, 1, 0x70100, 0, 0, 0⟩,
   ⟨0x10070004, 4, 1, 0x0, 0x0, 0x0, 0x7⟩,
   ⟨0x10070008, 4, 1, 0x0, 0x0, 0x0, 0x0⟩,
   ⟨0x1007000C, 4, 1, 0x0, 0x0, 0x0, 0x0⟩,
   ⟨0x10070010, 4, 1, 0x0, 0x0, 0x0, 0x0⟩,
   ⟨0x10070014, 4, 1, 0x0, 0x0, 0x0, 0x0⟩,
   ⟨0x10070018, 4, 1, 0x0, 0x0, 0x0, 0x0⟩,
   ⟨0x10070024, 16, 4, 0x0, 0x0, 0x0, 0x0⟩,
   ⟨0x10070028, 16, 4, 0x0, 0x0, 0x0, 0x0⟩,
   ⟨0x1007002C, 16, 4, 0x0, 0x0, 0x0, 0x0⟩,
   ⟨0x10070060, 4, 1, 0x0, 0x0, 0xFFFFF, 0x0⟩,
   ⟨0x10070064, 4, 1, 0x0, 0x0, 0x0, 0x0⟩]

/-- The EG block. -/
def eg : List RegRow :=
  [⟨0x10080000, 4, 1, 0x80100, 0, 0, 0⟩,
   ⟨0x10080010, 4, 4, 0x40, 0x7F, 0x0, 0x0⟩,
   ⟨0x10080020, 4, 1, 0x0, 0x0, 0x0, 0x0⟩,
   ⟨0x10080024, 4, 1, 0x0, 0x0, 0x0, 0x0⟩,
   ⟨0x10080028, 4, 1, 0x0, 0x0, 0x0, 0x0⟩,
   ⟨0x10080040, 16, 2, 0x8, 0xFFFF1FFF, 0x0, 0x0⟩,
   ⟨0x10080044, 16, 2, 0x0, 0xFFFF, 0x0, 0x0⟩,
   ⟨0x10080048, 16, 2, 0x258, 0xFFFF, 0x0, 0x0⟩,
   ⟨0x1008004C, 16, 2, 0x0, 0x0, 0x0, 0x1⟩,
   ⟨0x10080060, 4, 1, 0x404, 0x0, 0x0, 0x0⟩,
   ⟨0x10080064, 4, 1, 0x0, 0x0, 0x808, 0x0⟩,
   ⟨0x10080068, 4, 1, 0x3E8, 0xFFFF, 0x0, 0x0⟩,
   ⟨0x1008006C, 4, 1, 0x0, 0x0, 0x0, 0x0⟩,
   ⟨0x10080080, 8, 2, 0x614, 0x7FF, 0x0, 0x0⟩,
   ⟨0x10080090, 4, 1, 0x0, 0x0, 0x0, 0x0⟩,
   ⟨0x10080094, 4, 1, 0x0, 0x0, 0x303, 0x0⟩,
   ⟨0x10080098, 4, 1, 0x0, 0x0, 0x0, 0x0⟩,
   ⟨0x100800A0, 4, 1, 0x0, 0x0, 0xF, 0x0⟩,
   ⟨0x100800A4, 4, 1, 0x0, 0x0, 0x0, 0x0⟩]

/-- The LK block. -/
def lk : List RegRow :=
  [⟨0x10090000, 4, 1, 0x90100, 0, 0, 0⟩,
   ⟨0x10090004, 4, 1, 0x110100, 0x117F01, 0x0, 0x0⟩,
   ⟨0x10090008, 4, 1, 0x2, 0x3, 0x0, 0x0⟩,
   ⟨0x1009000C, 4, 1, 0x7F3F, 0x7F3F, 0x0, 0x0⟩,
   ⟨0x10090010, 4, 1, 0x0, 0x0, 0x0, 0x0⟩,
   ⟨0x10090014, 4, 1, 0x0, 0x0, 0x7FFF, 0x0⟩,
   ⟨0x10090018, 4, 1, 0x0, 0x0, 0x0, 0x0⟩,
   ⟨0x1009001C, 4, 1, 0x0, 0x0, 0x0, 0x0⟩,
   ⟨0x10090020, 4, 1, 0x0, 0x0, 0x0, 0x0⟩,
   ⟨0x10090030, 4, 1, 0x0, 0x0, 0x0, 0x0⟩,
   ⟨0x10090034, 4, 1, 0x0, 0x0, 0x0, 0x0⟩,
   ⟨0x10090038, 4, 1, 0x0, 0x0, 0x0, 0x0⟩,
   ⟨0x1009003C, 4, 1, 0x0, 0x0, 0x0, 0x0⟩,
   ⟨0x10090040, 4, 1, 0x0, 0x0, 0xFF, 0x0⟩,
   ⟨0x10090044, 4, 1, 0x0, 0x0, 0x0, 0x0⟩]

/-- The HP block. -/
def hp : List RegRow :=
  [⟨0x100A0000, 4, 1, 0xA0100, 0, 0, 0⟩,
   ⟨0x100A0004, 4, 1, 0x0, 0x1, 0x0, 0x0⟩,
   ⟨0x100A0008, 4, 1, 0x0, 0x7FFF, 0x0, 0x0⟩,
   ⟨0x100A000C, 4, 1, 0x0, 0x0, 0x0, 0x0⟩,
   ⟨0x100A0010, 4, 1, 0x0, 0x0, 0x7FFF, 0x0⟩,
   ⟨0x100A0014, 4, 1, 0x0, 0x0, 0x0, 0x0⟩,
   ⟨0x100A0018, 4, 1, 0x0, 0x0, 0x0, 0x0⟩,
   ⟨0x100A0020, 4, 1, 0x0, 0x0, 0x1F, 0x0⟩,
   ⟨0x100A0024, 4, 1, 0x0, 0x0, 0x0, 0x0⟩]

/-- The TM block. -/
def tm : List RegRow :=
  [⟨0x100B0000, 4, 1, 0xB0100, 0, 0, 0⟩,
   ⟨0x100B0004, 4, 1, 0x0, 0x0, 0x0, 0x7⟩,
   ⟨0x100B0008, 4, 1, 0x3E811, 0xFFFFFF, 0x0, 0x0⟩,
   ⟨0x100B000C, 4, 1, 0x0, 0x0, 0x0, 0x0⟩,
   ⟨0x100B0010, 4, 1, 0x0, 0x0, 0x7, 0x0⟩,
   ⟨0x100B0014, 4, 1, 0x0, 0x0, 0x0, 0x0⟩,
   ⟨0x100B0018, 4, 1, 0x0, 0x0, 0x0, 0x0⟩,
   ⟨0x100B001C, 4, 1, 0x0, 0x0, 0x0, 0x0⟩,
   ⟨0x100B0020, 4, 1, 0x0, 0x0, 0x0, 0x0⟩,
   ⟨0x100B0024, 4, 1, 0x0, 0x0, 0x0, 0x0⟩,
   ⟨0x100B0028, 4, 1, 0x0, 0x0, 0x0, 0x0⟩,
   ⟨0x100B002C, 4, 1, 0x0, 0x0, 0x0, 0x0⟩,
   ⟨0x100B0030, 4, 1, 0x0, 0x0, 0x0, 0x0⟩,
   ⟨0x100B0034, 4, 1, 0x0, 0x0, 0x0, 0x0⟩,
   ⟨0x100B0038, 4, 1, 0x0, 0x0, 0x0, 0x0⟩,
   ⟨0x100B003C, 4, 1, 0x0, 0x0, 0x0, 0x0⟩,
   ⟨0x100B0040, 4, 1, 0x0, 0x0, 0x0, 0x0⟩,
   ⟨0x100B0044, 4, 1, 0x0, 0x0, 0x0, 0x0⟩,
   ⟨0x100B0048, 4, 1, 0x0, 0x0, 0x0, 0x0⟩,
   ⟨0x100B004C, 4, 1, 0x0, 0x0, 0x0, 0x0⟩,
   ⟨0x100B0050, 4, 1, 0x0, 0x0, 0x0, 0x0⟩,
   ⟨0x100B0054, 4, 1, 0x0, 0x0, 0x0, 0x0⟩,
   ⟨0x100B0058, 4, 1, 0x0, 0x0, 0x0, 0x0⟩,
   ⟨0x100B0060, 4, 1, 0x0, 0x1F3F3F, 0x0, 0x0⟩,
   ⟨0x100B0064, 4, 1, 0x0, 0xFF0F1F, 0x0, 0x0⟩,
   ⟨0x100B0068, 4, 1, 0x0, 0x1FF, 0x0, 0x0⟩,
   ⟨0x100B0070, 4, 1, 0x0, 0x1F3F3F, 0x0, 0x0⟩,
   ⟨0x100B0074, 4, 1, 0x0, 0xFF0F1F, 0x0, 0x0⟩,
   ⟨0x100B0080, 4, 1, 0x0, 0x0, 0x0, 0x0⟩,
   ⟨0x100B0084, 4, 1, 0x0, 0x0, 0x0, 0x0⟩,
   ⟨0x100B0088, 4, 1, 0x0, 0x0, 0x0, 0x0⟩,
   ⟨0x100B0090, 4, 1, 0x0, 0x0, 0x3F, 0x0⟩,
   ⟨0x100B0094, 4, 1, 0x0, 0x0, 0x0, 0x0⟩]

/-- The AX block. -/
def ax : List RegRow :=
  [⟨0x100C0000, 4, 1, 0xC0100, 0, 0, 0⟩,
   ⟨0x100C0004, 4, 1, 0x0, 0x0, 0x0, 0xF0F⟩,
   ⟨0x100C0008, 4, 1, 0x0, 0x3, 0x0, 0x0⟩,
   ⟨0x100C000C, 4, 1, 0x0, 0x0, 0x0, 0x0⟩,
   ⟨0x100C0010, 4, 1, 0x0, 0xFFF, 0x0, 0x0⟩,
   ⟨0x100C0014, 4, 1, 0x0, 0x13, 0x0, 0x0⟩,
   ⟨0x100C0018, 4, 1, 0x0, 0x0, 0x0, 0x0⟩,
   ⟨0x100C001C, 4, 1, 0x0, 0x0, 0x0, 0x0⟩,
   ⟨0x100C0020, 4, 1, 0x0, 0x800000FF, 0x0, 0x0⟩,
   ⟨0x100C0024, 4, 1, 0x0, 0x103FF, 0x0, 0x0⟩,
   ⟨0x100C0028, 4, 3, 0x0, 0x0, 0x0, 0x0⟩,
   ⟨0x100C0034, 4, 1, 0x0, 0xFFFF, 0x0, 0x0⟩,
   ⟨0x100C0040, 8, 5, 0x0, 0xFFFF, 0x0, 0x0⟩,
   ⟨0x100C0044, 8, 5, 0x4000, 0xFFFF, 0x0, 0x0⟩,
   ⟨0x100C0080, 4, 16, 0x40000000, 0xFFFFFFFF, 0x0, 0x0⟩,
   ⟨0x100C0100, 4, 16, 0x0, 0x7FF73F3F, 0x0, 0x0⟩,
   ⟨0x100C0140, 4, 16, 0x0, 0x7FF73F3F, 0x0, 0x0⟩,
   ⟨0x100C0180, 4, 1, 0x40, 0x7F, 0x0, 0x0⟩,
   ⟨0x100C0184, 4, 1, 0x40, 0x7F, 0x0, 0x0⟩,
   ⟨0x100C0188, 4, 1, 0x9C40, 0xFFFFFFFF, 0x0, 0x0⟩,
   ⟨0x100C018C, 4, 1, 0x9C40, 0xFFFFFFFF, 0x0, 0x0⟩,
   ⟨0x100C0200, 4, 16, 0x0, 0x0, 0x90000, 0x0⟩,
   ⟨0x100C0240, 4, 1, 0x0, 0x0, 0x0, 0x0⟩,
   ⟨0x100C0244, 4, 1, 0x0, 0x0, 0x0, 0x0⟩,
   ⟨0x100C0248, 4, 1, 0x0, 0x0, 0x7, 0x0⟩,
   ⟨0x100C024C, 4, 1, 0x0, 0x7, 0x0, 0x0⟩,
   ⟨0x100C0250, 4, 1, 0x0, 0x0, 0x0, 0x0⟩,
   ⟨0x100C0254, 4, 1, 0x0, 0x0, 0x0, 0x0⟩,
   ⟨0x100C0258, 4, 1, 0x0, 0x0, 0x3F, 0x0⟩,
   ⟨0x100C025C, 4, 1, 0x0, 0x0, 0x0, 0x0⟩]

/-- The PW block. -/
def pw : List RegRow :=
  [⟨0x100D0000, 4, 1, 0xD0100, 0, 0, 0⟩,
   ⟨0x100D0004, 4, 1, 0x0, 0x0, 0x0, 0x0⟩,
   ⟨0x100D0008, 4, 1, 0x0, 0x0, 0x0, 0x7⟩,
   ⟨0x100D000C, 4, 1, 0x0, 0x3, 0x0, 0x0⟩,
   ⟨0x100D0010, 4, 1, 0x0, 0xF, 0x0, 0x0⟩,
   ⟨0x100D0014, 4, 1, 0x0, 0xF, 0x0, 0x0⟩,
   ⟨0x100D0018, 4, 1, 0x0, 0x7, 0x0, 0x0⟩,
   ⟨0x100D001C, 4, 1, 0x0, 0x0, 0xFF, 0x0⟩,
   ⟨0x100D0020, 4, 1, 0x0, 0x0, 0x0, 0x0⟩,
   ⟨0x100D0024, 4, 1, 0x0, 0x0, 0x0, 0x0⟩,
   ⟨0x100D0028, 4, 1, 0x0, 0x0, 0x0, 0x0⟩,
   ⟨0x100D0030, 4, 1, 0x3E80900, 0x3FFF7F0F, 0x0, 0x0⟩,
   ⟨0x100D0034, 4, 1, 0x320, 0x3FF, 0x0, 0x0⟩,
   ⟨0x100D0038, 4, 1, 0x2BC, 0x3FF, 0x0, 0x0⟩,
   ⟨0x100D003C, 4, 1, 0x320, 0x3FF, 0x0, 0x0⟩,
   ⟨0x100D0040, 4, 1, 0x320, 0x0, 0x0, 0x0⟩,
   ⟨0x100D0044, 4, 1, 0x1, 0x0, 0x0, 0x0⟩,
   ⟨0x100D0048, 4, 1, 0x0, 0x0, 0x0, 0x0⟩,
   ⟨0x100D004C, 4, 1, 0x69, 0xFF, 0x0, 0x0⟩,
   ⟨0x100D0050, 4, 1, 0x0, 0x13F, 0x0, 0x0⟩,
   ⟨0x100D0060, 4, 1, 0x0, 0x0, 0xFFF, 0x0⟩,
   ⟨0x100D0064, 4, 1, 0x0, 0x0, 0x0, 0x0⟩]

/-- The MG block. -/
def mg : List RegRow :=
  [⟨0x100E0000, 4, 1, 0xE0100, 0, 0, 0⟩,
   ⟨0x100E0004, 4, 1, 0x0, 0x0, 0x0, 0x0⟩,
   ⟨0x100E0008, 4, 1, 0x0, 0x0, 0x0, 0x0⟩,
   ⟨0x100E000C, 4, 1, 0x0, 0x0, 0x0, 0xFFFF⟩,
   ⟨0x100E0010, 4, 1, 0x0, 0x0, 0x0, 0x0⟩,
   ⟨0x100E0014, 4, 1, 0x0, 0x0, 0x0, 0x0⟩,
   ⟨0x100E0018, 4, 1, 0x0, 0x0, 0x0, 0x0⟩,
   ⟨0x100E001C, 4, 1, 0x0, 0x0, 0x0, 0x0⟩,
   ⟨0x100E0020, 4, 1, 0x0, 0x0, 0x0, 0x0⟩,
   ⟨0x100E0024, 4, 1, 0x0, 0x0, 0x0, 0x0⟩,
   ⟨0x100E0028, 4, 1, 0x0, 0x0, 0x0, 0x0⟩,
   ⟨0x100E002C, 4, 1, 0x7, 0x1F, 0x0, 0x0⟩,
   ⟨0x100E0030, 4, 1, 0x0, 0x0, 0x3FFF, 0x0⟩,
   ⟨0x100E0034, 4, 1, 0x0, 0x0, 0x0, 0x0⟩]

/-- The FZ block. -/
def fz : List RegRow :=
  [⟨0x100F0000, 4, 1, 0x100100, 0, 0, 0⟩,
   ⟨0x100F0004, 4, 1, 0x0, 0x0, 0x0, 0x0⟩,
   ⟨0x100F0008, 4, 1, 0x0, 0x0, 0x0, 0x0⟩,
   ⟨0x100F000C, 4, 1, 0x0, 0x0, 0x0, 0x0⟩,
   ⟨0x100F0010, 4, 1, 0x0, 0x0, 0x0, 0x0⟩,
   ⟨0x100F0014, 4, 4, 0x0, 0x0, 0x0, 0x0⟩,
   ⟨0x100F0040, 4, 32, 0x0, 0x0, 0x0, 0x0⟩,
   ⟨0x100F0100, 4, 1, 0x0, 0x0, 0x0, 0x3F⟩,
   ⟨0x100F0104, 4, 1, 0x0, 0x0, 0x0, 0xFFFFFFFF⟩,
   ⟨0x100F0108, 4, 1, 0x0, 0x0, 0x6, 0x0⟩,
   ⟨0x100F0110, 4, 1, 0x0, 0x0, 0x1F, 0x0⟩,
   ⟨0x100F0114, 4, 1, 0x0, 0x0, 0x0, 0x0⟩,
   ⟨0x100F0200, 4, 24, 0x0, 0x0, 0x0, 0xFFFFFFFF⟩]

/-- The rows of the block that holds address `a` (default bases of Table 4.10's register region). -/
def rows (a : Nat) : List RegRow :=
  match a / 0x10000 with
  | 0x1000 => sys
  | 0x1001 => ds
  | 0x1002 => px
  | 0x1003 => tf
  | 0x1004 => sp
  | 0x1005 => cc
  | 0x1006 => sv
  | 0x1007 => pk
  | 0x1008 => eg
  | 0x1009 => lk
  | 0x100A => hp
  | 0x100B => tm
  | 0x100C => ax
  | 0x100D => pw
  | 0x100E => mg
  | 0x100F => fz
  | _ => []

/-- Does the row name the register at address `a`? -/
def names (r : RegRow) (a : Nat) : Bool :=
  r.base ≤ a && (a - r.base) % r.stride == 0 && (a - r.base) / r.stride < r.count

/-- The row that names address `a`; none at an unnamed offset (R125). -/
def find (a : Nat) : Option RegRow := (rows a).find? (fun r => names r a)

/-- The reset value of the register at address `a`; 0 at an unnamed offset (R125). -/
def resetValue (a : Nat) : Word :=
  match find a with
  | some r => BitVec.ofNat 32 r.reset
  | none => 0#32

end RegMap

end Sys2Proof.Machine
end

