-- ==== Sys2Proof/Machine/Sparse.lean ====
section
/-! DEFINITION. Sparse maps from Nat keys in one canonical form: keys strictly rising, and no entry
equal to what an unlisted key reads as. The register file, the memories and the tag plane are such maps. -/

namespace Sys2Proof.Machine

/-- The value at key `k`: the listed one, or what an unlisted key reads as. -/
def Sparse.get {α : Type} (dflt : Nat → α) : List (Nat × α) → Nat → α
  | [], k => dflt k
  | (a, v) :: m, k => if a = k then v else Sparse.get dflt m k

/-- The map without any entry for key `k`. -/
def Sparse.erase {α : Type} (k : Nat) : List (Nat × α) → List (Nat × α)
  | [] => []
  | (a, v) :: m => if a = k then Sparse.erase k m else (a, v) :: Sparse.erase k m

/-- The map with the entry (k, v) put before the first greater key. -/
def Sparse.insert {α : Type} (k : Nat) (v : α) : List (Nat × α) → List (Nat × α)
  | [] => [(k, v)]
  | (a, w) :: m => if k < a then (k, v) :: (a, w) :: m else (a, w) :: Sparse.insert k v m

/-- Set key `k` to `v`; writing what an unlisted key reads as removes the entry. -/
def Sparse.put {α : Type} [DecidableEq α] (dflt : Nat → α) (k : Nat) (v : α)
    (m : List (Nat × α)) : List (Nat × α) :=
  if v = dflt k then Sparse.erase k m else Sparse.insert k v (Sparse.erase k m)

/-- Set the keys from `k` on to the listed values, one after the other. -/
def Sparse.puts {α : Type} [DecidableEq α] (dflt : Nat → α) :
    Nat → List α → List (Nat × α) → List (Nat × α)
  | _, [], m => m
  | k, v :: vs, m => Sparse.puts dflt (k + 1) vs (Sparse.put dflt k v m)

/-- The `n` values from key `k` on. -/
def Sparse.gets {α : Type} (dflt : Nat → α) (m : List (Nat × α)) (k n : Nat) : List α :=
  (List.range n).map (fun i => Sparse.get dflt m (k + i))

/-- The map with every key of `[lo, hi)` back at what an unlisted key reads as. -/
def Sparse.clear {α : Type} (lo hi : Nat) (m : List (Nat × α)) : List (Nat × α) :=
  m.filter (fun e => decide (e.1 < lo) || decide (hi ≤ e.1))

/-- The canonical form, for keys above `lo`. -/
def Sparse.wfFrom {α : Type} [DecidableEq α] (dflt : Nat → α) : Nat → List (Nat × α) → Bool
  | _, [] => true
  | lo, (a, v) :: m => decide (lo ≤ a) && decide (v ≠ dflt a) && Sparse.wfFrom dflt (a + 1) m

/-- The canonical form: keys strictly rising and no entry equal to the unlisted reading. -/
def Sparse.wf {α : Type} [DecidableEq α] (dflt : Nat → α) (m : List (Nat × α)) : Bool :=
  Sparse.wfFrom dflt 0 m

end Sys2Proof.Machine
end

