-- ==== Sys2Proof/Machine/State.lean ====
section
/-! DEFINITION. The state of the CG4816 as plain data, and the state right after reset. -/

namespace Sys2Proof.Machine

/-- The stops of the model. -/
inductive Fault where
  /-- Raised by no meaning: the spec gives every command an effect. -/
  | none
deriving DecidableEq, Repr

/-- The refusals of the model. -/
inductive Refusal where
  /-- A command without a meaning; Dispatch alone would raise it, and no arm of it does; safe. -/
  | notModelled (mnemonic : String)
deriving DecidableEq, Repr

/-- One Snag Log entry waiting in the queue (R528, R531, Tables 17.4 and 17.5). -/
structure SnagEntry where
  kind : Nat
  src : Nat
  code : Nat
  plumb : BitVec 64
  uptime : Nat
  count : Nat
  arg : Word
deriving DecidableEq, Repr

/-- The rate limit of one logged code: the local time it was last logged, and the raises held back
since (R50, R395, R548). -/
structure LogSlot where
  last : Option (BitVec 64)
  held : Nat
deriving DecidableEq, Repr

/-- A SYNC taken on the U port and not yet handled (R445): T_TX, INTERVAL, the Plumb time P and the local
time at which its SOF arrived, and PATH as it was valid then (R452), or none. -/
structure RxSync where
  tTx : BitVec 64
  interval : Nat
  plumbAt : BitVec 64
  localAt : BitVec 64
  path : Option Nat
deriving DecidableEq, Repr

/-- A DELAY response taken on the U port (Table 14.2) and the local time t4 its SOF arrived. -/
structure RxDelay where
  flags : Nat
  fwd : Nat
  turn : Nat
  path : Nat
  t4 : BitVec 64
deriving DecidableEq, Repr

/-- The time base and its servo (R440 to R447). Times in 2^-32 ns carry 32 fractional bits (R440). The
servo state stands in TM_STATUS and the frequency term F in TM_RATE. -/
structure TimeState where
  localT : BitVec 96 := 0
  plumbT : BitVec 96 := 0
  /-- The 25 MHz reference runs (R440). -/
  refRuns : Bool := false
  /-- The calendar's sub-second count, and the ticks gone of its 2^20-tick trim span (R435, R436). -/
  calSub : Nat := 0
  trimPhase : Nat := 0
  /-- A set of the calendar in this D8 tick took the place of a rollover that was due (R451). -/
  rolloverLost : Bool := false
  /-- Time since the last D8 tick while the reference runs, in 2^-7 ns. -/
  d8Acc : Nat := 0
  /-- The slew term in ppb, and the local ns for which it still runs (R446). -/
  slew : Int := 0
  slewLeft : Nat := 0
  /-- Consecutive valid SYNCs with |e| ≤ 100 ns (R446). -/
  good : Nat := 0
  /-- The last valid SYNC was an outlier (R446 item 3). -/
  outlier : Bool := false
  /-- Local ns of the last valid SYNC, and its INTERVAL in ms. -/
  lastSync : Option (BitVec 64) := none
  interval : Nat := 0
  /-- A SYNC and a DELAY response taken and not yet handled. -/
  rxSync : Option RxSync := none
  rxDelay : Option RxDelay := none
  /-- A path-delay measurement is due (R444); t1 of the exchange in progress; failures in a row (R443). -/
  delayDue : Bool := false
  delayT1 : Option (BitVec 64) := none
  delayFails : Nat := 0
  /-- The Plumb second at which RTC_FOLLOW sets the calendar (R449). -/
  followAt : Option Nat := none
deriving DecidableEq, Repr

/-! ## Fixed-length vectors -/

/-- Element `i` of a vector, or `d` beyond its end. -/
def vget {α : Type} {n : Nat} (d : α) (v : Vector α n) (i : Nat) : α := if h : i < n then v[i] else d

/-- The vector with element `i` set; unchanged beyond its end. -/
def vput {α : Type} {n : Nat} (v : Vector α n) (i : Nat) (x : α) : Vector α n := v.setIfInBounds i x

/-! ## The Dust Sheet (chapter 1) -/

/-- A tile fault as its report carries it (R37, R198). -/
structure FaultRec where
  code : Nat := 0
  tile : Nat := 0
  part : Nat := 0
  pc : Nat := 0
  addr : Nat := 0
  tagged : Bool := false
deriving DecidableEq, Repr

/-- One partition's fault-report interval (R37): open, faults counted since the first, the last of them. -/
structure FaultInterval where
  running : Bool := false
  count : Nat := 0
  last : FaultRec := {}
deriving DecidableEq, Repr

/-- The state of the Dust Sheet block outside its registers. -/
structure DsState where
  faults : Vector FaultInterval 4 := Vector.replicate 4 {}
  /-- The frame and rate caps the budget uses in this slot; a lowered cap applies from the next (R27). -/
  capFrame : Nat := 8192
  capRate : Nat := 64000
  /-- Bits charged in the running budget frame (R30). -/
  frameUsed : Nat := 0
  /-- Local time the last digest run started (R42). -/
  lastDigest : Option (BitVec 64) := none
  /-- A lifecycle command written while a digest run is in progress (R49): the command code. -/
  lcHeld : Option Nat := none
  /-- The step of Table 1.4 a RETURN has reached; 0 when none runs. -/
  returnStep : Nat := 0
  /-- The pixel stays stopped until reset after Table 1.4 step 5 failed. -/
  pixelStopped : Bool := false
  /-- Internal scan and debug are open in Returned after the verified erase (Table 1.4 step 9). -/
  eraseVerified : Bool := false
deriving DecidableEq, Repr

/-! ## Scratchpad (chapter 7) -/

/-- One entry of the spill request table (R224): a read of a spilled row towards a destination row, with
the counter to increment and the tag the destination takes. -/
structure SpillReq where
  part : Nat
  row : Nat
  dest : Nat
  tile : Nat
  sig : Option (Nat × Nat)
  tag : Bool
  /-- The op's number (R182), and whether the op completes only with this entry: it is synchronous. -/
  seq : Nat
  blocking : Bool
  /-- The table was full when the op came to the row, and the entry is still to enter it (R224). -/
  waiting : Bool := false
  /-- What a fault of the entry reports (R198): its bundle, and the source and destination rows as the task names them. -/
  pc : Nat := 0
  srcAddr : Nat := 0
  addr : Nat := 0
deriving DecidableEq, Repr

/-- A tile's write to spill memory waiting for the sweep to end (R225): the row, its content, the tile, the counter to
increment, and whether it is still to enter the request table. -/
structure SpillWrite where
  row : Nat
  data : Row
  tile : Nat := 0
  sig : Option (Nat × Nat) := none
  waiting : Bool := false
deriving DecidableEq, Repr

/-- A single- or double-bit error standing in an 8-byte unit (R229). -/
inductive EccError where
  | single | double
deriving DecidableEq, Repr

/-- A relocation set as a task latches it (R209, Table 7.10). -/
structure RelSet where
  nearBase : Nat := 0
  nearSize : Nat := 0
  nbrBase : Nat := 0
  nbrSize : Nat := 0
  taskBase : Nat := 0
  taskSize : Nat := 0
  partBase : Nat := 0
  partSize : Nat := 0
  spill : Bool := false
deriving DecidableEq, Repr

/-- The scratchpad block outside its registers. -/
structure SpState where
  /-- The shadowed registers in force, and a captured set waiting to take effect (R207). -/
  inForce : List (Nat × Word) := []
  captured : Option (List (Nat × Word)) := none
  /-- Banks (far b, or 64 + 32 t + k for near bank k of tile t) whose release scrub is still to be done
  (R218), and newly declared banks not yet ready (R205). -/
  toScrub : List Nat := []
  toReady : List Nat := []
  /-- Ring banks PX released whose rows are still to be scrubbed (R156). -/
  ringRelease : List Nat := []
  /-- Latent row errors, by 8-byte unit (R229), and rows whose tag parity is wrong (R45). -/
  ecc : List (Nat × EccError) := []
  badParity : List Nat := []
  /-- The spill request table, queued writes, and the partition and spill row a running
  sweep reads next (R222 to R225). -/
  requests : List SpillReq := []
  writes : List SpillWrite := []
  sweep : Option (Nat × Nat) := none
  /-- A sweep whose start fell while another ran (R222). -/
  sweepLate : Bool := false
  /-- Narrow writes to the spill window that wait for the sweep to end (R226): the control core they came from, if one,
  address in spill memory and bytes. -/
  narrowWrites : List (Option Nat × Nat × List Byte) := []
deriving DecidableEq, Repr

/-! ## Tiles (chapter 6) -/

/-- An arrival counter: value, counter tag and saturation (R18, R188). -/
structure Counter where
  value : Nat := 0
  tag : Bool := false
  saturated : Bool := false
deriving DecidableEq, Repr

/-- An accumulator: 32 × 32 elements of 32 bits, and its number class (R246): none, INT32 (false) or
FP32 (true). -/
structure Accum where
  elems : BitVec 32768 := 0
  cls : Option Bool := none
deriving DecidableEq, Repr

/-- How far a slot of a bundle has come in the running repetition (R181): not begun; its op issued, with spilled rows it
still waits for (R224); complete. -/
inductive SlotRun where
  | waiting | issued | done
deriving DecidableEq, Repr

/-- A bundle that has been fetched and is not complete (R179, R181). -/
structure Bundle where
  header : Nat := 0
  x : Slot := 0
  y : Slot := 0
  /-- One of its ops has begun, so that FENCE no longer holds it (Table 6.6). -/
  started : Bool := false
  /-- Repetitions that follow the running one. -/
  left : Nat := 0
  runX : SlotRun := .waiting
  runY : SlotRun := .waiting
  /-- A fault of slot Y's op, code and row, while slot X's op, whose fault goes first, still runs (R193). -/
  fault : Option (Nat × Nat) := none
deriving DecidableEq, Repr

/-- TF_TILE_STATUS.STATE (Table 6.22). -/
inductive TileRun where
  | idle | running | halted | scrubbing
deriving DecidableEq, Repr

/-- The task on a tile, as its descriptor gave it (Table 6.5), with the relocation set it latched. -/
structure TaskInfo where
  taskId : Nat := 0
  part : Nat := 0
  progRow : Nat := 0
  progRows : Nat := 0
  relIdx : Nat := 0
  rel : RelSet := {}
  limit : Nat := 0
  /-- Started by CG.DISP of a core (Table 9.10 TASK_END) rather than by the sequencer. -/
  byCore : Bool := false
deriving DecidableEq, Repr

/-- One tile (Table 6.1). -/
structure Tile where
  run : TileRun := .idle
  a : Vector Word 16 := Vector.replicate 16 0
  l : Vector Nat 8 := Vector.replicate 8 0
  v : Vector Row 16 := Vector.replicate 16 0
  acc : Vector Accum 4 := Vector.replicate 4 {}
  lut : Row := 0
  cnt : Vector Counter 16 := Vector.replicate 16 {}
  ftz : Bool := false
  flags : NumFlags := {}
  pc : Nat := 0
  bundle : Option Bundle := none
  task : TaskInfo := {}
  /-- The task tag (R17). -/
  tag : Bool := false
  /-- Near banks that took a remote write since the last scrub (R217). -/
  remote : List Nat := []
  /-- Asynchronous ops numbered so far by this task (R182). -/
  asyncSeq : Nat := 0
  /-- A tagged task ended, and its status still reads running until the partition's next deadline
  instant (R197). -/
  statusHeld : Bool := false
  /-- A debug halt waits for the bundle's end or for the task-end scrub, or holds a tile without a task (R36, R257). -/
  haltAfter : Bool := false
deriving DecidableEq, Repr

/-- A row write issued by an asynchronous op and not yet landed (R171, R182, R194). -/
structure RowWrite where
  tile : Nat
  seq : Nat
  dest : Nat
  data : Row
  tag : Bool
  sig : Option (Nat × Nat)
  /-- The writer's task has ended (R194, R232). -/
  ended : Bool := false
  /-- What a fault of the write reports (R198): its bundle, and the row as the task names it. -/
  pc : Nat := 0
  addr : Nat := 0
deriving DecidableEq, Repr

/-- The deadline supervisor and the beat monitor outside their registers (R189, R191). -/
structure SupState where
  /-- The smallest margin of a frame ended in the period, in µs (R189). -/
  margin : Option Int := none
  /-- Consecutive periods above HI. -/
  periods : Nat := 0
  /-- Consecutive slow measurements, and consecutive good ones (R191). -/
  slowRuns : Nat := 0
  goodRuns : Nat := 0
  /-- Whole minutes SLOW has lasted (R552). -/
  slowMinutes : Nat := 0
deriving DecidableEq, Repr

/-! ## Packages (chapter 11) -/

/-- What the loader keeps of a package (Tables 11.1, 11.2 and 11.3). -/
structure Package where
  version : Nat := 0
  kernelRev : Nat := 0
  /-- NVM slot it came from: 1 A, 2 B. -/
  slot : Nat := 0
  tileMask : Nat := 0
  readsRing : Bool := false
  farBanks : Nat := 0
  farZinit : Nat := 0
  pxReq : Nat := 0
  rsMask : Nat := 0
  servRow : Nat := 0
  servRows : Nat := 0
  cacheBase : Nat := 0
  maxStreams : Nat := 0
  er : Nat := 0
  admitSlots : Nat := 0
  auxRow : Nat := 0
  auxRows : Nat := 0
  ctableRow : Nat := 0
  labelCount : Nat := 0
  schemas : List Nat := []
  cacheHash : Nat := 0
  /-- STEP_B, STEP_C, TREE_B, TREE_C, ADMIT_C and ADMIT_B. -/
  costs : List Nat := []
  fixed : List Nat := []
  nearDecl : List Nat := []
  nearZinit : List Nat := []
  /-- The rows that went to the partition's spill area (R227, R342). -/
  spilledRows : Nat := 0
  /-- DESC: the 12 words of each tile's descriptor. RELOC: the 7 words of each set. -/
  descs : List (Nat × List Word) := []
  relocs : List (Nat × List Word) := []
  /-- ARB of the image. -/
  arb : Nat := 0
  /-- Rows the segments write: row key and content. -/
  rows : List (Nat × Row) := []
  /-- Spilled ranges: first row in the spill area and content. -/
  spillRows : List (Nat × Row) := []
deriving DecidableEq, Repr

/-! ## Serving (chapter 10) -/

/-- Stream states of Table 10.3. -/
inductive StreamState where
  | free | admitting | live | paused
deriving DecidableEq, Repr

/-- A node of an open tree (R319): its parent's index, or none for the last committed step; its cache
slot; and whether it is an occluded hypothesis. -/
structure TreeNode where
  parent : Option Nat
  slot : Nat
  occluded : Bool
deriving DecidableEq, Repr

/-- A stream of the kernel's stream table (R310 to R325). -/
structure Stream where
  state : StreamState := .free
  cls : Nat := 0
  /-- Order of admission, and of pausing. -/
  admitOrder : Nat := 0
  pauseOrder : Nat := 0
  /-- The partition-frame count when it was paused (R325). -/
  pausedAt : Nat := 0
  /-- Cache slots of the committed steps, newest first, and whether each was occluded. -/
  steps : List (Nat × Bool) := []
  nodes : List TreeNode := []
  /-- The tree's most likely node, from the last TREE verdict; and the label of its TRACK_EVENTs. -/
  best : Nat := 0
  label : Nat := 0
  /-- It was resumed, and no item has been given for it since (R324). -/
  resumed : Bool := false
deriving DecidableEq, Repr

/-- A waiting request for admission (R313): its class, label and crop tokens, and the partition-frame count when it was
written. -/
structure AdmitReq where
  cls : Nat
  label : Nat
  writtenAt : Nat
  crop : List Byte := []
deriving DecidableEq, Repr

/-- The items of R316. -/
inductive ItemKind where
  | admission | step | tree
deriving DecidableEq, Repr

/-- An item handed to model code in a frame (R312, R317): the stream with its class, and the tile it was given to. An
admission item also names its place in the queue. -/
structure Item where
  kind : ItemKind
  stream : Nat
  queueAt : Nat
  tile : Nat
  cls : Nat := 0
  /-- The slots of the committed steps, newest first; and the reserved ones: the first for the entry the item writes, the
  k-th for the k-th node it may create. -/
  steps : List Nat := []
  slots : List Nat := []
  /-- For a tree item the slots of its open nodes, and the ancestor mask (R320). -/
  nodes : List Nat := []
  mask : List Byte := []
  /-- It follows a pause (R324), or a gap (R328). -/
  afterPause : Bool := false
  afterGap : Bool := false
deriving DecidableEq, Repr

/-- A TRACK_EVENT candidate to be written (Tables 12.3 and 12.5): 0 enter, 1 exit, 2 pause, 3 evict; the stream, and the class
and label it had. -/
structure TrackEvt where
  event : Nat
  stream : Nat
  cls : Nat
  label : Nat
deriving DecidableEq, Repr

/-- The serving kernel's tables (R302). `work` is the table the frame in progress will commit (R309). -/
structure Kernel where
  streams : List Stream := []
  work : List Stream := []
  items : List Item := []
  queue : List AdmitReq := []
  workQueue : List AdmitReq := []
  /-- Processed, skipped and voided partition frames so far (R313, R325). -/
  frames : Nat := 0
  /-- Orders given to admissions and pauses so far. -/
  orders : Nat := 0
  /-- TRACK_EVENT candidates of the plan. -/
  events : List TrackEvt := []
  /-- Expired and lost requests for admission of this frame, for the count row (R375). -/
  expired : Nat := 0
  /-- An overrun happened since the last frame (R326). -/
  overran : Bool := false
  /-- SWAP of the control row of the frame in progress (Table 11.5). -/
  swap : Nat := 0
  /-- The copy of the stream table that the selector row names (R302, R309). -/
  copy : Nat := 0
deriving DecidableEq, Repr

/-- An open frame of a partition (R304 to R309): its number, ring slot, start instant in Plumb
and in local time, the tiles whose frame task still runs, and whether its deadline instant has passed. -/
structure OpenFrame where
  number : Nat := 0
  slot : Option Nat := none
  start : BitVec 64 := 0
  startLocal : BitVec 64 := 0
  /-- The state code sampled at the start instant (R306). -/
  code : Nat := 0
  /-- The kernel has planned it and tasks may start; not so while an apply holds the frame (R352). -/
  begun : Bool := false
  tiles : List Nat := []
  /-- Partition tiles on which the frame task could not start yet (R304). -/
  missing : List Nat := []
  late : Bool := false
deriving DecidableEq, Repr

/-- The gate's copy of a closed frame (R376): start instant, candidate slots of 64 bytes, and the tables a
pseudonym needs are the gate's own. -/
structure GateCopy where
  start : BitVec 64
  cands : List (List Byte)
deriving DecidableEq, Repr

/-- A partition's sequencer state (R303 to R331). -/
structure PartState where
  fEn : Nat := 0
  gap : Bool := true
  frame : Option OpenFrame := none
  /-- Copies the gate holds for the next deadline instant, and ring slots to release then (R24, R305). -/
  copies : List GateCopy := []
  releases : List Nat := []
  voids : Nat := 0
  overruns : Nat := 0
  /-- Held writes of SV_CFGp, SV_DEADLINEp and SV_CTABLEp (R308); the registers hold the values in force. -/
  heldCfg : Option Word := none
  heldDeadline : Option Word := none
  heldCtable : Option Word := none
  /-- The next start instant is suppressed once (R351). -/
  suppress : Bool := false
  /-- Suspended at the next epoch boundary (R331, R497, R500). -/
  toSuspend : Bool := false
  kernel : Kernel := {}
  pkg : Option Package := none
deriving DecidableEq, Repr

/-! ## Egress (chapter 12) -/

/-- A gate-generated record that waits (R379): HEALTH kind, SUB, A, B and the header's PART. -/
structure GateRec where
  kind : Nat
  sub : Nat
  a : Nat
  b : Nat
  part : Nat
  /-- It did not fit in the running budget frame (R379). -/
  tried : Bool := false
deriving DecidableEq, Repr

/-- Counts of a partition since its last GATE_COUNTS record (R376 to R379). -/
structure GateCounts where
  dropped : Nat := 0
  discarded : Nat := 0
  admits : Nat := 0
deriving DecidableEq, Repr

/-- Output states of Table 12.6. -/
inductive OutState where
  | vacant | arming | occupied | releasing
deriving DecidableEq, Repr

/-- A field output channel (R381 to R392). -/
structure OutChan where
  state : OutState := .occupied
  /-- A running hold-off or vacancy timer, in ms, with the value it started with. -/
  timer : Option Nat := none
  /-- A decision has been taken since step 17 (R383). -/
  decided : Bool := false
  /-- A charged transition that waits, as the switch state it will make (R29, R389). -/
  waiting : Option Bool := none
  /-- A retry is in progress (R385). -/
  retrying : Bool := false
  /-- The configuration the channel uses: MODE, POL, PART and ZONE take effect at the next decision (R392). -/
  cfg : Word := 0x00000008
deriving DecidableEq, Repr

/-- A field input (R387, R68): for how many samples the level being debounced has held, and the
configuration in use, which a debounce in progress keeps (R360). -/
structure InChan where
  run : Nat := 0
  cfg : Word := 0x00000614
  /-- A first comparator reading has been taken (R68). -/
  resolved : Bool := false
  /-- The edge detector is armed (R104). -/
  armed : Bool := false
deriving DecidableEq, Repr

/-- The egress gate outside its registers. The slots, SEQ and the admission counts are in the always-on
domain (R31, R370, R374). -/
structure EgState where
  /-- Bits charged in each of the 100 slots, the current one first (R30), and per partition. -/
  slots : List Nat := List.replicate 100 0
  partSlots : List (List Nat) := List.replicate 4 (List.replicate 100 0)
  /-- Bits of the running budget frame by partition (R377). -/
  partFrame : List Nat := List.replicate 4 0
  /-- Slots gone of the release period, and whether a record was released in it; the next INDEX (R370). -/
  periodSlot : Nat := 0
  periodOpen : Bool := false
  index : Nat := 0
  counts : Vector GateCounts 4 := Vector.replicate 4 {}
  /-- GATE_COUNTS was already generated in this period, per partition (R379). -/
  countsSent : List Bool := List.replicate 4 false
  gateRecs : List GateRec := []
  /-- Admission counts, by 256 p + s (R374); pseudonyms of live streams come from them. -/
  admissions : List (Nat × Nat) := []
  /-- Streams the gate sees as live, by 256 p + s, oldest admission first (R374). -/
  liveStreams : List Nat := []
  /-- The record queue, oldest first, and the number of records removed from it so far. -/
  queue : List (List Word) := []
  taken : Nat := 0
  /-- A Skim zone wake waits for a budget frame in which it fits (R499). -/
  skimWake : Bool := false
  /-- Start of the running budget frame in Plumb time (R369). -/
  frameStart : BitVec 64 := 0
  /-- The output channels and the field inputs. -/
  outs : Vector OutChan 2 := Vector.replicate 2 {}
  ins : Vector InChan 2 := Vector.replicate 2 {}
deriving DecidableEq, Repr

/-! ## Fuses (Tables 17.7 and 17.8) -/

/-- The fuses the device reads: three copies of the three lifecycle bits, an unreadable bit being none
(R40); identity; policy; key slots; the pseudonym secret. -/
structure Fuses where
  lc : List (List (Option Bool)) := List.replicate 3 (List.replicate 3 (some false))
  uid : BitVec 64 := 0
  grade : Nat := 0
  pixelRev : Nat := 1
  logicRev : Nat := 1
  memoryRev : Nat := 1
  vfuse : Nat := 700
  dcgRatio : Nat := 0x8000
  frameCut : Nat := 0
  rateCut : Nat := 0
  schemaForbid : Nat := 0
  auxAllTagged : Bool := false
  arb : Nat := 0
  /-- Owner key slots: the SHA-256 digest of the slot's public key once programmed, and revocation. -/
  keys : List (Option (BitVec 256)) := List.replicate 4 none
  revoked : List Bool := List.replicate 4 false
  pseudo : Option (BitVec 256) := none
  /-- An uncorrectable word in slot k's digest, and in the pseudonym secret (R537). -/
  keyBad : List Bool := List.replicate 4 false
  pseudoBad : Bool := false
  /-- Pixel bias disabled (Table 1.4 step 9), and the factory trim words FZ_TRIM0 to FZ_TRIM3. -/
  pixOff : Bool := false
  trims : List Word := [0, 0, 0, 0]
deriving DecidableEq, Repr

/-- A fuse program under way (R538, R41): OP of Table 17.8 (6 PROVISION, 7 SEAL, 8 RETURN), slot, target value,
and whether a mailbox command waits for it. -/
structure FuseJob where
  op : Nat
  slot : Nat := 0
  value : BitVec 256 := 0
  mailbox : Bool := false
deriving DecidableEq, Repr

/-! ## The pixel front end (chapter 5) -/

/-- One row in the crossing FIFO (R151). -/
structure FifoRow where
  /-- Number of the frame it belongs to. -/
  frame : Nat
  dest : Nat
  data : Row
  /-- The image row it fills, or none for the staging area. -/
  image : Option Nat
  /-- Held at its bank under the waits outcome (R152). -/
  held : Bool
deriving DecidableEq, Repr

/-- A frame in readout (R148 to R153). -/
structure FrameState where
  number : Nat := 0
  slot : Nat := 0
  /-- Charge transfers of the frame so far. -/
  exposure : Nat := 1
  complete : Bool := true
  /-- Image rows acknowledged, line pairs complete, and band increments given per partition. -/
  acked : List Nat := []
  pairs : Nat := 0
  bands : Vector Nat 4 := Vector.replicate 4 0
  /-- TM_STATUS.LOCKED at its frame instant (R450). -/
  locked : Bool := false
  subst : Nat := 0
  sat : Nat := 0
  hist : Vector Nat 64 := Vector.replicate 64 0
  qsum : Vector Nat 4 := Vector.replicate 4 0
  /-- Applied e_1 of this frame, in 10 ns units (R140), and its black levels by quadrant and gain (R142). -/
  e1 : Nat := 0
  black : List Nat := []
  /-- The PX configuration and the Skim mode in force at its frame instant: it is read out and described under them, whatever
  takes effect later (R148, R155). -/
  cfg : List (Nat × Word) := []
  skim : Bool := false
deriving DecidableEq, Repr

/-- The front end outside its registers. -/
structure PxState where
  inForce : List (Nat × Word) := []
  captured : Option (List (Nat × Word)) := none
  /-- The captured set came while a stop was completing: it takes effect after the stop (R160). -/
  atStop : Bool := false
  /-- Skim mode, and a switch of it that waits (R159). -/
  skim : Bool := false
  skimNext : Option Bool := none
  /-- The slot last chosen (R149); the hold masks stand in PX_RING_HOLD. -/
  lastSlot : Option Nat := none
  /-- The frames in readout, oldest first. -/
  frames : List FrameState := []
  /-- The first exposure of a frame has started and its frame instant has not come (R158). -/
  exposing : Bool := false
  fifo : List FifoRow := []
  /-- e_1 set for the next frame and for the one after it; none: not measured yet (R141). -/
  e1Next : Option Nat := none
  e1After : Option Nat := none
  /-- Means of the shielded pixels by quadrant and gain over the last frame read out; none after RUN (R142). -/
  black : Option (List Nat) := none
  /-- No frame instant has come since the sensor started (R142). -/
  first : Bool := true
  /-- VDD_PIXA has been good for 20 ms (R158, R164). -/
  supplyGood : Bool := false
  /-- Plumb time up to which lock instants are accounted for: the last frame instant, or the start of the sensor (R157). -/
  lastInstant : Option (BitVec 64) := none
  /-- The last measured mean m (R141, R163). -/
  lastMean : Nat := 1
deriving DecidableEq, Repr

/-! ## Pins and supplies (chapter 2) -/

/-- The pins and supply levels that the block reads or drives. -/
structure PinState where
  /-- Detected VDDIO mode (R57): 0 none, 1 for 1.8 V, 2 for 3.3 V. -/
  vddioMode : Nat := 0
  /-- VDDIO good and VDD_MEM above its undervoltage threshold (Table 2.15). -/
  vddioGood : Bool := false
  vddMemGood : Bool := false
  /-- VDD_AON above its brown-out threshold, and the levels of RESET_N and LHOLD_N. -/
  vddAon : Bool := true
  resetN : Bool := true
  lholdN : Bool := true
  /-- VCORE_EN as driven (Table 2.10). -/
  vcoreEn : Bool := false
  /-- TEST_EN as a reset took it, and internal scan selected by it (R80). -/
  testEn : Bool := false
  scan : Bool := false
deriving DecidableEq, Repr

/-! ## The aux analog subsystem (chapter 15) -/

/-- An aux pass in progress (R461, R465, R468): what it took at its start and what it has given so far. -/
structure AxPass where
  /-- Bank, its entries, AX_IMG_MASK and AX_DEST in force at its start (R467, R485, R486), with the ring that it names. -/
  bank : Nat
  entries : List Word := []
  mask : Nat
  dest : Word
  destBase : Nat := 0
  destRows : Nat := 0
  /-- OFF and GAIN by gain index, and SOFF and SGAIN by entry, in force at its start (R465). -/
  cal : List (Int × Nat)
  sys : List (Int × Nat)
  /-- Results so far, in entry order: value, clamped, imaging-class. -/
  results : List (Nat × Bool × Bool) := []
deriving DecidableEq, Repr

/-- An aux row in the crossing FIFO (R470): its row, content, partition and the increment that follows (R471). -/
structure AxRow where
  dest : Nat
  data : Row
  part : Nat
deriving DecidableEq, Repr

/-- The aux subsystem outside its registers. -/
structure AxState where
  /-- RUN is in effect (R480), and a trigger was accepted whose pass has not started. -/
  running : Bool := false
  trig : Bool := false
  /-- Passes whose last result is not complete, oldest first. -/
  passes : List AxPass := []
  fifo : List AxRow := []
  /-- Rows discarded since the last one written (DROPPED of Table 15.3). -/
  dropped : Nat := 0
  /-- A calibration in progress: a system-calibration entry and whether it is the full step, or none for
  self-calibration; and a self-calibration that waits for the pass's last sample (R477). -/
  syscal : Option (Nat × Bool) := none
  calNext : Bool := false
deriving DecidableEq, Repr

/-! ## Start-up (chapter 3) -/

/-- A locator of the booted Primer (Table 3.7). -/
structure Locator where
  kind : Nat
  part : Nat
  hasB : Bool
  aOff : Nat
  aLen : Nat
  bOff : Nat
  bLen : Nat
deriving DecidableEq, Repr

/-- A Snag Log entry held in the always-on domain for step 10 of the next boot (R85, R106). -/
structure HeldCode where
  kind : Nat
  code : Nat
  arg : Nat
deriving DecidableEq, Repr

/-- What the boot ROM keeps: the place in Table 3.1, the NVM it found, and the Primer it booted. -/
structure BootState where
  /-- The last step of Table 3.1 that has ended; 0 while reset is asserted. -/
  step : Nat := 1
  /-- The code of the failure that ended this boot, while the 1 s wait of R106 runs; a stop for good. -/
  failed : Option Nat := none
  stopped : Bool := false
  /-- VDD_AON rose and Plumb time is not set yet (R441). -/
  aonRose : Bool := true
  /-- Always-on: codes held for the Snag Log. VBAT domain: the brown-out flag (R551) and PW_LDO_OVL (R507). -/
  held : List HeldCode := []
  brownout : Bool := false
  ldoOvl : Bool := false
  /-- Usable NVM size, the read command, and 4-byte addressing (R89, R90). -/
  nvmSize : Nat := 0
  nvmCmd : Nat := 0
  addr4 : Bool := false
  /-- The POLICY section (Table 3.8). -/
  startSkim : Bool := false
  failRecovery : Bool := false
  hostCfg : Nat := 0
  locators : List Locator := []
  /-- Locators whose image has not been read yet in this load phase (R102). -/
  toLoad : List Locator := []
  /-- Partitions the Primer declares, and whether an image was refused in every slot (R105). -/
  declared : List Nat := []
  imageFailed : Bool := false
  /-- VERSION of the control-cluster firmware; ENTRY0 of the management firmware; ARB of each loaded image, by
  locator kind and partition, and of the booted Primer. -/
  clusterVersion : Nat := 0
  mgmtEntry : Nat := 0
  arbs : List (Nat × Nat) := []
  primerArb : Nat := 0
  /-- ENTRY0 to ENTRY3 of the control-cluster firmware, and the value the PARTITION sections last gave SV_CTRL. -/
  clusterEntries : List Word := []
  svCtrl : Word := 0
  /-- Local time at which the watchdog, and the management watchdog, last started from their full timeout. -/
  wdtFrom : BitVec 64 := 0
  mgWdtFrom : BitVec 64 := 0
  /-- The last system reset: its cause, the local time at which it began, and whether the watchdog ran then (R134). -/
  lastReset : Option (Nat × BitVec 64 × Bool) := none
deriving DecidableEq, Repr

/-! ## The change-set engine (chapter 11) -/

/-- A package to be loaded in an interrupted change (R358, R359): partition, slot, the package its banks are declared for (none:
the partition is left empty), and the image it must read; none when the previous package is put back. -/
structure Reload where
  part : Nat
  slot : Nat
  pkg : Option Package
  img : Option (List Byte) := none
deriving DecidableEq, Repr

/-- The change-set engine outside its registers (R347 to R361). -/
structure PkState where
  /-- PK_CSBUF, by offset. -/
  buf : List Host.Cell := []
  /-- The submitted set, header and entries. -/
  set : List Byte := []
  /-- Package staged for a LOAD (R354): partition and content, whose rows are empty once they are written; and the banks
  declared for it. -/
  staged : Option (Nat × Package) := none
  stagedBanks : List Nat := []
  /-- Local time at which the set became ready; the 1 s of R351 from then has run out; and a frame was dropped for it. -/
  readyAt : BitVec 64 := 0
  late : Bool := false
  dropped : Bool := false
  /-- Partitions whose final frame is marked (R355). -/
  finals : List Nat := []
  /-- The apply has begun: its entries are performed, and its SP apply waits to take effect (R352). -/
  begun : Bool := false
  /-- Partitions of which no frame starts until the apply is complete (R352). -/
  applying : List Nat := []
  /-- Step of R358: 1 partitions close; 2 a RELOAD's SP apply is due; 3 its load; 4 the entries; 0 none runs. -/
  quiesce : Nat := 0
  /-- The partitions that were enabled. -/
  enabled : Nat := 0
  /-- The RELOADs still to do, the first of them in progress; and the partitions done so far with the package each held. -/
  reloads : List Reload := []
  previous : List (Nat × Option Package) := []
  /-- A QUIESCE set failed: its result and detail, with which it ends once the previous packages are back (R359). -/
  failed : Option (Nat × Nat) := none
  /-- Banks that the engine's next SP apply undeclares (R341, R356, R361). -/
  undeclare : List Nat := []
  /-- Partitions whose first frame under the new configuration is awaited (R353). -/
  awaiting : List Nat := []
deriving DecidableEq, Repr

/-! ## Management (chapter 17) -/

/-- An NVM program or erase (R529, R533, R534): start address, length of an erase or bytes to program. -/
structure NvmOp where
  addr : Nat
  erase : Nat := 0
  data : List Byte := []
deriving DecidableEq, Repr

/-- The management subsystem outside its registers. -/
structure MgState where
  /-- The mailbox bytes 0x000 to 0xFEF, by offset. -/
  mbox : List Host.Cell := []
  /-- NVM operations of the Snag Log entry being written, and of the update command in progress. -/
  snagOps : List NvmOp := []
  updOps : List NvmOp := []
  /-- The one in progress: of the Snag Log (true) or of the update. -/
  current : Option Bool := none
  /-- NVM ranges programmed since UPD_BEGIN (R534), as offset in the slot and length. -/
  programmed : List (Nat × Nat) := []
  /-- A fuse program in progress, and FZ_PROG_CMD's arguments as written. -/
  job : Option FuseJob := none
  /-- Entries lost since the last KIND 3 entry was queued (R531). -/
  lostDue : Nat := 0
deriving DecidableEq, Repr

/-! ## Power (chapter 16) -/

/-- The AVSBus master (R508 to R510). A target is a voltage in mV and whether it is a ceiling request. -/
structure AvsState where
  /-- The target of the transaction outstanding, and the one waiting behind it. -/
  current : Option (Nat × Bool) := none
  waiting : Option (Nat × Bool) := none
  /-- The regulator has answered the write frame with SlaveAck 0b00; how often it answered otherwise. -/
  written : Bool := false
  nacks : Nat := 0
  /-- Transactions in a row without acknowledge; the target to issue again at the next decision. -/
  fails : Nat := 0
  reissue : Option (Nat × Bool) := none
  /-- The last target that was acknowledged. -/
  acked : Nat := 0
deriving DecidableEq, Repr

/-- The power controller outside its registers. -/
structure PwState where
  /-- A request handed over and not yet decided (R493, R495): target and source as PW_LAST_REFUSER names it. -/
  request : Option (Nat × Nat) := none
  /-- The transition in progress is an entry (else an exit). -/
  entering : Bool := false
  /-- A wake request is held (R504, R514). -/
  wake : Bool := false
  /-- Step of Table 16.4 or Table 16.5 an exit has reached. -/
  exitStep : Nat := 0
  /-- The end condition of a supply restart (Table 16.8): 1 VCORE_PG, 2 VDD_MEM, 3 the dies. -/
  restartEnd : Nat := 0
  /-- The supervisor request held at step 6 of R497. -/
  heldRequest : Nat := 0
  /-- The last temperatures of the three dies in °C. -/
  temps : List Int := [25, 25, 25]
  avs : AvsState := {}
deriving DecidableEq, Repr

/-! ## The cores (chapter 9) -/

/-- A store-buffer entry: one 32-byte line of memory with the bytes written, or one register store (R282, R283). -/
structure StoreEntry where
  isReg : Bool
  line : Nat
  bytes : List Host.Cell
deriving DecidableEq, Repr

/-- A combining-buffer entry: a 64-byte line and the bytes written (R275). -/
structure NtEntry where
  line : Nat
  bytes : List Host.Cell
deriving DecidableEq, Repr

/-- A load that has left a core and whose result is not written yet (R281): its register, address, width and extension, the
pc and length of its instruction, and its bytes once it has been performed. -/
structure OutLoad where
  reg : Nat
  addr : Nat
  size : Nat
  zeroExt : Bool
  pc : Word
  len : Nat
  bytes : Option (List Byte)
deriving DecidableEq, Repr

/-- A core: a control core, or the management core, which has no caches and no buffers (R262 to R267, R285, R522). -/
structure Core where
  /-- Out of reset, stalled in WFI, halted by debug, and a reset waits for the core's accesses (R267). -/
  running : Bool := false
  wfi : Bool := false
  halted : Bool := false
  /-- One more instruction may run before the halt takes hold again; the two address-match triggers (R263). -/
  stepping : Bool := false
  triggers : List (Option Word) := [none, none]
  /-- dcsr of the debug module: xdebugver 4, and the mode and the cause of the last halt entry (R263). -/
  dcsr : Word := 0x40000003
  resetDue : Bool := false
  /-- x0 to x31; x0 is never written. -/
  x : Vector Word 32 := Vector.replicate 32 0
  pc : Word := 0
  /-- In U-mode. -/
  user : Bool := false
  /-- The CSRs that hold a value (Table 9.4), by address; unlisted ones read 0. -/
  csrs : List (Nat × Word) := []
  mcycle : BitVec 64 := 0
  minstret : BitVec 64 := 0
  /-- Wrong-path line fetches (R291). -/
  wrongPath : BitVec 64 := 0
  /-- Lines of the I-cache with their content, and of the D-cache, whose content is the memory's (R278, R285). -/
  icache : List (Nat × List Byte) := []
  dcache : List Nat := []
  /-- Loads outstanding, at most four, in program order (Table 9.1, R281). -/
  loads : List OutLoad := []
  /-- Oldest first (R282, R275). -/
  stores : List StoreEntry := []
  nts : List NtEntry := []
  /-- The reserved address, and whether other observers' stores to its granule are held back (R286, R288). -/
  reserved : Option Nat := none
  holding : Bool := false
deriving DecidableEq, Repr

/-! ## The Lath link and the host SPI port (chapter 13) -/

/-- What a node last put on one of its lines (Table 13.2): a heartbeat, a frame and whether it ended in EOF_BAD, or a
wake pattern. -/
inductive LineItem where
  | heartbeat (addr : Nat)
  | frame (bytes : List Byte) (bad : Bool)
  | wake (target : Nat)
deriving DecidableEq, Repr

/-- A request that waits for the host-operation engine (Table 13.4, R423): TYPE, RETRY, SEQ, payload, and whether it
was a broadcast. -/
structure HostReq where
  type : Nat
  seq : Nat := 0
  retry : Bool := false
  payload : List Byte
deriving DecidableEq, Repr

/-- A frame in an upward buffer (R404): its bytes, 40 ns ticks until it has left (none: it waits for the line), whether
it is this node's own response, and a state request handed over once it has left (R495). -/
structure UpFrame where
  bytes : List Byte
  ticks : Nat
  own : Bool := false
  bad : Bool := false
  power : Option Nat := none
deriving DecidableEq, Repr

/-- The link controller outside its registers. Port states and neighbour addresses stand in LK_STATUS. -/
structure LinkState where
  /-- The ports are due to be opened (R399, R110). -/
  opening : Bool := false
  /-- Valid heartbeats in a row while training, and the neighbour a port had when it was lost: U, D. -/
  trainU : Nat := 0
  trainD : Nat := 0
  knownU : Option Nat := none
  knownD : Option Nat := none
  /-- The request taken and not carried out, and the ENUMERATE taken (COUNT, FLAGS, SEQ). -/
  req : Option HostReq := none
  enumReq : Option (Nat × Nat × Nat) := none
  /-- A DELAY request on the D port: its SEQ. -/
  delayReq : Option Nat := none
  /-- Own frames that wait for room in the upward buffers, and the buffers (at most two frames). -/
  waiting : List UpFrame := []
  up : List UpFrame := []
  /-- 40 ns ticks for which the D port still carries a forwarded frame, and a wake pattern that waits (R430). -/
  downBusy : Nat := 0
  wakeWaits : Option Nat := none
  /-- The last response and the SEQ of its request (R401). -/
  stored : Option (Nat × List Byte) := none
  lastU : Option LineItem := none
  lastD : Option LineItem := none
  /-- The record cursor as a count of records ever queued, and the number offered (R419). -/
  cursor : Nat := 0
  offered : Nat := 0
  /-- Local time at which LK_CRC and LK_FWD_OVF were last raised (R434). -/
  crcRaised : Option (BitVec 64) := none
  ovfRaised : Option (BitVec 64) := none
deriving DecidableEq, Repr

/-- The host SPI port outside its registers. -/
structure SpiState where
  /-- The request accepted and not carried out. -/
  req : Option HostReq := none
  /-- The response in the transaction buffer; the bytes last driven on HSPI_IO. -/
  response : List Byte := []
  driven : List Byte := []
  cursor : Nat := 0
  offered : Nat := 0
deriving DecidableEq, Repr

/-- What the debug port shows of its last memory or register access: whether it failed (R36, R135), and the data read. -/
structure DebugState where
  error : Bool := false
  data : Word := 0
deriving DecidableEq, Repr

/-- The whole machine. -/
structure State where
  regs : List (Nat × Word) := []
  time : TimeState := {}
  /-- Bytes of the address map: near and far scratchpad, cluster and management SRAM. -/
  mem : List Host.Cell := []
  /-- Tagged rows, by narrow-view address divided by 512 (R13). -/
  tags : List (Nat × Bool) := []
  nvm : List Host.Cell := []
  spillMem : List Host.Cell := []
  /-- The bytes of the Layout Table; empty before the end of boot step 4 (R115). -/
  layout : List Byte := []
  fuses : Fuses := {}
  ds : DsState := {}
  sp : SpState := {}
  tiles : Vector Tile 16 := Vector.replicate 16 {}
  inFlight : List RowWrite := []
  sup : SupState := {}
  parts : Vector PartState 4 := Vector.replicate 4 {}
  eg : EgState := {}
  px : PxState := {}
  pw : PwState := {}
  pins : PinState := {}
  ax : AxState := {}
  boot : BootState := {}
  pk : PkState := {}
  mg : MgState := {}
  /-- Cores 0 to 3 of the control cluster, and the management core as core 4. -/
  cores : Vector Core 5 := Vector.replicate 5 {}
  /-- Latent errors of cluster SRAM, by 32-bit word address (Table 9.1), and stores to a held granule that wait:
  requester, address and bytes (R288). -/
  sramEcc : List (Nat × EccError) := []
  heldStores : List (Requester × Nat × List Byte) := []
  link : LinkState := {}
  spi : SpiState := {}
  debug : DebugState := {}
  /-- The next free value (log entry 2). The model's own field. -/
  freeIdx : Nat := 0
  snagQueue : List SnagEntry := []
  logSlots : List (Nat × LogSlot) := []
  pending : List Instr := []
deriving DecidableEq, Repr

/-- The machine right after power-on reset, at step 1 of Table 3.1: every register at its reset value, every
egress slot charged at one hundredth of the full window (R31), fuses unprogrammed, memories with nothing listed,
and the calendar at 2000-01-01 00:00:00, a Saturday (log entry 4). -/
def State.reset : State :=
  { regs := [(Reg.TM_RTC_TIME, 0x05000000), (Reg.TM_RTC_DATE, 0x00000101)]
    eg := { slots := List.replicate 100 6400 } }

end Sys2Proof.Machine
end

