-- ==== Sys2Proof/Machine/Ops.lean ====
section
/-! DEFINITION. The operations every block shares: register and field access, raising an error code,
the Snag Log queue and its rate limits, interrupt sources, and the CRC-32 of R93. -/

namespace Sys2Proof.Machine

/-! ## Registers -/

/-- The value held at a register address; an unnamed offset reads 0 (R125). -/
def State.reg (s : State) (a : Nat) : Word := Sparse.get RegMap.resetValue s.regs a

/-- The state with `v` held at a register address. -/
def State.setReg (s : State) (a : Nat) (v : Word) : State :=
  { s with regs := Sparse.put RegMap.resetValue a v s.regs }

/-- Bits [hi:lo] of a word as a number. -/
def bits (w : Word) (hi lo : Nat) : Nat := w.toNat / 2 ^ lo % 2 ^ (hi - lo + 1)

/-- The word with `v`, cut to the field, in bits [hi:lo]. -/
def setBits (w : Word) (hi lo v : Nat) : Word :=
  let n := w.toNat
  let width := hi - lo + 1
  word (n / 2 ^ (hi + 1) * 2 ^ (hi + 1) + v % 2 ^ width * 2 ^ lo + n % 2 ^ lo)

/-- Bit `k` of a word. -/
def tstBit (w : Word) (k : Nat) : Bool := w.getLsbD k

/-- The value of a register field. -/
def State.fld (s : State) (f : RegField) : Nat := bits (s.reg f.addr) f.hi f.lo

/-- A one-bit register field as a truth value. -/
def State.flag (s : State) (f : RegField) : Bool := tstBit (s.reg f.addr) f.lo

/-- The state with a register field set; the register's other bits stand. -/
def State.setFld (s : State) (f : RegField) (v : Nat) : State :=
  s.setReg f.addr (setBits (s.reg f.addr) f.hi f.lo v)

/-- Set a one-bit register field. -/
def State.setFlag (s : State) (f : RegField) (b : Bool) : State := s.setFld f (bit b)

/-- Add `n` to a counter field that saturates at its width (R553); adding nothing changes nothing. -/
def State.incSat (s : State) (f : RegField) (n : Nat) : State :=
  if n = 0 then s else s.setFld f (min (s.fld f + n) (2 ^ (f.hi - f.lo + 1) - 1))

/-- Add `n` to a counter field that wraps at its width (R553). -/
def State.incWrap (s : State) (f : RegField) (n : Nat) : State := s.setFld f (s.fld f + n)

/-- A two's complement field value of `w` bits as an integer. -/
def signed (w v : Nat) : Int := if 2 ^ (w - 1) ≤ v then (v : Int) - 2 ^ w else v

/-- An integer as a `w`-bit two's complement value. -/
def unsigned (w : Nat) (i : Int) : Nat := (i % (2 ^ w : Int)).toNat

/-- `x` held between `lo` and `hi`. -/
def clampInt (lo hi x : Int) : Int := if x < lo then lo else if hi < x then hi else x

/-- `x` held between `lo` and `hi`. -/
def clampNat (lo hi x : Nat) : Nat := if x < lo then lo else if hi < x then hi else x

/-! ## Time -/

/-- Local time in whole nanoseconds, as TM_LOCAL shows it (R440). -/
def State.localNs (s : State) : BitVec 64 := s.time.localT.extractLsb' 32 64

/-- Plumb time in whole nanoseconds, as TM_PLUMB shows it (R440). -/
def State.plumbNs (s : State) : BitVec 64 := s.time.plumbT.extractLsb' 32 64

/-! ## Interrupt sources -/

/-- Set a bit of CC_IRQ_PEND (Table 9.10). -/
def State.pend (s : State) (k : Nat) : State :=
  s.setReg Reg.CC_IRQ_PEND (setBits (s.reg Reg.CC_IRQ_PEND) k k 1)

/-! ## The Snag Log queue -/

/-- A new entry of the queue, stamped with Plumb time and uptime (Table 17.4). -/
def State.mkSnag (s : State) (kind src code count : Nat) (arg : Word) : SnagEntry :=
  { kind := kind, src := src, code := code, plumb := s.plumbNs,
    uptime := s.localNs.toNat / 1000000000 % 2 ^ 32, count := min count 0xFFFF, arg := arg }

/-- Put an entry in the 64-entry queue, or drop and count it while 64 wait (R531). -/
def State.queueSnag (s : State) (e : SnagEntry) : State :=
  if s.snagQueue.length < 64 then
    { s with snagQueue := s.snagQueue ++ [e] }.setFld Fld.MG_SNAG_QUEUE_COUNT (s.snagQueue.length + 1)
  else
    (({ s with mg := { s.mg with lostDue := s.mg.lostDue + 1 } }.incSat Fld.MG_SNAG_LOST_COUNT 1).setFlag
      ⟨Reg.MG_ERR_STATUS, 10, 10⟩ true).setFld Fld.MG_ERR_CODE_CODE 0x0E0B

/-- What a code that was never logged holds. -/
def LogSlot.unused (_ : Nat) : LogSlot := ⟨none, 0⟩

/-- Log a raise under a rate limit of one entry per `ns` of local time for the key; COUNT is the
number of raises the entry stands for (R50, R395, R548). -/
def State.logLimited (s : State) (key ns src code : Nat) (arg : Word) : State :=
  let slot := Sparse.get LogSlot.unused s.logSlots key
  let due := match slot.last with
    | none => true
    | some t => ns ≤ (s.localNs - t).toNat
  if due then
    ({ s with logSlots := Sparse.put LogSlot.unused key ⟨some s.localNs, 0⟩ s.logSlots }).queueSnag
      (s.mkSnag 1 src code (slot.held + 1) arg)
  else
    { s with logSlots := Sparse.put LogSlot.unused key ⟨slot.last, slot.held + 1⟩ s.logSlots }

/-- One second and one minute in nanoseconds. -/
def oneSecond : Nat := 1000000000
def oneMinute : Nat := 60000000000

/-- The default Snag Log rule of R548: one KIND 1 entry per code per minute. -/
def State.logDefault (s : State) (src code : Nat) (arg : Word) : State :=
  s.logLimited code oneMinute src code arg

/-- Set the status bit of a code and the block's last-code field (R50, R135 and their like): code
0xBBcc sets bit cc − 1 of the block's ERR_STATUS. -/
def State.raiseBits (s : State) (status codeReg code : Nat) : State :=
  (s.setReg status (setBits (s.reg status) (code % 256 - 1) (code % 256 - 1) 1)).setFld
    ⟨codeReg, 15, 0⟩ code

/-! ## Sorting -/

/-- An element put in front of the first one it may precede. -/
def insertBy {α : Type} (le : α → α → Bool) (x : α) : List α → List α
  | [] => [x]
  | y :: ys => if le x y then x :: y :: ys else y :: insertBy le x ys

/-- A list in order, equals as they stood. -/
def sortBy {α : Type} (le : α → α → Bool) (l : List α) : List α := l.foldr (insertBy le) []

/-! ## CRC-32 (R93) -/

/-- One bit of the reflected CRC-32 register. -/
def crcBit (c : Nat) : Nat := if c % 2 = 1 then (c / 2) ^^^ 0xEDB88320 else c / 2

/-- One byte into the CRC-32 register. -/
def crcByte (c : Nat) (b : Byte) : Nat :=
  crcBit (crcBit (crcBit (crcBit (crcBit (crcBit (crcBit (crcBit (c ^^^ b.toNat))))))))

/-- The CRC-32 of a byte string (R93). -/
def crc32 (bs : List Byte) : Word := word (bs.foldl crcByte 0xFFFFFFFF ^^^ 0xFFFFFFFF)

/-! ## Little-endian fields of byte strings (R6) -/

/-- The little-endian number of the `n` bytes from offset `o`; bytes beyond the end read 0. -/
def le (bs : List Byte) (o n : Nat) : Nat :=
  ((bs.drop o).take n).foldr (fun b acc => b.toNat + 256 * acc) 0

/-- The `n` little-endian bytes of a number. -/
def toLe : Nat → Nat → List Byte
  | 0, _ => []
  | n + 1, v => BitVec.ofNat 8 v :: toLe n (v / 256)

/-- Are all bytes of `[o, o + n)` zero? -/
def allZero (bs : List Byte) (o n : Nat) : Bool := ((bs.drop o).take n).all (· == 0#8)

end Sys2Proof.Machine
end

