-- ==== Sys2Proof/Machine/Raise.lean ====
section
/-! DEFINITION. Raising the error codes of the blocks, each as its own chapter's table says: the sticky
bit, the last-code register and its details, the counters, the interrupt source and the Snag Log rule. -/

namespace Sys2Proof.Machine

/-- The SRC code of a requester (Table 1.13; 0x70 from Table 7.12). -/
def srcCode : Requester → Nat
  | .core n => n
  | .mgmt => 0x10
  | .dpLath => 0x20
  | .dpHost => 0x21
  | .debug => 0x30
  | .tile t => 0x40 + t
  | .gate => 0x50
  | .verifier => 0x60
  | .spill => 0x70

/-- Raise a DS code (R50): status bit, code, requester, address, count, and at most one Snag Log entry
per code per second. -/
def State.raiseDs (s : State) (code : Nat) (src : Requester) (addr : Nat) : State :=
  ((((s.raiseBits Reg.DS_VIOL_STATUS Reg.DS_VIOL_CODE code).setFld Fld.DS_VIOL_CODE_SRC
    (srcCode src)).setReg Reg.DS_VIOL_ADDR (word addr)).incSat Fld.DS_VIOL_CNT_COUNT 1).logLimited
    code oneSecond (srcCode src) code (word addr)

/-- Raise a SYS code (R135). -/
def State.raiseSys (s : State) (code : Nat) (src : Requester) (addr : Nat) : State :=
  ((((s.raiseBits Reg.SYS_ERR_STATUS Reg.SYS_ERR_CODE code).setFld Fld.SYS_ERR_CODE_SRC
    (srcCode src)).setReg Reg.SYS_ERR_ADDR (word addr)).incSat Fld.SYS_ERR_CNT_COUNT 1).logDefault
    (srcCode src) code (word addr)

/-- Raise a PX code (R166); a set bit of PX_ERR_STATUS sets CC_IRQ_PEND.PX (Table 9.10). -/
def State.raisePx (s : State) (code : Nat) : State :=
  ((s.raiseBits Reg.PX_ERR_STATUS Reg.PX_ERR_CODE code).pend 7).logDefault 0 code 0

/-- Raise an SP code with a requester byte (R235). -/
def State.raiseSpFrom (s : State) (code src addr : Nat) : State :=
  (((s.raiseBits Reg.SP_ERR_STATUS Reg.SP_ERR_CODE code).setFld Fld.SP_ERR_CODE_SRC src).setReg Reg.SP_ERR_ADDR
    (word addr)).logDefault src code (word addr)

/-- Raise an SP code (R235) for a requester whose data carries no tag. -/
def State.raiseSp (s : State) (code : Nat) (src : Requester) (addr : Nat) : State := s.raiseSpFrom code (srcCode src) addr

/-- Raise a CC code of core `n` for an access to an address, which CC_FAULTn_ADDR or CC_ASYNCn_ADDR shows and the Snag Log
entry carries (Table 9.8, Table 9.10, R548). -/
def State.raiseCc (s : State) (code n addr : Nat) : State :=
  ((s.raiseBits Reg.CC_ERR_STATUS Reg.CC_ERR_CODE code).setFld Fld.CC_ERR_CODE_CORE n).logDefault n code (word addr)

/-- Raise an SV code of partition `p` (R336); SV_ERR_STATUS becoming non-zero sets CC_IRQ_PEND.SV. -/
def State.raiseSv (s : State) (code p : Nat) : State :=
  let first := s.reg Reg.SV_ERR_STATUS == 0
  let s := (s.raiseBits Reg.SV_ERR_STATUS Reg.SV_ERR_CODE code).setFld Fld.SV_ERR_CODE_PART p
  (if first then s.pend 9 else s).logDefault 0 code 0

/-- Raise a PK code for an owner (Table 11.12). -/
def State.raisePk (s : State) (code owner : Nat) : State :=
  ((s.raiseBits Reg.PK_ERR_STATUS Reg.PK_ERR_CODE code).setFld Fld.PK_ERR_CODE_OWNER owner).logDefault
    0 code 0

/-- Raise an EG code for a channel (R395): at most one Snag Log entry per code per channel per minute. -/
def State.raiseEg (s : State) (code chan : Nat) : State :=
  (((s.raiseBits Reg.EG_ERR_STATUS Reg.EG_ERR_CODE code).setFld Fld.EG_ERR_CODE_CHANNEL chan).pend
    10).logLimited (code + 0x10000 * chan) oneMinute 0 code 0

/-- Set a bit of the Lath's event word, of the host SPI port's, or of both (Table 13.7). -/
def State.lathEvent (s : State) (k : Nat) : State := s.setReg Reg.LK_EVENT (setBits (s.reg Reg.LK_EVENT) k k 1)
def State.hostEvent (s : State) (k : Nat) : State := s.setReg Reg.HP_IRQ_STATUS (setBits (s.reg Reg.HP_IRQ_STATUS) k k 1)
def State.bothEvents (s : State) (k : Nat) : State := (s.lathEvent k).hostEvent k

/-- The ERROR event of both host paths. -/
def State.errorEvents (s : State) : State := s.bothEvents 4

/-- CS_FINAL of the host path that holds the change-set engine. -/
def State.csFinalEvent (s : State) : State :=
  match s.fld Fld.PK_CS_STATUS_OWNER with
  | 3 => s.lathEvent 1
  | 4 => s.hostEvent 1
  | _ => s

/-- Raise an LK code (R434). -/
def State.raiseLk (s : State) (code : Nat) : State :=
  (((s.raiseBits Reg.LK_ERR_STATUS Reg.LK_ERR_CODE code).errorEvents).pend 11).logDefault 0 code 0

/-- Raise an HP code (R434); HP codes are never logged (R548). -/
def State.raiseHp (s : State) (code : Nat) : State :=
  ((s.raiseBits Reg.HP_ERR_STATUS Reg.HP_ERR_CODE code).errorEvents).pend 12

/-- Raise a TM code (R456); TM_STEP and TM_SYNC_LOST are logged at most once per minute, the others by
the default rule, which is the same. -/
def State.raiseTm (s : State) (code : Nat) : State :=
  ((s.raiseBits Reg.TM_ERR_STATUS Reg.TM_ERR_CODE code).pend 13).logDefault 0 code 0

/-- Set a TM_EVENT bit, which sets CC_IRQ_PEND.TM (R456). -/
def State.tmEvent (s : State) (f : RegField) : State := (s.setFlag f true).pend 13

/-- Raise an AX code (R490). -/
def State.raiseAx (s : State) (code : Nat) : State :=
  ((s.raiseBits Reg.AX_ERR_STATUS Reg.AX_ERR_CODE code).pend 14).logDefault 0 code 0

/-- Raise a PW code; its Snag Log rule is the raiser's (R521). -/
def State.raisePw (s : State) (code : Nat) : State :=
  (s.raiseBits Reg.PW_ERR_STATUS Reg.PW_ERR_CODE code).pend 15

/-- Raise an MG code; its Snag Log rule is the raiser's (R546). -/
def State.raiseMg (s : State) (code : Nat) : State := s.raiseBits Reg.MG_ERR_STATUS Reg.MG_ERR_CODE code

/-- An MG code with its KIND 1 entry: every raise writes one (R546, Table 18.1). -/
def State.raiseMgLog (s : State) (code : Nat) (arg : Word) : State :=
  (s.raiseMg code).queueSnag (s.mkSnag 1 0 code 1 arg)

/-- Raise an FZ code; its Snag Log rule is the raiser's (R546). -/
def State.raiseFz (s : State) (code : Nat) : State := s.raiseBits Reg.FZ_ERR_STATUS Reg.FZ_ERR_CODE code

/-- An FZ code with its KIND 1 entry: every raise writes one (R546, Table 18.1). -/
def State.raiseFzLog (s : State) (code : Nat) : State := (s.raiseFz code).queueSnag (s.mkSnag 1 0 code 1 0)

end Sys2Proof.Machine
end

