-- ==== Sys2Proof/Machine/Mem.lean ====
section
/-! DEFINITION. The scratchpad as bytes, rows, tags and banks (R13 to R15, R127, R128, R199 to R207), and
the cluster and management SRAMs beside it in the same address map. -/

namespace Sys2Proof.Machine

/-- What an unlisted byte of near or far scratchpad or of an SRAM reads as: zero, as the boot scrub
leaves every row (R87); for the SRAMs a DESIGN CHOICE, log entry 5. -/
def memDefault (_ : Nat) : Byte := 0#8

/-- What an unlisted NVM byte reads as: erased (R528); DESIGN CHOICE, log entry 6. -/
def nvmDefault (_ : Nat) : Byte := 0xFF#8

/-- What an unlisted byte of spill memory reads as; DESIGN CHOICE, log entry 7. -/
def spillDefault (_ : Nat) : Byte := 0#8

/-- An untagged row is not listed in the tag plane. -/
def tagDefault (_ : Nat) : Bool := false

/-- One byte of the address map. -/
def State.byte (s : State) (a : Nat) : Byte := Sparse.get memDefault s.mem a

/-- `n` bytes of the address map from `a`. -/
def State.bytes (s : State) (a n : Nat) : List Byte := Sparse.gets memDefault s.mem a n

/-- Write bytes of the address map from `a` on. -/
def State.writeBytes (s : State) (a : Nat) (bs : List Byte) : State :=
  { s with mem := Sparse.puts memDefault a bs s.mem }

/-! ## Rows. A row's key is its narrow-view address divided by 512 (R128). -/

/-- The key of near row `r` of tile `t`. -/
def nearKey (t r : Nat) : Nat := 0x100000 + 4096 * t + r

/-- The key of absolute far row `r`. -/
def farKey (r : Nat) : Nat := 0x200000 + r

/-- A row as its 512 bytes, byte 0 first. -/
def rowBytes (r : Row) : List Byte := toLe 512 r.toNat

/-- The row a key names. -/
def State.row (s : State) (key : Nat) : Row := BitVec.ofNat 4096 (le (s.bytes (512 * key) 512) 0 512)

/-- Write a whole row; its tag stands (R15). -/
def State.putRow (s : State) (key : Nat) (r : Row) : State := s.writeBytes (512 * key) (rowBytes r)

/-- Is the row tagged? A tag parity error counts as a set tag (R45). -/
def State.tagged (s : State) (key : Nat) : Bool :=
  Sparse.get tagDefault s.tags key || s.sp.badParity.contains key

/-- Set a row's tag (R14). -/
def State.setTag (s : State) (key : Nat) : State :=
  { s with tags := Sparse.put tagDefault key true s.tags }

/-- An access or a task met a tag parity error: it is raised once for the row, whose tag then stands set (R45). -/
def State.noteParity (s : State) (r : Requester) (key : Nat) : State :=
  if s.sp.badParity.contains key then
    ({ s with sp := { s.sp with badParity := s.sp.badParity.filter (· ≠ key) } }.setTag key).raiseDs 0x0107 r (512 * key)
  else s

/-- Write a whole row and set its tag when the writer carries one; a set tag stands (R14, R15). -/
def State.writeRow (s : State) (key : Nat) (r : Row) (tag : Bool) : State :=
  let s := { s.putRow key r with sp := { s.sp with ecc := s.sp.ecc.filter (fun e => e.1 / 64 ≠ key) } }
  if tag then s.setTag key else s

/-- Scrub one row: zero it and clear its tag in one handshake, with new codes and parity (R15, R229). -/
def State.scrubRow (s : State) (key : Nat) : State :=
  { s with
    mem := Sparse.clear (512 * key) (512 * key + 512) s.mem
    tags := Sparse.put tagDefault key false s.tags
    sp := { s.sp with
      ecc := s.sp.ecc.filter (fun e => e.1 / 64 ≠ key)
      badParity := s.sp.badParity.filter (· ≠ key) } }

/-- The scrubber takes one row: a tag parity error that nothing met before is raised now, once for the row (R45; with SRC
0x60, DESIGN CHOICE, log entry 17). -/
def State.scrubOne (s : State) (key : Nat) : State := (s.noteParity .verifier key).scrubRow key

/-- Scrub every tagged row of `[lo, hi)` (R39, R217, R218). -/
def State.scrubTagged (s : State) (lo hi : Nat) : State :=
  let keys := (s.tags.map (·.1) ++ s.sp.badParity).filter (fun k => decide (lo ≤ k) && decide (k < hi))
  keys.foldl State.scrubOne s

/-- Zero-fill every row of `[lo, hi)`, tags cleared (R87, R205). -/
def State.zeroRows (s : State) (lo hi : Nat) : State :=
  { s with
    mem := Sparse.clear (512 * lo) (512 * hi) s.mem
    tags := Sparse.clear lo hi s.tags
    sp := { s.sp with
      ecc := s.sp.ecc.filter (fun e => decide (e.1 / 64 < lo) || decide (hi ≤ e.1 / 64))
      badParity := s.sp.badParity.filter (fun k => decide (k < lo) || decide (hi ≤ k)) } }

/-! ## Banks. Far bank b is b; near bank k of tile t is 64 + 32 t + k. -/

/-- The bank that holds a row. -/
def bankOf (key : Nat) : Nat :=
  if 0x200000 ≤ key then (key - 0x200000) / 8192 else 64 + (key - 0x100000) / 128

/-- First row and row count of a bank (Table 7.1). -/
def bankFirst (b : Nat) : Nat := if b < 64 then farKey (8192 * b) else 0x100000 + 128 * (b - 64)
def bankRows (b : Nat) : Nat := if b < 64 then 8192 else 128

/-- The register bit that holds a property of a bank, given the far registers and the near registers. -/
def bankBit (far near : Nat → Nat) (b : Nat) : Nat × Nat :=
  if b < 64 then (far (b / 32), b % 32) else (near ((b - 64) / 32), (b - 64) % 32)

/-- An SP register in force (R207). -/
def State.spReg (s : State) (a : Nat) : Word := Sparse.get RegMap.resetValue s.sp.inForce a

/-- A field of an SP register in force (R207). -/
def State.spFld (s : State) (f : RegField) : Nat := bits (s.spReg f.addr) f.hi f.lo

/-- The partition of a tile in force: 0 none, 1 to 4 partition 0 to 3 (Table 7.9). -/
def State.tilePart (s : State) (t : Nat) : Nat := s.spFld (Fld.SP_TILE_PART_PART t)

/-- Is a partition suspended (R331)? -/
def State.suspended (s : State) (p : Nat) : Bool := s.fld (Fld.SV_STATUS_STATE p) == 3

/-- Is tile `t` power-gated: in Trim by R496, in Skim unless it is the Skim partition's (R497), until step 3 of the
exit (Table 16.4)? -/
def State.tileGated (s : State) (t : Nat) : Bool :=
  match s.fld Fld.PW_STATE_STATE with
  | 1 =>
    (s.tilePart t == 0 || !tstBit (s.reg Reg.SV_CTRL) (s.tilePart t - 1)) &&
      !tstBit (s.reg Reg.CC_DISP_MASK) t &&
      !(s.tilePart t == 0 && s.spReg (Reg.SP_NEAR_DECL t) != 0) && (vget {} s.tiles t).run != .scrubbing
  | 2 => decide (s.pw.exitStep < 3) && (s.tilePart t == 0 || s.suspended (s.tilePart t - 1))
  | _ => false

/-- Is a bank in retention: a near bank of a gated tile, or in Skim a far bank of a suspended partition
(R496, R497)? -/
def State.bankRetained (s : State) (b : Nat) : Bool :=
  if b < 64 then
    let o := s.spFld (Fld.SP_FAR_OWNER_OWNER b)
    s.fld Fld.PW_STATE_STATE == 2 && decide (s.pw.exitStep < 3) && decide (1 ≤ o) && decide (o ≤ 4) && s.suspended (o - 1)
  else s.tileGated ((b - 64) / 32)

/-- Is the bank powered and ready for requests (R205)? -/
def State.bankPowered (s : State) (b : Nat) : Bool :=
  let p := bankBit Reg.SP_FAR_PWR Reg.SP_NEAR_PWR b
  tstBit (s.reg p.1) p.2 && !s.bankRetained b

/-- Set or clear the power bit of a bank (R205). -/
def State.setBankPower (s : State) (b : Nat) (on : Bool) : State :=
  let p := bankBit Reg.SP_FAR_PWR Reg.SP_NEAR_PWR b
  s.setReg p.1 (setBits (s.reg p.1) p.2 p.2 (bit on))

/-- Is the bank in narrow mode (R201)? -/
def State.bankNarrow (s : State) (b : Nat) : Bool :=
  let p := bankBit Reg.SP_BANKMODE_F Reg.SP_BANKMODE_N b
  tstBit (s.spReg p.1) p.2

/-- The code with which a wide access to a row fails at its bank before anything else is looked at: power, then mode
(R201). -/
def State.wideCode (s : State) (key : Nat) : Option Nat :=
  if !s.bankPowered (bankOf key) then some 0x0404 else if s.bankNarrow (bankOf key) then some 0x0403 else none

/-- The tiles that belong to partition `p`, in ascending order. -/
def State.partTiles (s : State) (p : Nat) : List Nat :=
  (List.range 16).filter (fun t => s.tilePart t = p + 1)

/-- Is tile t a C-tile (R127)? -/
def isCTile (t : Nat) : Bool := (t % 4 + t / 4) % 2 == 0

/-- The neighbour of tile t in direction 0 N, 1 E, 2 S, 3 W (R127). -/
def neighbour (t dir : Nat) : Option Nat :=
  match dir with
  | 0 => if 4 ≤ t then some (t - 4) else none
  | 1 => if t % 4 < 3 then some (t + 1) else none
  | 2 => if t < 12 then some (t + 4) else none
  | _ => if 0 < t % 4 then some (t - 1) else none

/-- The worst latent error of a row's 64 units (R229). -/
def State.rowEcc (s : State) (key : Nat) : Option EccError :=
  let es := s.sp.ecc.filter (fun e => e.1 / 64 = key)
  if es.any (fun e => e.2 = .double) then some .double
  else if es.any (fun e => e.2 = .single) then some .single else none

/-- How many units of a row hold a latent single-bit error, which a read of the row corrects (R229). -/
def State.rowSingles (s : State) (key : Nat) : Nat := (s.sp.ecc.filter (fun e => e.1 / 64 = key && e.2 == .single)).length

/-- How a row is written in SP_ERR_ADDR and TF_FAULT_ADDR: [18:0] row, [21:20] space, 4,096 t + r for
near row r of tile t (Table 7.12). -/
def keyCode (key : Nat) : Nat :=
  if 0x200000 ≤ key then (key - 0x200000) + 2 * 0x100000 else key - 0x100000

/-! ## Tiles -/

/-- Tile `t`. -/
def State.tile (s : State) (t : Nat) : Tile := vget {} s.tiles t

/-- The state with tile `t` replaced. -/
def State.setTile (s : State) (t : Nat) (x : Tile) : State := { s with tiles := vput s.tiles t x }

/-- Counter `k` of tile `t`. -/
def State.counter (s : State) (t k : Nat) : Counter := vget {} (s.tile t).cnt k

/-- The state with counter `k` of tile `t` replaced. -/
def State.setCounter (s : State) (t k : Nat) (c : Counter) : State :=
  s.setTile t { s.tile t with cnt := vput (s.tile t).cnt k c }

/-- Partition `p`'s sequencer state. -/
def State.partition (s : State) (p : Nat) : PartState := vget {} s.parts p

/-- The state with partition `p`'s sequencer state replaced. -/
def State.setPart (s : State) (p : Nat) (x : PartState) : State := { s with parts := vput s.parts p x }

/-- The lifecycle state of DS_LC.STATE (Table 1.8): 0 Blank, 1 Provisioned, 3 Sealed, 7 Returned,
6 Invalid. -/
def State.lifecycle (s : State) : Nat := s.fld Fld.DS_LC_STATE

/-- Provisioned or Sealed. -/
def State.inService (s : State) : Bool := s.lifecycle == 1 || s.lifecycle == 3

/-- The next free value, for a value the spec leaves open (log entry 2). -/
def State.free (s : State) (w : Nat) : BitVec w := (Config.freeValue s.freeIdx).setWidth w

/-- The state with the free-value index advanced. -/
def State.nextFree (s : State) : State := { s with freeIdx := s.freeIdx + 1 }

/-- A row takes free contents: the spec leaves them open (log entry 2). -/
def State.openRowAt (s : State) (key : Nat) (tag : Bool) : State :=
  { s.writeRow key (Config.freeRow s.freeIdx) tag with freeIdx := s.freeIdx + 1 }

/-- Raise an SP code for the front end or the aux writer, whose requester byte the spec does not give: a free value (log
entry 2). -/
def State.raiseSpOpen (s : State) (code addr : Nat) : State := (s.raiseSpFrom code (s.free 8).toNat addr).nextFree

end Sys2Proof.Machine
end

