-- ==== Sys2Proof/Machine/Ring.lean ====
section
/-! DEFINITION. The frame ring: its geometry in force, its slots and their hold masks (R145 to R149). -/

namespace Sys2Proof.Machine

/-- A field of a set of register values. -/
def setFldOf (m : List (Nat × Word)) (f : RegField) : Nat := bits (Sparse.get RegMap.resetValue m f.addr) f.hi f.lo

/-- A PX register in force (R155). -/
def State.pxReg (s : State) (a : Nat) : Word := Sparse.get RegMap.resetValue s.px.inForce a

/-- A field of a PX register in force (R155). -/
def State.pxFld (s : State) (f : RegField) : Nat := bits (s.pxReg f.addr) f.hi f.lo

/-- Rows per output line (Table 5.5): mode 0 full, 1 binned. -/
def lineRows (mode fmt : Nat) : Nat := (if fmt = 1 then 20 else 10) / (if mode = 0 then 1 else 2)

/-- Output lines: 2,048 full, 1,024 binned. -/
def outLines (mode : Nat) : Nat := if mode = 0 then 2048 else 1024

/-- Rows of a slot: the header row and the image rows (R147). -/
def slotRowsOf (mode fmt : Nat) (skim : Bool) : Nat := if skim then 21 else 1 + outLines mode * lineRows mode fmt

/-- Rows of the staging area (R146). -/
def stagingRowsOf (mode e g : Nat) (skim : Bool) : Nat :=
  if skim then 0 else (e - 1) * g * outLines mode * (if mode = 0 then 10 else 5)

/-- E and G of a set (R139, Table 5.10). -/
def exposuresOf (m : List (Nat × Word)) : Nat := setFldOf m Fld.PX_MODE_E
def gainsOf (m : List (Nat × Word)) : Nat := 1 + setFldOf m Fld.PX_MODE_DCG

/-- Rows of the ring of a set: its slots and its staging area (R147). -/
def ringRowsOf (m : List (Nat × Word)) (skim : Bool) : Nat :=
  let mode := setFldOf m Fld.PX_MODE_MODE
  setFldOf m Fld.PX_RING_SLOTS_SLOTS * slotRowsOf mode (setFldOf m Fld.PX_MODE_FMT) skim +
    stagingRowsOf mode (exposuresOf m) (gainsOf m) skim

/-- First bank and number of banks of a set's ring. -/
def ringFirstOf (m : List (Nat × Word)) : Nat := setFldOf m Fld.PX_RING_BANKS_FIRST
def ringCountOf (m : List (Nat × Word)) : Nat := setFldOf m Fld.PX_RING_BANKS_COUNT

/-- Does the ring of a set pass R147 against the configuration in force? -/
def State.ringOk (s : State) (m : List (Nat × Word)) (skim : Bool) : Bool :=
  let slots := setFldOf m Fld.PX_RING_SLOTS_SLOTS
  decide (1 ≤ ringCountOf m) && decide (ringFirstOf m + ringCountOf m ≤ 64) && decide (2 ≤ slots) &&
    decide (slots ≤ 16) && decide (ringRowsOf m skim ≤ 8192 * ringCountOf m) &&
    (List.range (ringCountOf m)).all (fun i =>
      let b := ringFirstOf m + i
      let o := s.spFld (Fld.SP_FAR_OWNER_OWNER b)
      s.bankPowered b && !s.bankNarrow b && !(decide (1 ≤ o) && decide (o ≤ 4)))

/-- The geometry in force. -/
def State.slotRows (s : State) : Nat :=
  slotRowsOf (s.pxFld Fld.PX_MODE_MODE) (s.pxFld Fld.PX_MODE_FMT) s.px.skim
def State.ringFirst (s : State) : Nat := 8192 * s.pxFld Fld.PX_RING_BANKS_FIRST
def State.ringSlots (s : State) : Nat := s.pxFld Fld.PX_RING_SLOTS_SLOTS

/-- Key of row `r` of the ring, counted from its first row. -/
def State.ringKey (s : State) (r : Nat) : Nat := farKey (s.ringFirst + r)

/-- Key of the header row of a slot. -/
def State.slotKey (s : State) (k : Nat) : Nat := s.ringKey (k * s.slotRows)

/-- Is far bank `b` one of the ring's, in force? -/
def State.ringBank (s : State) (b : Nat) : Bool :=
  decide (s.pxFld Fld.PX_RING_BANKS_FIRST ≤ b) &&
    decide (b < s.pxFld Fld.PX_RING_BANKS_FIRST + s.pxFld Fld.PX_RING_BANKS_COUNT)

/-- The hold mask of slot `k` (PX_RING_HOLD, Table 5.12). -/
def State.hold (s : State) (k : Nat) : Nat :=
  bits (s.reg (if k < 8 then Reg.PX_RING_HOLD_LO else Reg.PX_RING_HOLD_HI)) (4 * (k % 8) + 3) (4 * (k % 8))

/-- Set the hold mask of slot `k`. -/
def State.setHold (s : State) (k m : Nat) : State :=
  let a := if k < 8 then Reg.PX_RING_HOLD_LO else Reg.PX_RING_HOLD_HI
  s.setReg a (setBits (s.reg a) (4 * (k % 8) + 3) (4 * (k % 8)) m)

/-- Clear partition `p`'s hold bit on slot `k` (R149). -/
def State.releaseHold (s : State) (p k : Nat) : State := s.setHold k (s.hold k &&& (15 - 2 ^ p))

/-- Is every hold mask zero (R155)? -/
def State.holdsClear (s : State) : Bool :=
  s.reg Reg.PX_RING_HOLD_LO == 0 && s.reg Reg.PX_RING_HOLD_HI == 0

/-! ## The run of the sensor as other blocks see and stop it (R28, R158) -/

/-- Is the sensor stopped (PX_STATUS.STATE 0 or 3)? Budget frames then follow the slots (R28). -/
def State.sensorStopped (s : State) : Bool := s.fld Fld.PX_STATUS_STATE == 0 || s.fld Fld.PX_STATUS_STATE == 3

/-- The sensor stops with RUN as it stands: what is in progress finishes (R158, R500). -/
def State.sensorHalt (s : State) : State :=
  if s.sensorStopped then s
  else s.setFld Fld.PX_STATUS_STATE (if s.px.exposing || !s.px.frames.isEmpty then 2 else 0)

/-- The sensor runs only while the ring geometry in force passes R147 (R158): when the configuration of the scratchpad no
longer lets it pass, the sensor stops, with RUN as it stands (DESIGN CHOICE, log entry 43). -/
def State.ringStillOk (s : State) : State :=
  if s.fld Fld.PX_STATUS_STATE = 1 ∧ !s.ringOk s.px.inForce s.px.skim then s.sensorHalt else s

end Sys2Proof.Machine
end

