-- ==== Sys2Proof/Machine/Serve.lean ====
section
/-! DEFINITION. What a task's end, a tile fault and a voided frame do, shared by the tile ops, the
sequencer and the cores (R37, R178, R188, R198, R304 to R309, R329). -/

namespace Sys2Proof.Machine

/-! ## The sequencer's view of a partition -/

/-- DIV of a partition, used as at least 1 (R303). -/
def State.svDiv (s : State) (p : Nat) : Nat := max 1 (s.fld (Fld.SV_CFG_DIV p))
def State.svDeadline (s : State) (p : Nat) : Nat := s.fld (Fld.SV_DEADLINE_US p)
def State.svEnabled (s : State) (p : Nat) : Bool := tstBit (s.reg Reg.SV_CTRL) p

/-- Partition states of SV_STATUS (Table 10.8). -/
def svOff : Nat := 0
def svRunning : Nat := 1
def svStopped : Nat := 2
def svSuspended : Nat := 3

/-- Byte `o` of tile `t`'s frame-task descriptor (SV_DESCt, Table 6.5). -/
def State.descByte (s : State) (t o : Nat) : Nat := bits (s.reg (Reg.SV_DESC t (o / 4))) (8 * (o % 4) + 7) (8 * (o % 4))

/-- The bytes of tile `t`'s frame-task descriptor. -/
def State.descBytes (s : State) (t : Nat) : List Byte :=
  (List.range 48).map (fun o => BitVec.ofNat 8 (s.descByte t o))

/-- The absolute far row where a partition's window starts: PART_BASE of its lowest-numbered VALID relocation set that
has a partition window (R302, R470; DEDUCED, log entry 20). -/
def State.partBase (s : State) (p : Nat) : Nat :=
  match (List.range 32).find? (fun n => s.spFld (Fld.SP_RS_CTRL_VALID n) == 1 && s.spFld (Fld.SP_RS_CTRL_PART n) == p &&
      s.spFld (Fld.SP_RS_PART_SIZE_ROWS n) != 0) with
  | none => 0
  | some n => s.spFld (Fld.SP_RS_PART_BASE_ROW n)

/-- Key of row `r` of a partition's window. -/
def State.partKey (s : State) (p r : Nat) : Nat := farKey (s.partBase p + r)

/-- First of the 16 candidate rows of a loaded partition (R375). -/
def State.candKey (s : State) (p : Nat) (k : Package) : Nat := s.partKey p (k.servRow + k.servRows - 16)

/-- The candidate slots up to the first with VALID = 0 (R375). -/
def takeValid : Nat → List Byte → List (List Byte)
  | 0, _ => []
  | n + 1, bs => if le bs 3 1 = 0 then [] else bs.take 64 :: takeValid n (bs.drop 64)

/-- The partition's candidate slots as they stand in its rows. -/
def State.candidates (s : State) (p : Nat) : List (List Byte) :=
  match (s.partition p).pkg with
  | none => []
  | some k => takeValid 128 (s.bytes (512 * s.candKey p k) 8192)

/-- The two counts of a partition's count row (R375). -/
def State.countRow (s : State) (p : Nat) : Nat × Nat :=
  match (s.partition p).pkg with
  | none => (0, 0)
  | some k =>
    let bs := s.bytes (512 * (s.candKey p k - 1)) 4
    (le bs 0 2, le bs 2 2)

/-- A sum that saturates at 0xFFFF. -/
def satAdd16 (a b : Nat) : Nat := min (a + b) 0xFFFF

/-- Change a partition's gate counts. -/
def State.addCounts (s : State) (p dropped discarded admits : Nat) : State :=
  let c := vget {} s.eg.counts p
  let c : GateCounts := ⟨satAdd16 c.dropped dropped, satAdd16 c.discarded discarded, satAdd16 c.admits admits⟩
  { s with eg := { s.eg with counts := vput s.eg.counts p c } }

/-- The key of the limit of an SV code of partition `p`. -/
def svKey (code p : Nat) : Nat := 0x20000000 + code + 0x10000 * p

/-- May the code of a limit be raised: never raised yet, or a second ago? -/
def State.limitOver (s : State) (x : LogSlot) : Bool :=
  match x.last with
  | none => true
  | some t => decide (oneSecond ≤ (s.localNs - t).toNat)

/-- Raise an SV code that depends on frame timing: at most once per second per partition; SV_VOID is held back until the
second is over, as R37 holds fault reports (R336, Table 10.6). -/
def State.raiseSvLimited (s : State) (code p : Nat) : State :=
  let slot := Sparse.get LogSlot.unused s.logSlots (svKey code p)
  if s.limitOver slot then
    { s with logSlots := Sparse.put LogSlot.unused (svKey code p) ⟨some s.localNs, 0⟩ s.logSlots }.raiseSv code p
  else if code = 0x0604 then
    { s with logSlots := Sparse.put LogSlot.unused (svKey code p) { slot with held := slot.held + 1 } s.logSlots }
  else s

/-- SV_VOID of the voids held back, once their second is over. -/
def State.voidsDue (s : State) (p : Nat) : State :=
  let slot := Sparse.get LogSlot.unused s.logSlots (svKey 0x0604 p)
  if slot.held = 0 then s else if s.limitOver slot then s.raiseSvLimited 0x0604 p else s

/-! ## Task ends -/

/-- Is a task on the tile, running or halted? -/
def Tile.busy (x : Tile) : Bool := x.run == .running || x.run == .halted

/-- Writes that tile `t`'s ended task issued and that have not landed (R178, R194). -/
def State.tileLanding (s : State) (t : Nat) : Bool := s.inFlight.any (fun w => w.tile == t && w.ended)

/-- Entries and writes beyond the first 256 wait to enter the request table; as room comes they enter, reads first
(R224; the order among ops that wait is open, log entry 17). -/
def admitReqs : Nat → List SpillReq → List SpillReq
  | _, [] => []
  | n, r :: rs => if r.waiting && decide (0 < n) then { r with waiting := false } :: admitReqs (n - 1) rs else r :: admitReqs n rs
def admitWrites : Nat → List SpillWrite → List SpillWrite
  | _, [] => []
  | n, w :: ws => if w.waiting && decide (0 < n) then { w with waiting := false } :: admitWrites (n - 1) ws else w :: admitWrites n ws

/-- Entries of the spill request table in use (R224, R225). -/
def State.spillPending (s : State) : Nat :=
  (s.sp.requests.filter (fun r => !r.waiting)).length + (s.sp.writes.filter (fun w => !w.waiting)).length

/-- Let waiting entries into the request table. -/
def State.spillAdmit (s : State) : State :=
  let s := { s with sp := { s.sp with requests := admitReqs (256 - s.spillPending) s.sp.requests } }
  { s with sp := { s.sp with writes := admitWrites (256 - s.spillPending) s.sp.writes } }

/-- The task-end scrub of tile `t` starts once the task's issued writes have landed: its spill reads are dropped then
(R178, R234). -/
def State.scrubStart (s : State) (t : Nat) : State :=
  if (s.tile t).run == .scrubbing && !s.tileLanding t then
    { s with sp := { s.sp with requests := s.sp.requests.filter (fun r => r.tile != t) } }.spillAdmit
  else s

/-- End the task on tile `t` (R178): the tile stops issuing and its scrub begins once its writes have landed; an untagged
task's flags reach SV_NUMFLAGS (R244); a task of a core that carries no tag pends TASK_END (Table 9.10); the
partition's frame no longer waits for the tile. -/
def State.endTask (s : State) (t : Nat) : State :=
  let x := s.tile t
  if x.busy then
    let p := x.task.part
    let s := s.setTile t { x with run := .scrubbing, statusHeld := x.tag, bundle := none }
    let s := { s with
      inFlight := s.inFlight.map (fun (w : RowWrite) => if w.tile = t then { w with ended := true } else w) }.scrubStart t
    let s := if x.tag then s else
      s.setReg (Reg.SV_NUMFLAGS p) (s.reg (Reg.SV_NUMFLAGS p) ||| word (flagBits x.flags))
    let s := if x.task.byCore && !x.tag then s.pend 4 else s
    let ps := s.partition p
    match ps.frame with
    | none => s
    | some f => s.setPart p { ps with frame := some { f with tiles := f.tiles.filter (· != t) } }
  else s

/-- End the tasks of several tiles. -/
def State.endTasks (s : State) (ts : List Nat) : State := ts.foldl (fun s t => s.endTask t) s

/-! ## Fault reports (R37, R198) -/

/-- Publish a fault report that stands for `n` faults, with `c` in COALESCED. Each report of a TF code, and each of a tagged
task, writes a Snag Log entry; an SP code of an untagged task has its own block's (R37, Table 18.1, R548). -/
def State.publishFault (s : State) (r : FaultRec) (c n : Nat) : State :=
  let hide := r.tagged && s.inService
  let pc := if hide then 0 else r.pc
  let addr := if hide then 0 else r.addr
  let s := ((s.setReg Reg.TF_FAULT_CODE (word (r.code + 0x10000 * r.tile + 0x100000 * r.part + 0x1000000 * c))).setReg
    Reg.TF_FAULT_PC (word pc)).setReg Reg.TF_FAULT_ADDR (word addr)
  let s := if r.code / 256 = 3 then
      s.setReg Reg.TF_FAULT_STATUS (setBits (s.reg Reg.TF_FAULT_STATUS) (r.code % 256 - 1) (r.code % 256 - 1) 1)
    else s
  let s := (s.incSat Fld.TF_FAULT_CNT_COUNT n).pend 5
  if r.code / 256 = 3 ∨ r.tagged then s.queueSnag (s.mkSnag 1 (srcCode (.tile r.tile)) r.code n (word addr)) else s

/-- Report a fault: at once when no interval of the partition runs, else counted in it (R37). -/
def State.reportFault (s : State) (r : FaultRec) : State :=
  let i := vget {} s.ds.faults r.part
  if i.running then
    { s with ds := { s.ds with faults := vput s.ds.faults r.part { i with count := i.count + 1, last := r } } }
  else
    ({ s with ds := { s.ds with faults := vput s.ds.faults r.part { running := true, count := 0, last := r } } }).publishFault
      r 0 1

/-- FAULT_INTERVAL_END: the interval ends and a further report is published when faults were counted. -/
def State.faultIntervalEnd (s : State) (p : Nat) : State :=
  let i := vget {} s.ds.faults p
  let s := { s with ds := { s.ds with faults := vput s.ds.faults p {} } }
  if i.running && decide (0 < i.count) then s.publishFault i.last (min i.count 255) (min i.count 255) else s

/-! ## Voided frames (R307, R309, R329) -/

/-- Microseconds from now to the deadline instant of a frame; negative when it has passed (R305). -/
def State.marginOf (s : State) (p : Nat) (f : OpenFrame) : Int :=
  Int.fdiv ((s.svDeadline p * 1000 : Nat) - ((s.localNs - f.startLocal).toNat : Int)) 1000

/-- The supervisor takes a frame's margin (R189). -/
def State.takeMargin (s : State) (m : Int) : State :=
  let m' := match s.sup.margin with
    | none => m
    | some x => min x m
  { s with sup := { s.sup with margin := some m' } }

/-- Release the partition's hold on the slot of a frame: at once when the deadline instant has passed,
else at the deadline instant (R305). -/
def State.releaseSlot (s : State) (p : Nat) (slot : Option Nat) (late : Bool) : State :=
  match slot with
  | none => s
  | some k =>
    if late then s.releaseHold p k
    else s.setPart p { s.partition p with releases := (s.partition p).releases ++ [k] }

/-- A partition that is to be suspended is, at its epoch boundary. -/
def State.suspendNow (s : State) (p : Nat) : State :=
  let ps := s.partition p
  if ps.toSuspend && ps.frame.isNone then
    (s.setPart p { ps with toSuspend := false, gap := true }).setFld (Fld.SV_STATUS_STATE p) svSuspended
  else s

/-- Void the open frame of a partition: its remaining tasks end, its candidates are discarded and
counted, the kernel commits nothing, and the next frame carries GAP. -/
def State.voidFrame (s : State) (p : Nat) (byFault : Bool) : State :=
  match (s.partition p).frame with
  | none => s
  | some f =>
    let s := s.endTasks f.tiles
    let s := s.takeMargin (s.marginOf p f)
    let s := s.addCounts p 0 (if f.begun then (s.candidates p).length else 0) 0
    let ps := s.partition p
    let s := s.setPart p { ps with
      frame := none, gap := true
      voids := if byFault then ps.voids + 1 else 0
      overruns := if byFault then ps.overruns else ps.overruns + 1
      kernel := { ps.kernel with
        work := [], workQueue := [], items := [], events := [], expired := 0
        frames := if f.begun then ps.kernel.frames else ps.kernel.frames + 1
        overran := !byFault || ps.kernel.overran } }
    let s := ((s.releaseSlot p f.slot f.late).raiseSvLimited 0x0604 p).suspendNow p
    if byFault && decide (s.fld (Fld.SV_CFG_FAULT_LIMIT p) ≤ ps.voids + 1) then
      (s.setFld (Fld.SV_STATUS_STATE p) svStopped).raiseSv 0x0605 p
    else s

/-- A tile fault in bundle `pc` (R198): its report goes out under R37, the task ends, and a frame task's fault voids the
partition's frame (R329). -/
def State.tileFaultAt (s : State) (t pc code addr : Nat) : State :=
  let x := s.tile t
  let s := s.reportFault { code := code, tile := t, part := x.task.part, pc := pc, addr := addr, tagged := x.tag }
  let inFrame := match (s.partition x.task.part).frame with
    | none => false
    | some f => f.tiles.contains t
  let s := s.endTask t
  if x.busy && inFrame then s.voidFrame x.task.part true else s

/-- A tile fault in the running bundle. -/
def State.tileFault (s : State) (t code addr : Nat) : State := s.tileFaultAt t (s.tile t).pc code addr

/-- A debug halt that waited takes hold between bundles (R257): the tile halts, or, where its task tag is set, its task
ends and the halt completes with the scrub (R36). -/
def State.holdTile (s : State) (t : Nat) : State :=
  let x := s.tile t
  if x.haltAfter && x.run == .running then
    if x.tag then (s.endTask t).raiseDs 0x0108 .debug 0
    else s.setTile t { x with run := .halted, haltAfter := false }
  else s

/-! ## Arrival counters (R174, R188) -/

/-- Add `n` to counter `k` of tile `t`; a tagged writer sets the counter tag (R18); a saturated counter
discards it; a counter that would pass 0xFFFF saturates and raises TF_ARRIVAL_OVF, which ends the owner's
running task or, with none, is recorded (R188). -/
def State.incCounter (s : State) (t k n : Nat) (tag : Bool) : State :=
  let c := s.counter t k
  if c.saturated then s
  else if c.value + n ≤ 0xFFFF then
    s.setCounter t k { c with value := c.value + n, tag := c.tag || tag }
  else
    let s := s.setCounter t k { value := 0xFFFF, tag := c.tag || tag, saturated := true }
    if (s.tile t).busy then s.tileFault t 0x0305 0
    else s.reportFault { code := 0x0305, tile := t, part := s.tilePart t - 1, pc := 0, addr := 0, tagged := tag }

end Sys2Proof.Machine
end

