-- ==== Sys2Proof/Machine/Records.lean ====
section
/-! DEFINITION. Records: the check of a candidate against its schema, pseudonyms, the bit budget and its
admission rule, the record queue (R21 to R31, R368 to R380). -/

namespace Sys2Proof.Machine

/-! ## Candidate checks (R21, R371, R372, Tables 12.2, 12.3 and 12.5) -/

/-- Payload word `w` of a candidate slot. -/
def payload (c : List Byte) (w : Nat) : Nat := le c (8 + 4 * w) 4

/-- Bits [hi:lo] of payload word `w`. -/
def pBits (c : List Byte) (w hi lo : Nat) : Nat := payload c w / 2 ^ lo % 2 ^ (hi - lo + 1)

/-- The schema identifier, priority and stream of a candidate slot; HEALTH reads priority 0. -/
def candSchema (c : List Byte) : Nat := le c 0 2
def candPrio (c : List Byte) : Nat := if candSchema c = 0x0701 then 0 else le c 2 1
def candStream (c : List Byte) : Nat := le c 4 2

/-- Payload words of the schema (Table 12.2); 0 for an unknown one. -/
def payloadWords (c : List Byte) : Nat :=
  match candSchema c with
  | 0x0101 => 1
  | 0x0201 => 1
  | 0x0301 => 3
  | 0x0401 => 2
  | 0x0501 => 1 + (3 * pBits c 0 4 0 + 3) / 4
  | 0x0502 => 3 + ((pBits c 0 3 0 + 1) * (pBits c 0 7 4 + 1) + 31) / 32
  | 0x0601 => 2
  | 0x0701 => 2
  | _ => 0

/-- Does the candidate name a stream (R372)? -/
def needsStream (c : List Byte) : Bool :=
  match candSchema c with
  | 0x0301 => true
  | 0x0401 => pBits c 0 22 22 == 1
  | 0x0601 => true
  | _ => false

/-- A rectangle's corners in words `w` and `w + 1`: X0 ≤ X1 and Y0 ≤ Y1. -/
def rectOk (c : List Byte) (w : Nat) : Bool :=
  decide (pBits c w 11 0 ≤ pBits c (w + 1) 11 0) && decide (pBits c w 23 12 ≤ pBits c (w + 1) 23 12)

/-- The range and reserved-bit checks of a payload (Table 12.3), with `labels` = LABEL_COUNT. -/
def payloadOk (c : List Byte) (labels : Nat) : Bool :=
  match candSchema c with
  | 0x0101 => pBits c 0 7 6 != 3 && pBits c 0 31 16 == 0
  | 0x0201 => pBits c 0 7 6 == 0 && pBits c 0 31 28 == 0 && decide (pBits c 0 15 8 < labels)
  | 0x0301 => rectOk c 0 && decide (pBits c 0 31 24 < labels) && payload c 2 == 0
  | 0x0401 => decide (pBits c 0 7 0 < labels) && pBits c 0 31 23 == 0 && payload c 1 == 0
  | 0x0501 =>
    let n := pBits c 0 4 0
    decide (3 ≤ n) && decide (n ≤ 16) && pBits c 0 7 5 == 0 && pBits c 0 31 22 == 0 &&
      decide (pBits c 0 15 8 < labels) && allZero c (12 + 3 * n) (4 * (payloadWords c - 1) - 3 * n)
  | 0x0502 =>
    let cells := (pBits c 0 3 0 + 1) * (pBits c 0 7 4 + 1)
    pBits c 0 31 22 == 0 && decide (pBits c 0 15 8 < labels) && rectOk c 1 && pBits c 1 31 24 == 0 &&
      pBits c 2 31 24 == 0 && le c 20 32 / 2 ^ cells == 0
  | 0x0601 => decide (pBits c 0 2 0 ≤ 3) && pBits c 0 7 3 == 0 && pBits c 0 15 10 == 0 &&
      pBits c 0 31 24 == 0 && decide (pBits c 0 23 16 < labels) && payload c 1 == 0
  | 0x0701 => pBits c 0 7 4 == 0 && pBits c 0 15 8 == 0 && payload c 1 == 0 &&
      (pBits c 0 3 0 == 5 || (pBits c 0 3 0 == 2 && pBits c 0 31 16 == 0))
  | _ => false

/-- The code a candidate fails with, or none (R21): DS_SCHEMA, then DS_FIELD. -/
def State.candCode (s : State) (k : Package) (c : List Byte) : Option Nat :=
  let ty := candSchema c / 256
  if !k.schemas.contains (candSchema c) || (decide (1 ≤ ty) && decide (ty ≤ 6) &&
      tstBit (s.reg Reg.DS_FUSE_POLICY) (15 + ty)) then some 0x0105
  else
    let streamOk := if needsStream c then decide (candStream c < k.maxStreams) && s.fuses.pseudo.isSome
      else candStream c == 0xFFFF
    if le c 3 1 = 1 ∧ le c 2 1 ≤ 3 ∧ le c 6 2 = 0 ∧ payloadOk c k.labelCount ∧ streamOk ∧
        allZero c (8 + 4 * payloadWords c) (56 - 4 * payloadWords c) then none
    else some 0x0106

/-! ## Pseudonyms (R374) -/

/-- The admission count of stream `st` of partition `p`. -/
def State.admission (s : State) (p st : Nat) : Nat := Sparse.get (fun _ => 0) s.eg.admissions (256 * p + st)

/-- The pseudonym before collisions: the first 4 bytes of SHA-256(K ‖ E ‖ p ‖ s ‖ a), 0 becoming 1. -/
def State.pseudoBase (s : State) (epoch p st : Nat) : Nat :=
  let k := match s.fuses.pseudo with
    | none => 0
    | some k => k.toNat
  let h := (Config.sha256 (toLe 32 k ++ toLe 8 epoch ++ toLe 1 p ++ toLe 2 st ++ toLe 4 (s.admission p st))).toNat % 2 ^ 32
  if h = 0 then 1 else h

/-- The next value from `v` on, skipping 0, that is not taken, with fuel. -/
def freeFrom (taken : List Nat) : Nat → Nat → Nat
  | 0, v => v
  | fuel + 1, v =>
    let v := if v % 2 ^ 32 = 0 then 1 else v % 2 ^ 32
    if taken.contains v then freeFrom taken fuel (v + 1) else v

/-- The pseudonyms of the live streams of a partition, oldest admission first, up to stream `st`. -/
def State.pseudonym (s : State) (epoch p st : Nat) : Nat :=
  let order := ((s.eg.liveStreams.filter (fun x => x / 256 == p)).map (· % 256)).takeWhile (· != st)
  let taken := order.foldl (fun taken x => freeFrom taken 257 (s.pseudoBase epoch p x) :: taken) []
  freeFrom taken 257 (s.pseudoBase epoch p st)

/-! ## The bit budget (R26 to R31, R377) -/

/-- Bits in the window: the current slot and the previous 99 (R30). -/
def State.windowUsed (s : State) : Nat := s.eg.slots.sum

/-- Does a charge of `n` bits fit (R30)? -/
def State.fits (s : State) (n : Nat) : Bool :=
  decide (s.ds.frameUsed + n ≤ s.ds.capFrame) && decide (s.windowUsed + n ≤ 10 * s.ds.capRate)

/-- Add to the head of a list of counts. -/
def addHead (n : Nat) : List Nat → List Nat
  | [] => []
  | x :: xs => (x + n) :: xs

/-- Admit a charge: it is added to the current slot and to the running budget frame (R30). -/
def State.charge (s : State) (n : Nat) : State :=
  { s with
    ds := { s.ds with frameUsed := s.ds.frameUsed + n }
    eg := { s.eg with slots := addHead n s.eg.slots } }

/-- A partition's share, used at the nearer end of 1 to 64. -/
def State.share (s : State) (p : Nat) : Nat := clampNat 1 64 (s.fld (Fld.EG_SHARE_SHARE p))

/-- Does a candidate of `n` bits keep to its partition's share (R377)? -/
def State.fitsShare (s : State) (p n : Nat) : Bool :=
  decide (64 * (s.eg.partFrame.getD p 0 + n) ≤ s.share p * s.ds.capFrame) &&
    decide (64 * ((s.eg.partSlots.getD p []).sum + n) ≤ s.share p * 10 * s.ds.capRate)

/-- Charge a candidate to its partition too. -/
def State.chargePart (s : State) (p n : Nat) : State :=
  let s := s.charge n
  { s with eg := { s.eg with
      partFrame := s.eg.partFrame.modify p (· + n)
      partSlots := s.eg.partSlots.modify p (addHead n) } }

/-! ## Gate-generated records (R379, Table 12.4) -/

/-- Merge counts into the first waiting record that matches. -/
def mergeRec (same : GateRec → Bool) (f : GateRec → GateRec) : List GateRec → List GateRec
  | [] => []
  | r :: rs => if same r then f r :: rs else r :: mergeRec same f rs

/-- A new gate-generated record: at most 16 wait; an event that finds 16 waiting is merged into a waiting
record of its own kind, its count added for a kind that counts, or otherwise lost. -/
def State.gateRec (s : State) (r : GateRec) : State :=
  if s.eg.gateRecs.length < 16 then { s with eg := { s.eg with gateRecs := s.eg.gateRecs ++ [r] } }
  else
    let merge := fun (x : GateRec) => if r.kind = 7 then { x with a := satAdd16 x.a r.a } else x
    { s with eg := { s.eg with gateRecs := mergeRec (fun x => x.kind == r.kind) merge s.eg.gateRecs } }

/-- The OUTPUT record of channel `n` (Table 12.4, KIND 6). -/
def State.outputRec (s : State) (n a : Nat) : State := s.gateRec ⟨6, n, a, 0, 0, false⟩

/-- Generate or merge the GATE_COUNTS record of a partition at a release (R379). -/
def State.gateCounts (s : State) (p : Nat) : State :=
  let c := vget {} s.eg.counts p
  let mine := fun (r : GateRec) => r.kind == 1 && r.part == p
  let clear := fun (s : State) => { s with eg := { s.eg with counts := vput s.eg.counts p {} } }
  if c = {} then s
  else if s.eg.gateRecs.any mine then
    clear { s with eg := { s.eg with gateRecs := mergeRec mine (fun x =>
      { x with a := satAdd16 x.a c.dropped,
               b := satAdd16 (x.b % 65536) c.discarded + 65536 * satAdd16 (x.b / 65536) c.admits }) s.eg.gateRecs } }
  else if s.eg.countsSent.getD p false then s
  else
    let s := clear (s.gateRec ⟨1, p, c.dropped, c.discarded + 65536 * c.admits, p, false⟩)
    { s with eg := { s.eg with countsSent := s.eg.countsSent.set p true } }

/-! ## Release and the queue (R368 to R370, R380) -/

/-- Bytes in the record queue. -/
def queueBytes (q : List (List Word)) : Nat := 4 * (q.map List.length).sum

/-- Drop the oldest records until `n` more bytes fit in 64 KiB. -/
def trimQueue (n : Nat) : List (List Word) → List (List Word)
  | [] => []
  | r :: rs => if queueBytes (r :: rs) + n ≤ 65536 then r :: rs else trimQueue n rs

/-- Is a record cursor enabled (R419)? -/
def State.cursorOn (s : State) : Bool := s.flag Fld.LK_CFG_RECORDS || s.flag Fld.HP_CFG_RECORDS

/-- Put a released record in the queue; the oldest ones make room, are counted, raise EG_QUEUE_LOST and
give a QUEUE_LOSS record (R380); with no cursor enabled it is discarded at once (R419). -/
def State.enqueue (s : State) (r : List Word) : State :=
  if !s.cursorOn then { s with eg := { s.eg with taken := s.eg.taken + 1 } } else
  let q := trimQueue (4 * r.length) s.eg.queue
  let lost := s.eg.queue.length - q.length
  let s := { s with eg := { s.eg with queue := q ++ [r], taken := s.eg.taken + lost } }
  if lost = 0 then s
  else ((s.incSat Fld.EG_QUEUE_LOST_COUNT lost).raiseEg 0x0802 0).gateRec ⟨7, 0, min lost 0xFFFF, 0, 0, false⟩

/-- Release a record: header, timestamp, SEQ and payload (R368 to R370). SEQ advances at the first record
of a release period. -/
def State.release (s : State) (ty var part : Nat) (ts : BitVec 64) (words : List Word) : State :=
  let s := if s.eg.periodOpen then s
    else { s.incWrap Fld.EG_SEQ_SEQ 1 with eg := { s.eg with periodOpen := true, index := 0 } }
  let len := 4 + words.length
  let header := word (ty + 8 * var + 32 * part + 128 * len + 8192 * (s.eg.index % 4096) + 0x10000000)
  let r := [header, ts.extractLsb' 0 32, ts.extractLsb' 32 32, s.reg Reg.EG_SEQ] ++ words
  ({ s with eg := { s.eg with index := s.eg.index + 1 } }).enqueue r

/-- May the gate release: in service, and in Run rather than in recovery Run or Safe Halt (Table 1.3, R105)? -/
def State.gateOpen (s : State) : Bool := s.inService && s.fld Fld.SYS_BOOT_STATUS_PHASE == 1

/-- Consider one waiting gate record: it is released if it fits, else it waits for the next budget frame. -/
def State.offerRec (s : State) (r : GateRec) : State :=
  if r.tried then { s with eg := { s.eg with gateRecs := s.eg.gateRecs ++ [r] } }
  else if s.gateOpen && s.fits 192 then
    (s.charge 192).release 7 0 r.part s.eg.frameStart [word (r.kind + 256 * r.sub + 65536 * r.a), word r.b]
  else { s with eg := { s.eg with gateRecs := s.eg.gateRecs ++ [{ r with tried := true }] } }

/-- Consider the waiting gate records, oldest first (R377). -/
def State.offerRecs (s : State) : State :=
  let rs := s.eg.gateRecs
  rs.foldl (fun s r => s.offerRec r) { s with eg := { s.eg with gateRecs := [] } }

/-! ## A release at a deadline instant (R24, R376 to R378) -/

/-- The payload words of a candidate as the gate fills them (R22): the pseudonym, and SV_OVERRUN. -/
def State.filled (s : State) (p : Nat) (ts : BitVec 64) (c : List Byte) : List Word :=
  let ws := (List.range (payloadWords c)).map (fun w => word (payload c w))
  let epoch := ts.toNat / 86400000000000
  match candSchema c with
  | 0x0301 => ws.set 2 (word (s.pseudonym epoch p (candStream c)))
  | 0x0401 => if needsStream c then ws.set 1 (word (s.pseudonym epoch p (candStream c))) else ws
  | 0x0601 => ws.set 1 (word (s.pseudonym epoch p (candStream c)))
  | 0x0701 =>
    if pBits c 0 3 0 = 2 then ws.modify 0 (fun w => w ||| word (65536 * s.fld (Fld.SV_OVERRUN_COUNT p))) else ws
  | _ => ws

/-- Check the candidates of a copy: the legal ones in slot order; each other raises its code with the
candidate row's far address and is counted (R21, R50). -/
def State.checkCands (s : State) (p : Nat) (k : Package) : Nat → List (List Byte) → List (List Byte) × State
  | _, [] => ([], s)
  | i, c :: cs =>
    match s.candCode k c with
    | none =>
      let r := s.checkCands p k (i + 1) cs
      (c :: r.1, r.2)
    | some code =>
      let s := (s.raiseDs code .gate (512 * (s.candKey p k + i / 8))).addCounts p 0 1 0
      s.checkCands p k (i + 1) cs

/-- Admit candidates in order; the first one refused is dropped with all that follow (R378). -/
def State.admitRecs (s : State) (p : Nat) (ts : BitVec 64) : List (List Byte) → State
  | [] => s
  | c :: cs =>
    let n := 32 * (4 + payloadWords c)
    if s.gateOpen && s.fits n && s.fitsShare p n then
      ((s.chargePart p n).release (candSchema c / 256) (candSchema c % 256 - 1) p ts (s.filled p ts c)).admitRecs p ts cs
    else s.addCounts p (cs.length + 1) 0 0

/-- Candidates by priority, slot order within a priority (R377). -/
def byPrio (cs : List (List Byte)) : List (List Byte) :=
  (List.range 4).flatMap (fun q => cs.filter (fun c => candPrio c == q))

end Sys2Proof.Machine
end

