-- ==== Sys2Proof/Machine/Wake.lean ====
section
/-! DEFINITION. Wake requests (R504, R514, Table 16.6). -/

namespace Sys2Proof.Machine

/-- PW_STATE.STATE (Table 16.12): 0 Run, 1 Trim, 2 Skim, 3 Doze, 4 Off hold. -/
def State.power (s : State) : Nat := s.fld Fld.PW_STATE_STATE

/-- The state whose wake sources count: during an entry already the state being entered (R514). -/
def State.wakeMode (s : State) : Nat := if s.pw.entering then s.fld Fld.PW_STATE_TARGET else s.power

/-- Is a wake source enabled in the present state (Table 16.6)? The sources are the bits of PW_WAKE_CAUSE;
`n` is the field input of source 6. -/
def State.wakeEnabled (s : State) (src n : Nat) : Bool :=
  let skim := s.wakeMode == 2
  let doze := s.wakeMode == 3
  match src with
  | 0 => (skim || doze) && s.flag Fld.LK_WAKE_CFG_PATTERN
  | 1 => doze && s.flag Fld.LK_WAKE_CFG_ENERGY
  | 2 => skim || doze
  | 3 => skim
  | 4 => skim
  | 5 => (skim || doze) && s.flag Fld.PW_WAKE_EN_ALARM
  | 6 => (skim || doze) && s.flag (if n = 0 then Fld.PW_WAKE_EN_IN0 else Fld.PW_WAKE_EN_IN1)
  | 7 => skim && s.flag Fld.PW_SKIM_WAKE_EN
  | _ => false

/-- Raise a wake request from a source: its bit of PW_WAKE_CAUSE is set and the request is held; one that comes while an exit
is in progress merges into it (R504). -/
def State.wakeFrom (s : State) (src n : Nat) : State :=
  if s.wakeEnabled src n then
    let exiting := s.flag Fld.PW_STATE_BUSY && !s.pw.entering
    { s.setReg Reg.PW_WAKE_CAUSE (setBits (s.reg Reg.PW_WAKE_CAUSE) src src 1) with
      pw := { s.pw with wake := s.pw.wake || !exiting } }
  else s

end Sys2Proof.Machine
end

