-- ==== Sys2Proof/Machine/Egress.lean ====
section
/-! DEFINITION. The field outputs and inputs, budget frames and slots, and the gate's release at a deadline
instant (chapter 12, R27 to R30, R63 to R68, R376 to R394). -/

namespace Sys2Proof.Machine

/-! ## Output switches (R29, R383, R389, R390) -/

/-- Output channel `n`. -/
def State.out (s : State) (n : Nat) : OutChan := vget {} s.eg.outs n

/-- Set output channel `n`. -/
def State.setOut (s : State) (n : Nat) (c : OutChan) : State := { s with eg := { s.eg with outs := vput s.eg.outs n c } }

/-- Does the switch conduct (EG_OUT_STATUS.ON)? -/
def State.outOn (s : State) (n : Nat) : Bool := s.flag (Fld.EG_OUT_STATUS_ON n)

/-- Is the channel latched? -/
def State.latched (s : State) (n : Nat) : Bool := s.flag (Fld.EG_FAULT_LATCHED n)

/-- The level of an output state: occupied in OCCUPIED and RELEASING (R383). -/
def outLevel : OutState → Bool
  | .occupied => true
  | .releasing => true
  | _ => false

/-- The switch state a level commands: with POL = 0, vacant turns the switch on; with POL = 1, occupied. -/
def switchFor (pol level : Bool) : Bool := pol == level

/-- POL, MODE, PART, ZONE and IN_SEL of the configuration a channel uses. -/
def chanPol (c : OutChan) : Bool := tstBit c.cfg 2
def chanMode (c : OutChan) : Nat := bits c.cfg 1 0

/-- The switch state the channel's level commands. -/
def OutChan.target (c : OutChan) : Bool := switchFor (chanPol c) (outLevel c.state)

/-- Make a switch change: EG_OUT_STATUS shows it. -/
def State.makeSwitch (s : State) (n : Nat) (on : Bool) : State :=
  let c := s.out n
  (s.setFlag (Fld.EG_OUT_STATUS_ON n) on).setFlag (Fld.EG_OUT_STATUS_LEVEL n) (chanPol c == on)

/-- May the output switches be commanded: from step 17 on, in Run but not in recovery Run, Safe Halt or the Off hold (R66,
R104, R105, R107)? -/
def State.outsLive (s : State) : Bool := s.fld Fld.SYS_BOOT_STATUS_PHASE == 1 && s.power != 4

/-- Command channel `n`'s switch to match its level, where the outputs may be commanded at all. A transition of a MODE 1
channel is charged 32 bits and waits when it does not fit (R29); one that reverses a waiting transition cancels it (R389). A
latched channel stays off, and a retry ends when the level commands the switch off (R390). -/
def State.commandOut (s : State) (n : Nat) : State :=
  let c := s.out n
  let on := c.target
  if !s.outsLive then s
  else if s.latched n then
    if c.retrying && !on then (s.setOut n { c with retrying := false }).setFlag (Fld.EG_OUT_STATUS_ON n) false else s
  else match c.waiting with
    | some w => if w = on then s else s.setOut n { c with waiting := none }
    | none =>
      if s.outOn n = on then s.setFlag (Fld.EG_OUT_STATUS_LEVEL n) (outLevel c.state)
      else if chanMode c = 1 then
        if s.fits 32 then (s.charge 32).makeSwitch n on else s.setOut n { c with waiting := some on }
      else s.makeSwitch n on

/-- A waiting transition is considered again in a new budget frame (R29). -/
def State.offerOut (s : State) (n : Nat) : State :=
  let c := s.out n
  match c.waiting with
  | none => s
  | some on => if s.outsLive && s.fits 32 then ((s.setOut n { c with waiting := none }).charge 32).makeSwitch n on else s

/-! ## Decisions (R381, R382, Table 12.6) -/

/-- The state machine at an occupied or vacant decision; a timer started with 0 expires at once. -/
def OutChan.decide (c : OutChan) (occ : Bool) (holdMs vacMs : Nat) : OutChan :=
  match c.state, occ with
  | .vacant, true =>
    if holdMs = 0 then { c with state := .occupied, timer := none } else { c with state := .arming, timer := some holdMs }
  | .arming, false => { c with state := .vacant, timer := none }
  | .occupied, false =>
    if vacMs = 0 then { c with state := .vacant, timer := none } else { c with state := .releasing, timer := some vacMs }
  | .releasing, true => { c with state := .occupied, timer := none }
  | _, _ => c

/-- A decision of channel `n`: the configuration written since takes effect (R392), the machine moves, and
the switch follows its level. -/
def State.outDecision (s : State) (n : Nat) (occ : Bool) : State :=
  let c := { s.out n with cfg := s.reg (Reg.EG_OUT_CFG n), decided := true }
  let c := c.decide occ (s.fld (Fld.EG_OUT_HOLDOFF_MS n)) (1000 * s.fld (Fld.EG_OUT_VACDELAY_S n))
  (s.setOut n c).commandOut n

/-- Are the output state machines frozen, their timers stopped with them (R505)? -/
def State.outsFrozen (s : State) : Bool := decide (3 ≤ s.power)

/-- HOLDOFF_EXPIRY: ARMING to OCCUPIED. -/
def State.holdoffExpiry (s : State) (n : Nat) : State :=
  let c := s.out n
  if c.state = .arming && !s.outsFrozen then (s.setOut n { c with state := .occupied, timer := none }).commandOut n else s

/-- VACANCY_EXPIRY: RELEASING to VACANT. -/
def State.vacancyExpiry (s : State) (n : Nat) : State :=
  let c := s.out n
  if c.state = .releasing && !s.outsFrozen then (s.setOut n { c with state := .vacant, timer := none }).commandOut n else s

/-- OUT_CMD_WRITE (R381): in MODE 0 the write sets the logical state directly; else it is ignored (R392). -/
def State.outCmd (s : State) (n : Nat) (v : Word) : State :=
  if s.fld (Fld.EG_OUT_CFG_MODE n) = 0 then
    let c := { s.out n with
      cfg := s.reg (Reg.EG_OUT_CFG n), decided := true, timer := none,
      state := if tstBit v 0 then .occupied else .vacant }
    (s.setOut n c).commandOut n
  else s

/-- OUT_STALE (R384): a MODE 1 or 2 channel that made no decision for STALE seconds goes to OCCUPIED. Before step 17 there
is nothing to be stale (R104), and in Doze STALE does not count (R505). -/
def State.outStale (s : State) (n : Nat) : State :=
  let mode := s.fld (Fld.EG_OUT_CFG_MODE n)
  if s.outsLive ∧ !s.outsFrozen ∧ (mode = 1 ∨ mode = 2) ∧ s.fld (Fld.EG_OUT_CFG_STALE n) ≠ 0 then
    let s := (s.setOut n { s.out n with state := .occupied, timer := none }).commandOut n
    (s.raiseEg 0x0804 n).outputRec n 3
  else s

/-- Is a MODE 1 channel's source missing: partition not loaded, or ZONE_STATE not declared (R381)? -/
def State.outCfgBad (s : State) (n : Nat) : Bool :=
  s.fld (Fld.EG_OUT_CFG_MODE n) == 1 &&
    match (s.partition (s.fld (Fld.EG_OUT_CFG_PART n))).pkg with
    | none => true
    | some k => !k.schemas.contains 0x0101

/-- Raise EG_CFG for a channel whose source is missing. -/
def State.checkOutCfg (s : State) (n : Nat) : State := if s.outCfgBad n then s.raiseEg 0x0803 n else s

/-! ## Latches and retries (R64, R385) -/

/-- Latch channel `n` with a cause: 1 thermal shutdown, 2 limit timeout. -/
def State.outLatch (s : State) (n cause : Nat) : State :=
  if s.outOn n then
    let s := (s.setFlag (Fld.EG_FAULT_LATCHED n) true).setFld (Fld.EG_FAULT_CAUSE n) cause
    let s := s.setOut n { s.out n with retrying := false, waiting := none }
    let s := s.setFlag (Fld.EG_OUT_STATUS_ON n) false
    let s := s.incSat (if n = 0 then Fld.EG_FAULT_CNT_CH0 else Fld.EG_FAULT_CNT_CH1) 1
    (s.raiseEg 0x0801 n).outputRec n (cause - 1)
  else s

/-- OUT_RETRY: at a retry instant a latched channel turns on if its level commands the switch on. -/
def State.outRetry (s : State) (n : Nat) : State :=
  let c := s.out n
  if s.outsLive && s.latched n && c.target && c.decided then
    (s.setOut n { c with retrying := true }).setFlag (Fld.EG_OUT_STATUS_ON n) true
  else s

/-- OUT_LATCH_CLEAR: the retry completed one limit timeout; the switch takes the state the level commands. -/
def State.outClear (s : State) (n : Nat) : State :=
  let c := s.out n
  if s.latched n && c.retrying then
    let s := ((s.setFlag (Fld.EG_FAULT_LATCHED n) false).setFld (Fld.EG_FAULT_CAUSE n) 0).setFlag
      (Fld.EG_FAULT_CLEARED n) true
    let s := s.setOut n { c with retrying := false }
    (s.makeSwitch n c.target).outputRec n 2
  else s

/-- Is channel `n` commanded on? A latched channel is kept off whatever its level commands (R64, R385). -/
def State.commandedOn (s : State) (n : Nat) : Bool :=
  if s.latched n then (s.out n).decided && (s.out n).target else s.outOn n

/-- HELD_LOW_SET: a channel commanded off has read back low for 100 µs (R65). -/
def State.heldLow (s : State) (n : Nat) (b : Bool) : State :=
  if b && s.commandedOn n then s else s.setFlag (Fld.EG_OUT_STATUS_HELD_LOW n) b

/-! ## Field inputs (R67, R68, R387) -/

/-- Input `n`. -/
def State.inp (s : State) (n : Nat) : InChan := vget {} s.eg.ins n

/-- Set input `n`. -/
def State.setInp (s : State) (n : Nat) (c : InChan) : State := { s with eg := { s.eg with ins := vput s.eg.ins n c } }

/-- Is VDD_AON present and reset not asserted? In reset an input is not sampled (Table 2.10). -/
def State.outOfReset (s : State) : Bool := s.pins.vddAon && s.boot.step != 0

/-- INPUT_COMPARATOR_RESOLVE: the first reading; a level in the band reads low and is UNRESOLVED (R68). -/
def State.inputResolve (s : State) (n : Nat) (l : InLevel) : State :=
  if !s.outOfReset then s else
  let s := (s.setFlag (Fld.EG_IN_STATUS_RAW n) (l == .high)).setFlag (Fld.EG_IN_STATUS_UNRESOLVED n) (l == .band)
  s.setInp n { s.inp n with resolved := true, run := 0 }

/-- The decision of every MODE 2 channel that names input `n`; in Doze the machines are frozen (R505). -/
def State.inputDecision (s : State) (n : Nat) (high : Bool) : State :=
  if s.outsFrozen then s else (List.range 2).foldl (fun s k =>
    if s.fld (Fld.EG_OUT_CFG_MODE k) = 2 ∧ s.fld (Fld.EG_OUT_CFG_IN_SEL k) = n then s.outDecision k high else s) s

/-- Accept a new level of input `n`: an edge, counted, and an event when enabled (R387),
which wakes the device where it is enabled (R504). -/
def State.acceptLevel (s : State) (n : Nat) (high : Bool) : State :=
  let s := s.setFlag (Fld.EG_IN_STATUS_LEVEL n) high
  if (s.inp n).armed then
    let s := s.incWrap (if n = 0 then Fld.EG_IN_EDGES_IN0 else Fld.EG_IN_EDGES_IN1) 1
    let on := s.flag (if high then Fld.EG_IN_CFG_RISE_EV n else Fld.EG_IN_CFG_FALL_EV n)
    let s := if on then
        ((s.setFlag (if high then Fld.EG_IN_EVENT_RISE n else Fld.EG_IN_EVENT_FALL n) true).pend 10).wakeFrom 6 n
      else s
    s.inputDecision n high
  else s

/-- INPUT_SAMPLE (R387): the comparator follows its thresholds; a level that has held for DEBOUNCE samples
is accepted. No edge is generated while UNRESOLVED is set. -/
def State.inputSample (s : State) (n : Nat) (l : InLevel) : State :=
  if !s.outOfReset then s
  else if !(s.inp n).resolved then s.inputResolve n l
  else
    let s := match l with
      | .band => s
      | .high => (s.setFlag (Fld.EG_IN_STATUS_RAW n) true).setFlag (Fld.EG_IN_STATUS_UNRESOLVED n) false
      | .low => (s.setFlag (Fld.EG_IN_STATUS_RAW n) false).setFlag (Fld.EG_IN_STATUS_UNRESOLVED n) false
    if s.flag (Fld.EG_IN_STATUS_UNRESOLVED n) then s
    else
      let i := s.inp n
      let cfg := if i.run = 0 then s.reg (Reg.EG_IN_CFG n) else i.cfg
      let high := s.flag (Fld.EG_IN_STATUS_RAW n) != tstBit cfg 8
      if high = s.flag (Fld.EG_IN_STATUS_LEVEL n) then s.setInp n { i with run := 0, cfg := cfg }
      else if bits cfg 7 0 ≤ i.run + 1 then (s.setInp n { i with run := 0, cfg := cfg }).acceptLevel n high
      else s.setInp n { i with run := i.run + 1, cfg := cfg }

/-- Step 17: the edge detector is armed with the input's reading (R104). -/
def State.armInput (s : State) (n : Nat) : State :=
  let high := s.flag (Fld.EG_IN_STATUS_RAW n) != s.flag (Fld.EG_IN_CFG_INV n)
  let s := s.setFlag (Fld.EG_IN_STATUS_LEVEL n) high
  s.setInp n { s.inp n with armed := true, run := 0 }

/-- Step 17 into Run: both channels start in OCCUPIED with the switch released, and the reading of each input is a decision
of the MODE 2 channels that name it (R381, R383). -/
def State.startOuts (s : State) : State :=
  let s := (List.range 2).foldl (fun (s : State) n => s.setOut n { cfg := s.reg (Reg.EG_OUT_CFG n) }) s
  (List.range 2).foldl (fun (s : State) n => s.inputDecision n (s.flag (Fld.EG_IN_STATUS_LEVEL n))) s

/-! ## Budget frames and slots -/

/-- A Skim zone wake: charged 32 bits and raised, or it waits for the first budget frame in which it fits
(R499). -/
def State.skimZoneWake (s : State) : State :=
  if !s.wakeEnabled 7 0 then { s with eg := { s.eg with skimWake := false } }
  else if s.fits 32 then ({ s with eg := { s.eg with skimWake := false } }.charge 32).wakeFrom 7 0
  else { s with eg := { s.eg with skimWake := true } }

/-- A new budget frame begins (R28): its counts start at zero, then a waiting Skim zone wake (R499), waiting
transitions and waiting gate records are considered, in this order (R377). -/
def State.budgetFrame (s : State) : State :=
  let s := s.setFld Fld.DS_FRAME_USED_BITS s.ds.frameUsed
  let s := { s with
    ds := { s.ds with frameUsed := 0 }
    eg := { s.eg with
      partFrame := List.replicate 4 0
      frameStart := s.plumbNs
      gateRecs := s.eg.gateRecs.map (fun (r : GateRec) => { r with tried := false }) } }
  let s := if s.eg.skimWake then s.skimZoneWake else s
  ((s.offerOut 0).offerOut 1).offerRecs

/-- A new slot in front, the oldest one gone (R30). -/
def ageSlots (l : List Nat) : List Nat := 0 :: l.take 99

/-- BUDGET_SLOT_ADVANCE: the oldest slot ages out, lowered caps apply (R27), every tenth slot begins a
release period (R370), and with the sensor stopped a budget frame begins (R28). -/
def State.slotAdvance (s : State) : State :=
  let n := (s.eg.periodSlot + 1) % 10
  let s := { s with
    ds := { s.ds with capFrame := s.fld Fld.DS_CAP_FRAME_BITS, capRate := s.fld Fld.DS_CAP_RATE_BPS }
    eg := { s.eg with
      slots := ageSlots s.eg.slots, partSlots := s.eg.partSlots.map ageSlots, periodSlot := n
      periodOpen := n != 0 && s.eg.periodOpen
      countsSent := if n = 0 then List.replicate 4 false else s.eg.countsSent } }
  if s.sensorStopped then s.budgetFrame else s

/-- A write to DS_CAP_FRAME or DS_CAP_RATE that does not lower the value is ignored (R27). -/
def State.capFrameWrite (s : State) (v : Word) : State :=
  if bits v 13 0 ≤ s.fld Fld.DS_CAP_FRAME_BITS then s.setFld Fld.DS_CAP_FRAME_BITS (bits v 13 0) else s
def State.capRateWrite (s : State) (v : Word) : State :=
  if bits v 16 0 ≤ s.fld Fld.DS_CAP_RATE_BPS then s.setFld Fld.DS_CAP_RATE_BPS (bits v 16 0) else s

/-! ## The gate at a deadline instant (R24, R376 to R381) -/

/-- The decision of channel `n` from the candidates that pass R21, in slot order (R381). -/
def State.zoneDecision (s : State) (p : Nat) (cands : List (List Byte)) (n : Nat) : State :=
  if s.fld (Fld.EG_OUT_CFG_MODE n) = 1 ∧ s.fld (Fld.EG_OUT_CFG_PART n) = p ∧ !s.outCfgBad n then
    match cands.find? (fun c => candSchema c == 0x0101 && pBits c 0 5 0 == s.fld (Fld.EG_OUT_CFG_ZONE n)) with
    | none => s
    | some c =>
      match pBits c 0 7 6 with
      | 0 => s.outDecision n false
      | 1 => s.outDecision n true
      | _ => if s.flag (Fld.EG_OUT_CFG_UNK_OCC n) then s.outDecision n true else s
  else s

/-- Do the candidates report zone PW_SKIM_WAKE.ZONE occupied, while the wake is enabled (R499)? -/
def State.skimOccupied (s : State) (cands : List (List Byte)) : Bool :=
  s.wakeEnabled 7 0 &&
    match cands.find? (fun c => candSchema c == 0x0101 && pBits c 0 5 0 == s.fld Fld.PW_SKIM_WAKE_ZONE) with
    | none => false
    | some c => pBits c 0 7 6 == 1

/-- Decide one copy: the checks of R21, the output decisions and the Skim zone wake; the legal candidates. -/
def State.decideCopy (s : State) (p : Nat) (c : GateCopy) : List (List Byte) × State :=
  match (s.partition p).pkg with
  | none => ([], s)
  | some k =>
    let r := s.checkCands p k 0 c.cands
    let s := (r.2.zoneDecision p r.1 0).zoneDecision p r.1 1
    (r.1, if s.skimOccupied r.1 then s.skimZoneWake else s)

/-- Decide the copies in order: each copy's start instant and legal candidates. -/
def State.decideCopies (s : State) (p : Nat) : List GateCopy → List (BitVec 64 × List (List Byte)) × State
  | [] => ([], s)
  | c :: cs =>
    let r := s.decideCopy p c
    let rest := r.2.decideCopies p cs
    ((c.start, r.1) :: rest.1, rest.2)

/-- The release of partition `p` at a deadline instant: the transitions it commands are charged first, then the waiting gate
records, then its candidates by priority (R29, R377). -/
def State.gateRelease (s : State) (p : Nat) : State :=
  let copies := (s.partition p).copies
  let r := (s.setPart p { s.partition p with copies := [] }).decideCopies p copies
  let s := if copies.isEmpty then r.2 else (r.2.gateCounts p).offerRecs
  r.1.foldl (fun (s : State) c => s.admitRecs p c.1 (byPrio c.2)) s

/-! ## Meanings -/

def execViolCntClr (s : State) : Host.Outcome State Fault Refusal := .next (s.setReg Reg.DS_VIOL_CNT 0)
def execDsCapFrameWrite (v : Word) (s : State) : Host.Outcome State Fault Refusal := .next (s.capFrameWrite v)
def execDsCapRateWrite (v : Word) (s : State) : Host.Outcome State Fault Refusal := .next (s.capRateWrite v)
def execFaultIntervalEnd (p : Fin 4) (s : State) : Host.Outcome State Fault Refusal := .next (s.faultIntervalEnd p)
def execBudgetSlotAdvance (s : State) : Host.Outcome State Fault Refusal := .next s.slotAdvance
def execOutThermalShutdown (n : Fin 2) (s : State) : Host.Outcome State Fault Refusal := .next (s.outLatch n 1)
def execOutLimitTimeout (n : Fin 2) (s : State) : Host.Outcome State Fault Refusal := .next (s.outLatch n 2)
def execOutRetry (n : Fin 2) (s : State) : Host.Outcome State Fault Refusal := .next (s.outRetry n)
def execOutLatchClear (n : Fin 2) (s : State) : Host.Outcome State Fault Refusal := .next (s.outClear n)
def execHeldLowSet (n : Fin 2) (s : State) : Host.Outcome State Fault Refusal := .next (s.heldLow n true)
def execHeldLowClear (n : Fin 2) (s : State) : Host.Outcome State Fault Refusal := .next (s.heldLow n false)
def execInputComparatorResolve (n : Fin 2) (l : InLevel) (s : State) : Host.Outcome State Fault Refusal :=
  .next (s.inputResolve n l)
def execInputSample (n : Fin 2) (l : InLevel) (s : State) : Host.Outcome State Fault Refusal := .next (s.inputSample n l)
def execHoldoffExpiry (n : Fin 2) (s : State) : Host.Outcome State Fault Refusal := .next (s.holdoffExpiry n)
def execVacancyExpiry (n : Fin 2) (s : State) : Host.Outcome State Fault Refusal := .next (s.vacancyExpiry n)
def execOutCmdWrite (n : Fin 2) (v : Word) (s : State) : Host.Outcome State Fault Refusal := .next (s.outCmd n v)
def execOutStale (n : Fin 2) (s : State) : Host.Outcome State Fault Refusal := .next (s.outStale n)

end Sys2Proof.Machine
end

