-- ==== Sys2Proof/Machine/Kernel.lean ====
section
/-! DEFINITION. The serving kernel: its plan at a frame's start and its commit (R302, R306, R310 to R325). Its
tables stand in the serving area in a layout the spec does not give; the model holds their content as structures,
and of their rows the tag (log entry 25). -/

namespace Sys2Proof.Machine

/-! ## Kernel parameters (R306, Table 10.1) -/

/-- The parameters of a frame, brought into their ranges. -/
structure KernelParams where
  budget : Nat
  lendC : Nat
  lendB : Nat
  pauseStep : Nat
  pauseMaxAge : Nat
  admitMaxAge : Nat
  swap : Nat
  proportional : Bool
  /-- SATURATED or SLOW is set in the state code; and GAP. -/
  short : Bool
  gap : Bool := false
deriving DecidableEq, Repr

/-- The state code of a frame (R306): GAP, SATURATED and SLOW as public at the start instant. -/
def State.stateCode (s : State) (p : Nat) : Nat :=
  bit (s.partition p).gap + 2 * s.fld Fld.TF_SUP_STATUS_SATURATED + 4 * s.fld Fld.TF_SUP_STATUS_SLOW

/-- The state code of the partition's frame, as its start instant found it (R306, R335). -/
def State.frameCode (s : State) (p : Nat) : Nat :=
  match (s.partition p).frame with
  | some f => f.code
  | none => s.stateCode p

/-- The partition-window row of the control row of a frame (R306). -/
def State.controlRow (s : State) (p : Nat) : Nat :=
  s.fld (Fld.SV_CTABLE_ROW p) + 8 * s.fld (Fld.SV_CFG_MODE p) + s.frameCode p

/-- The kernel's parameters from the control row. -/
def State.kernelParams (s : State) (p : Nat) : KernelParams :=
  let r := s.row (s.partKey p (s.controlRow p))
  let e := fun i => r.toNat / 2 ^ (16 * i) % 65536
  let tiles := s.partTiles p
  let nc := (tiles.filter isCTile).length
  { budget := max 1 (e 2 + 65536 * e 3)
    lendC := min (e 4) (nc / 2)
    lendB := min (e 5) ((tiles.length - nc) / 2)
    pauseStep := clampNat 1 64 (e 6)
    pauseMaxAge := max 1 (e 7)
    admitMaxAge := clampNat 1 64 (e 8)
    swap := if e 9 ≤ 3 then e 9 else 0
    proportional := s.fld (Fld.SV_CFG_MODE p) == 1
    short := decide (2 ≤ s.frameCode p % 8)
    gap := s.frameCode p % 2 == 1 }

/-! ## Rows of the serving area (R302, R311) -/

/-- The partition-window row of an entry of stream `i`'s state cache: slot `k` of its 64 (R311). -/
def Package.cacheRow (k : Package) (i slot : Nat) : Nat := k.cacheBase + (64 * i + slot) * k.er

/-- The partition-window row of item `i`'s verdict (R312). -/
def Package.verdictAt (k : Package) (i : Nat) : Nat := k.servRow + Config.verdictRow i

/-- The partition-window rows of a kernel table: never the control table's, nor the count and candidate rows. -/
def State.tableRows (s : State) (p : Nat) (k : Package) (table : Nat) : List Nat :=
  ((List.range (k.servRows - 17)).filter (Config.servTable table)).map (k.servRow + ·) |>.filter (fun r =>
    !(decide (s.fld (Fld.SV_CTABLE_ROW p) ≤ r) && decide (r < s.fld (Fld.SV_CTABLE_ROW p) + 16)))

/-- A tagged task writes a row of the partition window whose layout is open: it takes the tag, and a free content. -/
def State.openTableRow (s : State) (p r : Nat) : State := s.openRowAt (s.partKey p r) true

/-- The kernel writes one of its tables. -/
def State.writeTable (s : State) (p : Nat) (k : Package) (table : Nat) : State :=
  (s.tableRows p k table).foldl (fun (s : State) r => s.openTableRow p r) s

/-! ## Trees (R319 to R322) -/

/-- The depth of node `i`, with fuel. -/
def nodeDepth (ns : List TreeNode) : Nat → Nat → Nat
  | 0, _ => 0
  | fuel + 1, i =>
    match ns[i]? with
    | none => 0
    | some n => match n.parent with
      | none => 1
      | some j => 1 + nodeDepth ns fuel j

/-- The path from depth 1 to node `i`. -/
def nodePath (ns : List TreeNode) : Nat → Nat → List Nat
  | 0, _ => []
  | fuel + 1, i =>
    match ns[i]? with
    | none => []
    | some n => match n.parent with
      | none => [i]
      | some j => nodePath ns fuel j ++ [i]

/-- The node of greatest depth, the lowest index among equals. -/
def deepest (ns : List TreeNode) : Nat :=
  ((List.range ns.length).foldl (fun b i =>
    if b.2 < nodeDepth ns 16 i then (i, nodeDepth ns 16 i) else b) (0, 0)).1

/-- The free cache slots of a stream, lowest first (R311). -/
def freeSlots (x : Stream) : List Nat :=
  (List.range 64).filter (fun k => !(x.steps.map (·.1)).contains k && !(x.nodes.map (·.slot)).contains k)

/-- The slots reserved for an item: free ones, lowest first, then those of the oldest committed steps, one for each node it
may create and at least one, for its entry (R311, R312; the order is the model's, log entry 15). -/
def reservedSlots (x : Stream) : List Nat :=
  (freeSlots x ++ (x.steps.map (·.1)).reverse).take (max 1 (16 - x.nodes.length))

/-- Append the entry in a slot as a committed step; a step whose slot it reuses is gone (R311). -/
def commitStep (x : Stream) (slot : Nat) (occluded : Bool) : Stream :=
  { x with steps := (slot, occluded) :: x.steps.filter (fun e => e.1 != slot) }

/-- The 32-byte mask of a tree: bit j of 16-bit word i says that node j is node i or one of its ancestors (R320). -/
def treeMask (ns : List TreeNode) : List Byte :=
  (List.range 16).flatMap (fun i => toLe 2 ((nodePath ns 17 i).foldl (fun m j => m + 2 ^ j) 0))

/-- Accept node `a` (R322 step 2): its path becomes committed steps, its descendants stay as a tree
re-rooted at it, the other nodes are freed, and what stays is renumbered in order. -/
def acceptNode (x : Stream) (a : Nat) : Stream :=
  let path := nodePath x.nodes 17 a
  let steps := path.filterMap (fun i => (x.nodes[i]?).map (fun n => (n.slot, n.occluded)))
  let kept := (List.range x.nodes.length).filter (fun i => i != a && (nodePath x.nodes 17 i).contains a)
  let renum := fun j => if j = a then none else kept.findIdx? (· == j)
  let nodes := kept.filterMap (fun i => (x.nodes[i]?).map (fun n =>
    { n with parent := match n.parent with | none => none | some j => renum j }))
  { x with
    steps := steps.reverse ++ x.steps
    nodes := nodes
    best := match kept.findIdx? (· == x.best) with | some b => b | none => deepest nodes }

/-- Step 3 of R322: while a node of depth 4 is held, the depth-1 ancestor of BEST is accepted. -/
def boundDepth (x : Stream) : Stream :=
  if (List.range x.nodes.length).any (fun i => decide (4 ≤ nodeDepth x.nodes 17 i)) then
    match nodePath x.nodes 17 x.best with
    | [] => x
    | a :: _ => acceptNode x a
  else x

/-- Resolve a stream's tree to its BEST node, whose descendants stay open (R322 step 2, R323). -/
def resolveTree (x : Stream) : Stream := if x.nodes.isEmpty then x else acceptNode x x.best

/-! ## The plan (R316, R317) -/

/-- The planned load of the tiles, and which are lent. -/
structure Loads where
  tiles : List (Nat × Nat)
  lent : List Nat := []
deriving DecidableEq, Repr

/-- The cost of an item on a tile kind (R306). -/
def itemCost (costs : List Nat) (k : ItemKind) (onC : Bool) : Nat :=
  costs.getD (match k, onC with
    | .step, false => 0 | .step, true => 1 | .tree, false => 2 | .tree, true => 3
    | .admission, true => 4 | .admission, false => 5) 0

/-- The home kind of an item: C for Admit (R317). -/
def homeIsC (k : ItemKind) : Bool := k == .admission

/-- May the item be considered for the tile? -/
def mayTake (q : KernelParams) (costs : List Nat) (l : Loads) (k : ItemKind) (t : Nat) : Bool :=
  let c := isCTile t
  c == homeIsC k ||
    (q.proportional && itemCost costs k c != 0 &&
      (l.lent.contains t || decide ((l.lent.filter (fun u => isCTile u == c)).length <
        (if c then q.lendC else q.lendB))))

/-- The tile R317 picks: earliest finish, then the home kind, then the lowest index. -/
def pickTile (q : KernelParams) (costs : List Nat) (l : Loads) (k : ItemKind) : Option (Nat × Nat) :=
  l.tiles.foldl (fun best e =>
    if mayTake q costs l k e.1 then
      let f := e.2 + itemCost costs k (isCTile e.1)
      match best with
      | none => some (e.1, f)
      | some (t, bf) =>
        if f < bf ∨ (f = bf ∧ isCTile e.1 = homeIsC k ∧ isCTile t ≠ homeIsC k) then some (e.1, f) else best
    else best) none

/-- Give an item to a tile. -/
def Loads.give (l : Loads) (k : ItemKind) (t f : Nat) : Loads :=
  { tiles := l.tiles.map (fun e => if e.1 = t then (t, f) else e)
    lent := if isCTile t == homeIsC k || l.lent.contains t then l.lent else l.lent ++ [t] }

/-- The greatest planned load. -/
def Loads.top (l : Loads) : Nat := l.tiles.foldl (fun m e => max m e.2) 0

/-- The lowest FREE stream index (R314). -/
def freeStream (ss : List Stream) : Option Nat := ss.findIdx? (fun x => x.state == .free)

/-- A plan in progress. -/
structure Plan where
  loads : Loads
  streams : List Stream
  items : List Item := []
deriving DecidableEq, Repr

/-- Assign one item (R312, R317). An admission item takes the lowest FREE stream, which becomes ADMITTING; it is left
queued when no tile fits it within BUDGET or no stream is free. -/
def Plan.assign (p : Plan) (q : KernelParams) (costs : List Nat) (k : ItemKind)
    (cls stream queueAt : Nat) : Plan :=
  match pickTile q costs p.loads k with
  | none => p
  | some (t, f) =>
    if k = .admission then
      if q.budget < f then p
      else match freeStream p.streams with
        | none => p
        | some i =>
          { loads := p.loads.give k t f
            streams := p.streams.modify i (fun x => { x with state := .admitting })
            items := p.items ++ [{ kind := k, stream := i, queueAt := queueAt, tile := t, cls := cls, slots := [0],
                                   afterGap := q.gap }] }
    else
      let x := p.streams.getD stream {}
      { loads := p.loads.give k t f
        streams := p.streams.modify stream (fun x => { x with resumed := false })
        items := p.items ++ [{ kind := k, stream := stream, queueAt := 0, tile := t, cls := cls
                               steps := x.steps.map (·.1), slots := reservedSlots x, nodes := x.nodes.map (·.slot)
                               mask := if k = .tree then treeMask x.nodes else []
                               afterPause := x.resumed, afterGap := q.gap }] }

/-- The Tree or Step items of a class, by stream index (R316): kind, class, stream and place in the queue. -/
def streamItems (ss : List Stream) (cls : Nat) (tree : Bool) : List (ItemKind × Nat × Nat × Nat) :=
  (List.range ss.length).filterMap (fun i =>
    match ss[i]? with
    | none => none
    | some x =>
      if x.state = .live ∧ x.cls = cls ∧ (!x.nodes.isEmpty) = tree then
        some (if tree then ItemKind.tree else ItemKind.step, cls, i, 0)
      else none)

/-- The Admit items of a class, oldest first. -/
def admitItems (q : List AdmitReq) (cls now : Nat) : List (ItemKind × Nat × Nat × Nat) :=
  (List.range q.length).filterMap (fun i =>
    match q[i]? with
    | none => none
    | some r => if r.cls = cls ∧ r.writtenAt < now then some (ItemKind.admission, cls, 0, i) else none)

/-- The items of a frame in their order (R316). -/
def frameItems (prop : Bool) (ss : List Stream) (q : List AdmitReq) (now : Nat) :
    List (ItemKind × Nat × Nat × Nat) :=
  let steps := fun c => streamItems ss c true ++ streamItems ss c false
  if prop then (List.range 4).flatMap (fun c => steps c ++ admitItems q c now)
  else (List.range 4).flatMap steps ++ (List.range 4).flatMap (fun c => admitItems q c now)

/-- Plan a frame over a stream table. -/
def planFrame (q : KernelParams) (pkg : Package) (tiles : List Nat) (ss : List Stream) (queue : List AdmitReq)
    (now : Nat) : Plan :=
  (frameItems q.proportional ss queue now).foldl (fun p i => p.assign q pkg.costs i.1 i.2.1 i.2.2.1 i.2.2.2)
    { loads := { tiles := tiles.map (fun t => (t, pkg.fixed.getD t 0)) }, streams := ss }

/-! ## Verdicts (R312, R315, R321, R322, Table 10.4) -/

/-- Fields of a 32-byte verdict. -/
def vAction (v : List Byte) : Nat := le v 0 1
def vAccept (v : List Byte) : Nat := le v 1 1
def vNew (v : List Byte) (i : Nat) : Bool := le v 2 2 / 2 ^ i % 2 == 1
def vOccl (v : List Byte) (i : Nat) : Bool := le v 4 2 / 2 ^ i % 2 == 1
def vBest (v : List Byte) : Nat := le v 6 1
def vParent (v : List Byte) (i : Nat) : Nat := le v (8 + i) 1

/-- Reserved bytes zero and a known action. -/
def verdictShape (v : List Byte) : Bool := decide (vAction v ≤ 5) && allZero v 7 1 && allZero v 0x18 8

/-- The new nodes of a verdict, by ascending NEW bit. -/
def newBits (v : List Byte) : List Nat := (List.range 16).filter (vNew v)

/-- A node index of a verdict in the compact numbering: open nodes keep theirs, new nodes follow (R322). -/
def remap (v : List Byte) (k i : Nat) : Option Nat :=
  if i < k then some i else ((newBits v).findIdx? (· == i)).map (k + ·)

/-- Is a TREE verdict for a tree of `k` open nodes usable (R321, R322)? -/
def treeOk (v : List Byte) (k : Nat) : Bool :=
  (newBits v).all (fun i => decide (k ≤ i) &&
    (vParent v i == 0xFF || (match remap v k (vParent v i) with
      | none => false
      | some j => decide (j < k) || decide (vParent v i < i)))) &&
  (remap v k (vBest v)).isSome && (vAccept v == 0xFF || (remap v k (vAccept v)).isSome) &&
  (k != 0 || !(newBits v).isEmpty)

/-- Add the new nodes of a verdict, each with the reserved slot of its verdict index, until the tree holds 16 (R322). -/
def addNodes (v : List Byte) (slots : List Nat) (k : Nat) (x : Stream) : Stream :=
  (newBits v).foldl (fun x i =>
    if 16 ≤ x.nodes.length then x
    else
      let slot := slots.getD (i - k) 0
      { x with
        steps := x.steps.filter (fun e => e.1 != slot)
        nodes := x.nodes ++ [⟨if vParent v i = 0xFF then none else remap v k (vParent v i), slot, vOccl v i⟩] }) x

/-- Apply a usable TREE verdict (R322). -/
def applyTree (v : List Byte) (slots : List Nat) (x : Stream) : Stream :=
  let k := x.nodes.length
  let x := { x with nodes := (List.range k).filterMap (fun i => (x.nodes[i]?).map (fun n =>
    { n with occluded := n.occluded || vOccl v i })) }
  let x := addNodes v slots k x
  let n := x.nodes.length
  let best := match remap v k (vBest v) with
    | none => deepest x.nodes
    | some b => if b < n then b else deepest x.nodes
  let x := { x with best := best }
  let x := match remap v k (vAccept v) with
    | none => x
    | some a => if vAccept v ≠ 0xFF ∧ a < n then acceptNode x a else x
  boundDepth x

/-- The open trees of a table (R319). -/
def openTrees (ss : List Stream) : Nat := (ss.filter (fun x => !x.nodes.isEmpty)).length

/-- What a Step or Tree verdict does to its stream, with the slots reserved for the item: the stream, whether it ended, and
whether the verdict was treated as NONE and is counted (R315, R321). -/
def applyVerdict (ss : List Stream) (x : Stream) (slots : List Nat) (v : List Byte) : Stream × Bool × Bool :=
  if !verdictShape v then (x, false, true)
  else match vAction v with
    | 0 => (commitStep { x with nodes := [] } (slots.getD 0 0) false, false, false)
    | 1 => (x, false, false)
    | 2 => (({} : Stream), true, false)
    | 3 =>
      if !treeOk v x.nodes.length then (x, false, true)
      else if x.nodes.isEmpty ∧ 128 ≤ openTrees ss then
        (commitStep x (slots.getD (vBest v) 0) (vOccl v (vBest v)), false, false)
      else (applyTree v slots x, false, false)
    | _ => (x, false, true)

/-! ## Plan at a frame's start (R313, R323 to R325) -/

/-- The streams a pause takes: class 3, then 2, then 1; the most recently admitted first (R323). -/
def pauseOrderOf (ss : List Stream) (n : Nat) : List Nat :=
  let ofClass := fun c => sortBy (fun i j => decide ((ss.getD j {}).admitOrder ≤ (ss.getD i {}).admitOrder))
    ((List.range ss.length).filter (fun i =>
      match ss[i]? with | none => false | some x => x.state == .live && x.cls == c))
  (ofClass 3 ++ ofClass 2 ++ ofClass 1).take n

/-- The paused streams in the order they were paused. -/
def resumeOrderOf (ss : List Stream) : List Nat :=
  sortBy (fun i j => decide ((ss.getD i {}).pauseOrder ≤ (ss.getD j {}).pauseOrder))
    ((List.range ss.length).filter (fun i =>
      match ss[i]? with | none => false | some x => x.state == .paused))

/-- Resume streams one by one while the planned load stays within BUDGET, up to PAUSE_STEP (R324). -/
def resumeStreams (q : KernelParams) (pkg : Package) (tiles : List Nat) (queue : List AdmitReq) (now : Nat) :
    Nat → List Nat → List Stream → List Stream
  | 0, _, ss => ss
  | _, [], ss => ss
  | n + 1, i :: is, ss =>
    let ss' := ss.modify i (fun x => { x with state := .live, resumed := true })
    if (planFrame q pkg tiles ss' queue now).loads.top ≤ q.budget then
      resumeStreams q pkg tiles queue now n is ss'
    else ss

/-- The event of a stream as it stands. -/
def streamEvt (ss : List Stream) (event i : Nat) : TrackEvt := ⟨event, i, (ss.getD i {}).cls, (ss.getD i {}).label⟩

/-- The kernel's plan for a frame of partition `p`: the queue dropped at a swap (R334), evictions, expired requests, then
the pause or the resume, then the assignment of the items. -/
def State.kernelPlan (s : State) (p : Nat) (pkg : Package) : Kernel :=
  let k := (s.partition p).kernel
  let q := s.kernelParams p
  let tiles := s.partTiles p
  let now := k.frames + 1
  let k := if q.swap = 3 then { k with queue := [] } else k
  let queue := k.queue
  let live := queue.filter (fun r => decide (now - r.writtenAt ≤ q.admitMaxAge))
  let streams := if k.streams.length = pkg.maxStreams then k.streams
    else k.streams.take pkg.maxStreams ++ List.replicate (pkg.maxStreams - k.streams.length) ({} : Stream)
  let old := fun (x : Stream) => x.state == .paused && decide (q.pauseMaxAge < now - x.pausedAt)
  let evicted := (List.range streams.length).filter (fun i => old (streams.getD i {}))
  let gone := evicted.map (streamEvt streams 3)
  let streams := streams.map (fun (x : Stream) => if old x then ({} : Stream) else x)
  let base := { k with
    frames := now, expired := queue.length - live.length, swap := q.swap, workQueue := live
    events := gone }
  let first := planFrame q pkg tiles streams live now
  if q.short ∧ q.budget < first.loads.top then
    let chosen := pauseOrderOf streams q.pauseStep
    let paused := (List.zip chosen (List.range chosen.length)).foldl (fun ss e =>
      ss.modify e.1 (fun x =>
        { resolveTree x with state := .paused, pausedAt := now, pauseOrder := k.orders + e.2 })) streams
    let plan := planFrame q pkg tiles paused live now
    { base with
      work := plan.streams, items := plan.items, orders := k.orders + chosen.length
      events := base.events ++ chosen.map (streamEvt streams 2) }
  else
    let streams := if q.short then streams
      else resumeStreams q pkg tiles live now q.pauseStep (resumeOrderOf streams) streams
    let plan := planFrame q pkg tiles streams live now
    { base with work := plan.streams, items := plan.items }

/-! ## Commit (R309, R313 to R315, R344, R375) -/

/-- What one item's verdict does to the tables. A missing verdict counts as one treated as NONE (R312). -/
structure Commit where
  streams : List Stream
  queue : List (Option AdmitReq)
  events : List TrackEvt
  orders : Nat
  noneCount : Nat := 0
  admitted : List Nat := []
  ended : List Nat := []
deriving DecidableEq, Repr

/-- The verdict of an item; none written is the empty one. -/
def verdictOf (verdicts : List (Nat × List Byte)) (i : Item) : List Byte :=
  ((verdicts.find? (fun e => e.1 == i.stream)).map (·.2)).getD []

/-- Apply the verdict of one item. -/
def Commit.item (c : Commit) (verdicts : List (Nat × List Byte)) (i : Item) : Commit :=
  let v := verdictOf verdicts i
  let x := c.streams.getD i.stream {}
  if i.kind = .admission then
    match c.queue.getD i.queueAt none with
    | none => c
    | some r =>
      if verdictShape v ∧ vAction v = 4 then
        { c with
          streams := c.streams.set i.stream { state := .live, cls := r.cls, label := r.label, admitOrder := c.orders,
                                              steps := [(0, false)] }
          queue := c.queue.set i.queueAt none, orders := c.orders + 1
          events := c.events ++ [⟨0, i.stream, r.cls, r.label⟩], admitted := c.admitted ++ [i.stream] }
      else if verdictShape v ∧ vAction v = 5 then
        { c with streams := c.streams.set i.stream {}, queue := c.queue.set i.queueAt none }
      else { c with streams := c.streams.set i.stream {}, noneCount := c.noneCount + 1 }
  else if v = [] then { c with noneCount := c.noneCount + 1 }
  else
    let r := applyVerdict c.streams x i.slots v
    let c := { c with streams := c.streams.set i.stream r.1 }
    if r.2.1 then { c with events := c.events ++ [⟨1, i.stream, x.cls, x.label⟩], ended := c.ended ++ [i.stream] }
    else if r.2.2 then { c with noneCount := c.noneCount + 1 }
    else c

/-- A TRACK_EVENT candidate slot (Tables 12.3 and 12.5), PRIO 1. -/
def trackEvent (e : TrackEvt) : List Byte :=
  toLe 2 0x0601 ++ toLe 1 1 ++ toLe 1 1 ++ toLe 2 e.stream ++ toLe 2 0 ++
    toLe 4 (e.event + 256 * e.cls + 65536 * e.label) ++ List.replicate 52 0

/-- The OVERRUN HEALTH candidate slot (R326). -/
def overrunCand : List Byte :=
  toLe 2 0x0701 ++ toLe 1 0 ++ toLe 1 1 ++ toLe 2 0xFFFF ++ toLe 2 0 ++ toLe 4 2 ++ List.replicate 52 0

/-- Write bytes as a tagged task does: the rows they touch take the tag (R14). -/
def State.taggedBytes (s : State) (a : Nat) (bs : List Byte) : State := (s.writeBytes a bs).setTag (a / 512)

/-- Place candidate slots after those already there; those that find no slot are counted. -/
def State.placeCands (s : State) (key : Nat) : Nat → List (List Byte) → Nat × State
  | _, [] => (0, s)
  | i, c :: cs =>
    if 128 ≤ i then ((c :: cs).length, s)
    else (s.taggedBytes (512 * key + 64 * i) c).placeCands key (i + 1) cs

/-- The verdict rows of the items that wrote one, inside the serving area (R302, R312). -/
def verdictRows (k : Package) (items : List Item) (verdicts : List (Nat × List Byte)) : List Nat :=
  (items.zipIdx.filter (fun i => verdictOf verdicts i.1 != [])).map (fun i => k.verdictAt i.2) |>.filter (fun r =>
    decide (r < k.servRow + (k.servRows - 17)))

/-- The rows a commit writes beside the count and candidate rows: verdicts, the admit queue, the copy of the stream table
that was not in force, and the selector row (R302, R309). -/
def State.commitRows (s : State) (p : Nat) (k : Package) (items : List Item) (verdicts : List (Nat × List Byte)) (copy : Nat) :
    State :=
  let s := (verdictRows k items verdicts).foldl (fun (s : State) r => s.openTableRow p r) s
  ((s.writeTable p k 3).writeTable p k copy).writeTable p k 2

/-- The gate learns which streams of a partition ended, and which were admitted (R374). -/
def State.gateStreams (s : State) (p : Nat) (gone admitted left : List Nat) : State :=
  let key := fun (l : List Nat) => l.map (256 * p + ·)
  let adm := key admitted
  { s with eg := { s.eg with
    admissions := adm.foldl (fun m x => Sparse.put (fun _ => 0) x (Sparse.get (fun _ => 0) m x + 1) m) s.eg.admissions
    liveStreams := s.eg.liveStreams.filter (fun x => !(key gone).contains x && !(key left).contains x && !adm.contains x) ++
      adm.filter (fun x => !(key left).contains x) } }

/-- The commit of a closing frame: the verdicts are applied in item order, with SWAP 1 every stream ends
(Table 11.5), model code's requests for admission join the queue, the kernel's candidates and the count row are
written, and the gate learns of admissions and ends. -/
def State.kernelCommit (s : State) (p : Nat) (pkg : Package) (verdicts : List (Nat × List Byte))
    (reqs : List AdmitWrite) : State :=
  let k := (s.partition p).kernel
  let c := k.items.foldl (fun (c : Commit) i => c.item verdicts i)
    { streams := k.work, queue := k.workQueue.map some, events := k.events, orders := k.orders }
  let left := if k.swap = 1 then
      (List.range c.streams.length).filter (fun i => (c.streams.getD i {}).state != .free)
    else []
  let streams := if k.swap = 1 then c.streams.map (fun _ => {}) else c.streams
  let waiting := c.queue.filterMap id
  let room := pkg.admitSlots - waiting.length
  let news := (reqs.take room).map (fun r => (⟨r.cls, r.label, k.frames, r.crop⟩ : AdmitReq))
  let events := c.events ++ left.map (streamEvt c.streams 1)
  let cands := (if k.overran then [overrunCand] else []) ++ events.map trackEvent
  let key := s.candKey p pkg
  let r := s.placeCands key (s.candidates p).length cands
  let row := toLe 2 (min (c.noneCount + r.1) 0xFFFF) ++ toLe 2 (min (k.expired + (reqs.length - room)) 0xFFFF) ++
    List.replicate 508 0
  let s := (r.2.taggedBytes (512 * (key - 1)) row).commitRows p pkg k.items verdicts (1 - k.copy)
  let s := s.gateStreams p (c.ended ++ (k.events.filter (fun e => e.event = 3)).map (·.stream)) c.admitted left
  s.setPart p { s.partition p with kernel := { k with
    streams := streams, work := [], workQueue := [], items := [], events := [], expired := 0, overran := false
    queue := waiting ++ news, orders := c.orders, copy := 1 - k.copy } }

end Sys2Proof.Machine
end

