-- ==== Sys2Proof/Machine/Access.lean ====
section
/-! DEFINITION. An access through the address map: the region and requester check, the narrow-view checks
of the scratchpad, and the bytes themselves (R124 to R132, R33, R34, R200 to R203, R229). -/

namespace Sys2Proof.Machine

/-- The kind of an access (R124). -/
inductive AccKind where
  | read | write | fetch
deriving DecidableEq, Repr

/-- The region of Table 4.10 that holds an address. -/
def regionOf (a : Nat) : Option Nat :=
  if a < 0x1000 then some 0
  else if 0x10000 ≤ a ∧ a < 0x30000 then some 1
  else if 0x40000 ≤ a ∧ a < 0x80000 then some 2
  else if 0x10000000 ≤ a ∧ a < 0x11000000 then some 3
  else if 0x20000000 ≤ a ∧ a < 0x22000000 then some 4
  else if 0x40000000 ≤ a ∧ a < 0x50000000 then some 5
  else if 0x60000000 ≤ a ∧ a < 0x60100000 then some 6
  else if 0x80000000 ≤ a ∧ a < 0xA0000000 then some 7
  else none

/-- Does the address lie in near or far scratchpad? -/
def inScratch (a : Nat) : Bool := regionOf a == some 4 || regionOf a == some 5

/-- Does the address lie in cluster SRAM? -/
def inSram (a : Nat) : Bool := regionOf a == some 6

/-- Does the requester reach the region (Table 4.10)? -/
def reaches (r : Requester) (region : Nat) : Bool :=
  match r with
  | .core _ => region != 2
  | .mgmt => true
  | .debug => true
  | .dpLath => region == 0 || region == 4 || region == 5
  | .dpHost => region == 0 || region == 4 || region == 5
  | _ => false

/-- Is core debug open in the lifecycle state (Table 1.3)? In Returned only after the verified erase. -/
def State.debugOpen (s : State) : Bool :=
  s.lifecycle == 0 || s.inService || (s.lifecycle == 7 && s.ds.eraseVerified)

/-- Usable bytes of spill memory (R219). -/
def State.spillBytes (s : State) : Nat := s.fld Fld.SP_XS_CFG_SIZE * 0x100000

/-- The rows that `n` bytes from `a` touch. -/
def rowsOf (a n : Nat) : List Nat := (List.range (n / 512 + 2)).filterMap (fun i =>
  if 512 * (a / 512 + i) < a + n then some (a / 512 + i) else none)

/-- The 8-byte units that `n` bytes from `a` touch (R202). -/
def unitsTouched (a n : Nat) : List Nat := (List.range (n / 8 + 2)).filterMap (fun i =>
  if 8 * (a / 8 + i) < a + n then some (a / 8 + i) else none)

/-- Is the row in the scope of a scrub that runs: of a bank that is released, or of a tile whose task has ended (R217,
R218)? -/
def State.underScrub (s : State) (key : Nat) : Bool :=
  s.sp.toScrub.contains (bankOf key) || s.sp.ringRelease.contains (bankOf key) ||
    (List.range 16).any (fun t =>
      let x := s.tile t
      let rel := x.task.rel
      x.run == .scrubbing &&
        ((decide (nearKey t rel.nearBase ≤ key) && decide (key < nearKey t (rel.nearBase + rel.nearSize))) ||
         x.remote.any (fun k => bankOf key == 64 + 32 * t + k) ||
         (decide (farKey rel.taskBase ≤ key) && decide (key < farKey (rel.taskBase + rel.taskSize)))))

/-- The scrubber takes its rows one by one: what it has passed when an access comes is zero and untagged (R46). -/
def State.passScrub (s : State) (m : Met) (a n : Nat) : State :=
  if m = .scrubbed && inScratch a then (rowsOf a n).foldl (fun (s : State) k => if s.underScrub k then s.scrubOne k else s) s else s

/-- Does an access to a row fail with SP_CONFLICT (Table 7.4): it overlaps the scrub handshake of its row, or the earlier
handshake of a tile or an engine? -/
def State.metConflict (s : State) (m : Met) (rows : List Nat) : Bool :=
  match m with
  | .scrub => rows.any s.underScrub
  | .wide => true
  | _ => false

/-- The scratchpad checks of a narrow access, in the order of R201: power, mode; then, at the bank handshake, a conflict,
which leaves the row unseen (R44, R46), the tag, and for a read or a fetch an uncorrectable unit (R229). -/
def State.scratchCode (s : State) (k : AccKind) (m : Met) (a n : Nat) : Option Nat :=
  let rows := rowsOf a n
  if rows.any (fun r => !s.bankPowered (bankOf r)) then some 0x0404
  else if rows.any (fun r => !s.bankNarrow (bankOf r)) then some 0x0403
  else if s.metConflict m rows then some 0x0401
  else if rows.any s.tagged then
    some (match k with | .read => 0x0101 | .write => 0x0102 | .fetch => 0x0103)
  else if k != .write && s.sp.ecc.any (fun e => e.2 == .double && (unitsTouched a n).contains e.1) then some 0x0408
  else none

/-- The code an access of `n` bytes at `a` fails its address checks with, or none (R124, R125, R131, R132). Two of its answers
are the model's (DESIGN CHOICE, log entry 40): R131 names "the Dust Sheet's code" for a debug access that the lifecycle
refuses, and the model raises 0x0108, DS_DEBUG_DENIED; and where two causes of Table 4.12 hold for one access, the
order of the lines below decides. -/
def State.regionCode (s : State) (r : Requester) (k : AccKind) (a n : Nat) : Option Nat :=
  match regionOf a with
  | none => if r = .debug ∧ !s.debugOpen then some 0x0108 else some 0x0001
  | some g =>
    if r = .debug ∧ !s.debugOpen then some 0x0108
    else if regionOf (a + n - 1) ≠ some g ∨ !reaches r g then some 0x0001
    else if g = 7 ∧ 0x80000000 + s.spillBytes < a + n then some 0x0001
    else if g = 3 ∧ 0x10100000 ≤ a then some 0x0001
    else if k = .fetch ∧ (g = 0 ∨ g = 3 ∨ g = 7) then some 0x0003
    else if k = .write ∧ (g = 0 ∨ g = 1) then some 0x0002
    else if g = 3 ∧ (n ≠ 4 ∨ a % 4 ≠ 0) then some 0x0004
    else none

/-- The code an access of `n` bytes at `a` fails with, or none when it is performed; `m`: what it met at its target, a failed
transfer of the spill port among it (R234). -/
def State.accessCode (s : State) (r : Requester) (k : AccKind) (m : Met) (a n : Nat) : Option Nat :=
  match s.regionCode r k a n with
  | some c => some c
  | none =>
    if inScratch a then s.scratchCode k m a n
    else if m = .spillIo ∧ regionOf a = some 7 then some 0x0407 else none

/-- Raise the code of a failed access, by its source byte (Table 0.7); a row whose tag it met may have a parity error. -/
def State.raiseAccess (s : State) (code : Nat) (r : Requester) (a : Nat) : State :=
  if code / 256 = 0 then s.raiseSys code r a
  else if 0x0101 ≤ code ∧ code ≤ 0x0103 then
    (s.noteParity r (if s.tagged (a / 512) then a / 512 else a / 512 + 1)).raiseDs code r a
  else if code / 256 = 1 then s.raiseDs code r a
  else s.raiseSp code r a

/-- Does a narrow access to the spill window wait for a sweep to end (R226)? -/
def State.spillWaits (s : State) (a : Nat) : Bool := regionOf a == some 7 && s.sp.sweep.isSome

/-- `n` bytes of the address map outside the registers. -/
def State.loadBytes (s : State) (a n : Nat) : List Byte :=
  match regionOf a with
  | some 0 => (List.range n).map (fun i => s.layout.getD (a + i) 0)
  | some 1 => (List.range n).map (fun i => Config.bootRom (a - 0x10000 + i))
  | some 7 => Sparse.gets spillDefault s.spillMem (a - 0x80000000) n
  | _ => s.bytes a n

/-- Count the single-bit errors a narrow read corrected (R229). -/
def State.countEcc (s : State) (a n : Nat) : State :=
  s.incSat Fld.SP_ECC_CNT_COUNT
    (s.sp.ecc.filter (fun e => e.2 == .single && (unitsTouched a n).contains e.1)).length

/-- Write bytes of the address map outside the registers; an 8-byte unit of scratchpad written whole
takes a new code (R229); a write to the spill window during a sweep waits for its end (R226). `own`: the control core
whose store it is. -/
def State.storeBytes (s : State) (own : Option Nat) (a : Nat) (bs : List Byte) : State :=
  match regionOf a with
  | some 7 =>
    if s.sp.sweep.isSome then
      { s with sp := { s.sp with narrowWrites := s.sp.narrowWrites ++ [(own, a - 0x80000000, bs)] } }
    else { s with spillMem := Sparse.puts spillDefault (a - 0x80000000) bs s.spillMem }
  | some 4 | some 5 =>
    { s.writeBytes a bs with sp := { s.sp with
        ecc := s.sp.ecc.filter (fun e => !(decide (a ≤ 8 * e.1) && decide (8 * e.1 + 8 ≤ a + bs.length))) } }
  | _ => s.writeBytes a bs

/-- Is a granule of a reservation touched by `n` bytes from `a`? -/
def granuleHit (x : Nat) (a n : Nat) : Bool := decide (x / 32 * 32 < a + n) && decide (a < x / 32 * 32 + 32)

/-- A store to cluster SRAM: every reservation of its granules ends (R286), and the other cores' D-caches lose the
line (R278). Whose store it is, if a core's: `own`. -/
def State.sramStored (s : State) (own : Option Nat) (a n : Nat) : State :=
  { s with cores := Vector.ofFn (fun (i : Fin 5) =>
      let c := vget {} s.cores i.val
      { c with
        reserved := if c.reserved.any (fun x => granuleHit x a n) then none else c.reserved
        dcache := if own = some i.val then c.dcache
          else c.dcache.filter (fun l => !(decide (32 * l < a + n) && decide (a < 32 * l + 32))) }) }

/-- Store bytes into the address map as an observer does, outside the registers. -/
def State.storeSeen (s : State) (own : Option Nat) (a : Nat) (bs : List Byte) : State :=
  let s := s.storeBytes own a bs
  if inSram a then s.sramStored own a bs.length else s

/-- Is the granule held back from stores of observers other than core `own` (R288)? -/
def State.granuleHeld (s : State) (own : Option Nat) (a n : Nat) : Bool :=
  (List.range 4).any (fun i =>
    let c := vget {} s.cores i
    own != some i && c.holding && c.reserved.any (fun x => granuleHit x a n))

end Sys2Proof.Machine
end

