-- ==== Sys2Proof/Machine/CoreBase.lean ====
section
/-! DEFINITION. Cores: their registers and CSRs, their start (R267), their caches as an apply of the scratchpad and a
power state leave them (R285, R295), and the interrupt lines (R265). -/

namespace Sys2Proof.Machine

/-- Core `c`: 0 to 3 of the cluster, 4 the management core. -/
def State.core (s : State) (c : Nat) : Core := vget {} s.cores c

/-- The state with core `c` replaced. -/
def State.setCore (s : State) (c : Nat) (x : Core) : State := { s with cores := vput s.cores c x }

/-- The requester a core is. -/
def coreReq (c : Nat) : Requester := if c < 4 then .core c else .mgmt

/-- Read an integer register; x0 is 0. -/
def Core.reg (x : Core) (i : Nat) : Word := if i = 0 then 0 else vget 0 x.x i

/-- Write an integer register; x0 discards it. -/
def Core.setReg (x : Core) (i : Nat) (v : Word) : Core := if i = 0 then x else { x with x := vput x.x i v }

/-! ## CSRs (Table 9.4) -/

namespace Csr
def mstatus : Nat := 0x300
def misa : Nat := 0x301
def mie : Nat := 0x304
def mtvec : Nat := 0x305
def mcounteren : Nat := 0x306
def mcountinhibit : Nat := 0x320
def mscratch : Nat := 0x340
def mepc : Nat := 0x341
def mcause : Nat := 0x342
def mtval : Nat := 0x343
def mip : Nat := 0x344
def pmpcfg0 : Nat := 0x3A0
def pmpaddr0 : Nat := 0x3B0
def cgctl : Nat := 0x7C0
end Csr

/-- Every held CSR starts at 0. -/
def csrDefault (_ : Nat) : Word := 0

/-- A held CSR. -/
def Core.csr (x : Core) (a : Nat) : Word := Sparse.get csrDefault x.csrs a

/-- Set a held CSR. -/
def Core.setCsr (x : Core) (a : Nat) (v : Word) : Core := { x with csrs := Sparse.put csrDefault a v x.csrs }

/-- Fields of mstatus: MIE, MPIE, MPP (M-mode) and MPRV. -/
def Core.mieBit (x : Core) : Bool := tstBit (x.csr Csr.mstatus) 3
def Core.mpie (x : Core) : Bool := tstBit (x.csr Csr.mstatus) 7
def Core.mppM (x : Core) : Bool := tstBit (x.csr Csr.mstatus) 11
def Core.mprv (x : Core) : Bool := tstBit (x.csr Csr.mstatus) 17

/-- An mstatus word of its four implemented fields. -/
def mstatusWord (mie mpie mppM mprv : Bool) : Word :=
  word (8 * bit mie + 128 * bit mpie + 0x1800 * bit mppM + 0x20000 * bit mprv)

/-! ## Start and power (R267, R285, R295) -/

/-- The state a core starts in, at an address. -/
def Core.start (x : Core) (addr : Word) : Core :=
  { running := true, halted := x.halted, triggers := x.triggers, wrongPath := x.wrongPath, pc := addr &&& ~~~1#32 }

/-- The core in reset. -/
def Core.off (x : Core) : Core := { halted := false, triggers := x.triggers, wrongPath := x.wrongPath }

/-- Start core `n` at CC_BOOT_ADDRn; one whose boot address is 0 stays in reset (R267). -/
def State.startCore (s : State) (n : Nat) : State :=
  let a := s.reg (Reg.CC_BOOT_ADDR n)
  s.setCore n (if a = 0 then (s.core n).off else (s.core n).start a)

/-- Release the four control cores. -/
def State.startCluster (s : State) : State := (List.range 4).foldl State.startCore s

/-- The control cluster powers down: cluster SRAM, caches and core state are lost (Table 16.1). -/
def State.clusterDown (s : State) : State :=
  let s := (List.range 4).foldl (fun s n => s.setCore n (s.core n).off) s
  { s with mem := Sparse.clear 0x60000000 0x60100000 s.mem, sramEcc := [], heldStores := [] }

/-- Is the control cluster powered: not in Skim, Doze or Off (Table 16.1), or again from step 3 of a Skim exit? -/
def State.clusterOn (s : State) : Bool :=
  decide (s.fld Fld.PW_STATE_STATE < 2) || (s.fld Fld.PW_STATE_STATE == 2 && decide (3 ≤ s.pw.exitStep))

/-- Drop the I-cache lines of the banks named by `p` from every core (R285). -/
def State.dropBankLines (s : State) (p : Nat → Bool) : State :=
  { s with cores := s.cores.map (fun (x : Core) => { x with
      icache := x.icache.filter (fun l => !(inScratch (32 * l.1) && p (bankOf (32 * l.1 / 512)))) }) }

/-! ## Resets and held stores (R267, R288) -/

/-- Are the core's accesses performed: no load outstanding, both buffers empty, no store to the spill window waiting for a
sweep to end (R226), and for the management core no store to a held granule (R285, R288)? -/
def State.drained (s : State) (n : Nat) : Bool :=
  (s.core n).loads.isEmpty && (s.core n).stores.isEmpty && (s.core n).nts.isEmpty &&
    !s.sp.narrowWrites.any (fun w => w.1 == some n) && !(n == 4 && s.heldStores.any (fun h => h.1 == .mgmt))

/-- Stores to a granule that a core held back are performed, those that no other hold stops (R288). -/
def State.performHeld (s : State) : State :=
  let held := s.heldStores
  held.foldl (fun (s : State) (h : Requester × Nat × List Byte) =>
    if s.granuleHeld none h.2.1 h.2.2.length then { s with heldStores := s.heldStores ++ [h] }
    else s.storeSeen none h.2.1 h.2.2) { s with heldStores := [] }

/-- The hold of core `n` on a granule ends. -/
def State.endHold (s : State) (n : Nat) : State := (s.setCore n { s.core n with holding := false }).performHeld

/-- A reset that waits takes place once the core's accesses are performed (R267). -/
def State.settleReset (s : State) (n : Nat) : State :=
  if (s.core n).resetDue && s.drained n then (s.endHold n).startCore n else s

/-! ## Interrupts (R265) -/

/-- CC_MTIME. -/
def State.mtime (s : State) : Nat := (s.reg Reg.CC_MTIME_LO).toNat + 2 ^ 32 * (s.reg Reg.CC_MTIME_HI).toNat

/-- CC_MTIMECMPn. -/
def State.mtimecmp (s : State) (n : Nat) : Nat :=
  (s.reg (Reg.CC_MTIMECMP_LO n)).toNat + 2 ^ 32 * (s.reg (Reg.CC_MTIMECMP_HI n)).toNat

/-- The CC_IRQ_PEND bits delivered to core `n`: bits 0 to 3 only to their own core. -/
def irqMask (n : Nat) : Word := word (0xFFF0 + 2 ^ n)

/-- mip of a core: MEIP, MTIP and MSIP; the management core has no such lines. -/
def State.mip (s : State) (n : Nat) : Word :=
  if n < 4 then
    word (0x800 * bit (s.reg Reg.CC_IRQ_PEND &&& s.reg (Reg.CC_IRQ_EN n) &&& irqMask n != 0) +
      0x80 * bit (decide (s.mtimecmp n ≤ s.mtime)) + 8 * bit (tstBit (s.reg Reg.CC_MSIP) n))
  else 0

/-- The interrupts both pending and enabled in mie. -/
def State.irqReady (s : State) (n : Nat) : Word := s.mip n &&& (s.core n).csr Csr.mie

/-- Is the core stalled in WFI: none is both pending and enabled? -/
def State.wfiStalled (s : State) (n : Nat) : Bool := (s.core n).wfi && s.irqReady n == 0

/-- A stall of WFI has ended where an interrupt is pending and enabled, whatever becomes of it: applied before a source is
taken away (R265). -/
def State.wakeWfi (s : State) : State :=
  (List.range 4).foldl (fun (s : State) n =>
    if (s.core n).wfi && s.irqReady n != 0 then s.setCore n { s.core n with wfi := false } else s) s

/-- CC_MTIME counts one 40 ns tick of the reference, and mcycle the 40 cycles of D3 in it. -/
def State.tickCores (s : State) : State :=
  let t := (s.mtime + 1) % 2 ^ 64
  let s := (s.setReg Reg.CC_MTIME_LO (word t)).setReg Reg.CC_MTIME_HI (word (t / 2 ^ 32))
  if s.clusterOn then
    { s with cores := Vector.ofFn (fun (i : Fin 5) =>
        let x := vget {} s.cores i.val
        if i.val < 4 && x.running && !tstBit (x.csr Csr.mcountinhibit) 0 then { x with mcycle := x.mcycle + 40 } else x) }
  else s

end Sys2Proof.Machine
end

