-- ==== Sys2Proof/Machine/Numeric.lean ====
section
/-! DEFINITION. Element formats and arithmetic (chapter 8): every result is the exact mathematical
result, rounded once to nearest even (R238); the element functions of the compute op classes. -/

namespace Sys2Proof.Machine

/-- The format codes of Table 6.9. Code 7 is FP32. -/
inductive Fmt where
  | int8 | int4 | int16 | e4m3 | e5m2 | bf16 | fp16 | fp32
deriving DecidableEq, Repr

/-- The format a 3-bit code names (Table 6.9). -/
def fmtOf (code : Nat) : Fmt :=
  match code with
  | 0 => .int8 | 1 => .int4 | 2 => .int16 | 3 => .e4m3
  | 4 => .e5m2 | 5 => .bf16 | 6 => .fp16 | _ => .fp32

/-- The width of an element in bits (Table 6.9). -/
def fmtWidth : Fmt → Nat
  | .int8 => 8 | .int4 => 4 | .int16 => 16 | .e4m3 => 8
  | .e5m2 => 8 | .bf16 => 16 | .fp16 => 16 | .fp32 => 32

/-- The elements of a row (Table 6.9). -/
def fmtPerRow (f : Fmt) : Nat := 4096 / fmtWidth f

/-- Is the format an integer format? -/
def fmtIsInt : Fmt → Bool
  | .int8 => true | .int4 => true | .int16 => true | _ => false

/-- Mantissa bits of a floating format (Table 8.2). -/
def fmtMant : Fmt → Nat
  | .e4m3 => 3 | .e5m2 => 2 | .bf16 => 7 | .fp16 => 10 | _ => 23

/-- Exponent bits of a floating format (Table 8.2). -/
def fmtExp : Fmt → Nat
  | .e4m3 => 4 | .e5m2 => 5 | .bf16 => 8 | .fp16 => 5 | _ => 8

/-- Exponent bias of a floating format (Table 8.2). -/
def fmtBias : Fmt → Nat
  | .e4m3 => 7 | .e5m2 => 15 | .bf16 => 127 | .fp16 => 15 | _ => 127

/-- The largest finite code of a floating format (Table 8.2). -/
def fmtMaxCode : Fmt → Nat
  | .e4m3 => 0x7E | .e5m2 => 0x7B | .bf16 => 0x7F7F | .fp16 => 0x7BFF | _ => 0x7F7FFFFF

/-- The canonical NaN of a floating format (Table 8.2). -/
def fmtNan : Fmt → Nat
  | .e4m3 => 0x7F | .e5m2 => 0x7E | .bf16 => 0x7FC0 | .fp16 => 0x7E00 | _ => 0x7FC00000

/-- The code of +∞; E4M3 has none and takes its largest finite value (R241). -/
def fmtInf : Fmt → Nat
  | .e4m3 => 0x7E | .e5m2 => 0x7C | .bf16 => 0x7F80 | .fp16 => 0x7C00 | _ => 0x7F800000

/-- The sign bit of a floating format. -/
def fmtSign (f : Fmt) : Nat := 2 ^ (fmtWidth f - 1)

/-- A numeric value: a NaN, an infinity, or a sign and a magnitude in units of 2^-298. Every operand of
every format, and every exact product of two, is a whole number of units. -/
inductive Val where
  | nan
  | inf (neg : Bool)
  | fin (neg : Bool) (mag : Nat)
deriving DecidableEq, Repr

/-- log2 of the number of units in 1, and in the smallest FP32 subnormal. -/
def unitExp : Nat := 298
def opExp : Nat := 149

/-- The value of a floating code (R237, R239). -/
def decodeF (f : Fmt) (code : Nat) : Val :=
  let m := fmtMant f
  let neg := decide (fmtSign f ≤ code)
  let body := code % fmtSign f
  let e := body / 2 ^ m
  let mant := body % 2 ^ m
  if f = .e4m3 ∧ body = 0x7F then .nan
  else if f ≠ .e4m3 ∧ e = 2 ^ fmtExp f - 1 then (if mant = 0 then .inf neg else .nan)
  else if e = 0 then .fin neg (mant * 2 ^ (unitExp + 1 - fmtBias f - m))
  else .fin neg ((2 ^ m + mant) * 2 ^ (unitExp + e - fmtBias f - m))

/-- The value of an integer code of `w` bits (Table 8.1). -/
def decodeI (w code : Nat) : Int := if 2 ^ (w - 1) ≤ code then (code : Int) - 2 ^ w else code

/-- An integer as a value. -/
def valOfInt (i : Int) : Val := .fin (decide (i < 0)) (i.natAbs * 2 ^ unitExp)

/-- `n` divided by 2^k, rounded to nearest, ties to even, and whether that was inexact (R238). -/
def rne (n k : Nat) : Nat × Bool :=
  let q := n / 2 ^ k
  let r := n % 2 ^ k
  let half := 2 ^ k / 2
  let up := decide (0 < r) && (decide (half < r) || (decide (r = half) && decide (q % 2 = 1)))
  (if up then q + 1 else q, decide (r ≠ 0))

/-- The code of a magnitude of whole mantissa quanta at or above the smallest normal. -/
def normalCode (f : Fmt) (u : Nat) : Nat :=
  let m := fmtMant f
  let k := Nat.log2 u
  (k + fmtBias f - unitExp) * 2 ^ m + (u / 2 ^ (k - m) - 2 ^ m)

/-- A non-zero magnitude rounded once to a floating format: the code without sign, and the flags
(R238, R240, R241). -/
def roundMag (f : Fmt) (ftz : Bool) (n : Nat) : Nat × NumFlags :=
  let m := fmtMant f
  let k := Nat.log2 n
  let shift := k - m
  let (r, inexact) := rne n shift
  let u := r * 2 ^ shift
  let minNormal := 2 ^ (unitExp + 1 - fmtBias f)
  let maxFinite := match decodeF f (fmtMaxCode f) with
    | .fin _ x => x
    | _ => 0
  if u < minNormal then
    if ftz then (0, ufNx)
    else
      let (r2, inexact2) := rne n (unitExp + 1 - fmtBias f - m)
      (r2, if inexact2 then ufNx else noFlags)
  else if maxFinite < u then (fmtInf f, ofNx)
  else (normalCode f u, if inexact then onlyNx else noFlags)

/-- A value rounded once to a floating format, as code and flags. A NaN gives the canonical NaN, an
infinity written to E4M3 gives ±448 with OF alone (R241, R242). -/
def roundF (f : Fmt) (ftz : Bool) (v : Val) : Nat × NumFlags :=
  match v with
  | .nan => (fmtNan f, noFlags)
  | .inf neg => (fmtInf f + bit neg * fmtSign f, if f = .e4m3 then onlyOf else noFlags)
  | .fin neg mag =>
    if mag = 0 then (bit neg * fmtSign f, noFlags)
    else
      let (c, fl) := roundMag f ftz mag
      (c + bit neg * fmtSign f, fl)

/-- An integer clamped to `w` bits, as code and flags (R242). -/
def clampI (w : Nat) (i : Int) : Nat × NumFlags :=
  let lo : Int := -(2 ^ (w - 1) : Int)
  let hi : Int := 2 ^ (w - 1) - 1
  if i < lo then ((lo % 2 ^ w).toNat, onlySat)
  else if hi < i then (hi.toNat, onlySat)
  else ((i % 2 ^ w).toNat, noFlags)

/-- The negation of a value. -/
def negV : Val → Val
  | .nan => .nan
  | .inf neg => .inf (!neg)
  | .fin neg m => .fin (!neg) m

/-- Is the value a NaN? -/
def isNan : Val → Bool
  | .nan => true
  | _ => false

/-- Is the value an infinity of sign `neg`? -/
def isInf (neg : Bool) : Val → Bool
  | .inf n => n == neg
  | _ => false

/-- A finite value as a signed number of units. -/
def unitsOf : Val → Int
  | .fin neg m => if neg then -(m : Int) else m
  | _ => 0

/-- Is the value −0? -/
def isNegZero : Val → Bool
  | .fin neg m => neg && decide (m = 0)
  | _ => false

/-- The exact product of two values; 0 × ∞ is invalid and sets NV; a NaN operand sets nothing (R242). -/
def mulV (a b : Val) : Val × NumFlags :=
  match a, b with
  | .nan, _ => (.nan, noFlags)
  | _, .nan => (.nan, noFlags)
  | .inf n1, .inf n2 => (.inf (n1 != n2), noFlags)
  | .inf n1, .fin n2 m => if m = 0 then (.nan, onlyNv) else (.inf (n1 != n2), noFlags)
  | .fin n1 m, .inf n2 => if m = 0 then (.nan, onlyNv) else (.inf (n1 != n2), noFlags)
  | .fin n1 m1, .fin n2 m2 => (.fin (n1 != n2) (m1 * m2 / 2 ^ unitExp), noFlags)

/-- The exact sum of a list of terms, some of which may carry the flags of an invalid product. A NaN
input gives NaN and no flag of its own; opposite infinities set NV; a zero sum is +0 unless every term
is −0 (R242). -/
def sumV (ts : List (Val × NumFlags)) : Val × NumFlags :=
  let fl := ts.foldl (fun acc t => orFlags acc t.2) noFlags
  let vs := ts.map (·.1)
  if vs.any (isInf true) && vs.any (isInf false) then (.nan, orFlags fl onlyNv)
  else if vs.any isNan then (.nan, fl)
  else if vs.any (isInf true) then (.inf true, fl)
  else if vs.any (isInf false) then (.inf false, fl)
  else
    let n := vs.foldl (fun acc v => acc + unitsOf v) (0 : Int)
    if n = 0 then (.fin (vs.all isNegZero) 0, fl)
    else (.fin (decide (n < 0)) n.natAbs, fl)

/-- A pair of a value and flags, rounded once to a floating format. -/
def finishF (f : Fmt) (ftz : Bool) (v : Val × NumFlags) : Nat × NumFlags :=
  let (c, fl) := roundF f ftz v.1
  (c, orFlags v.2 fl)

/-- A value without flags. -/
def plain (v : Val) : Val × NumFlags := (v, noFlags)

/-- A key that orders non-NaN values, −0 below +0 (R242). -/
def orderKey : Val → Int
  | .nan => 0
  | .inf neg => if neg then -(2 ^ 1000 : Int) else 2 ^ 1000
  | .fin neg m => if neg then -(2 * (m : Int) + 1) else 2 * m

/-- The greater of two values; a NaN operand gives NaN. -/
def maxV (a b : Val) : Val :=
  if isNan a || isNan b then .nan else if orderKey a < orderKey b then b else a

/-- The lesser of two values; a NaN operand gives NaN. -/
def minV (a b : Val) : Val :=
  if isNan a || isNan b then .nan else if orderKey b < orderKey a then b else a

/-! ## Elements of a row (R236) -/

/-- The `n` elements of `w` bits of a number, element 0 in the low bits. -/
def unpack (w : Nat) : Nat → Nat → List Nat
  | 0, _ => []
  | n + 1, x => x % 2 ^ w :: unpack w n (x / 2 ^ w)

/-- The number whose `w`-bit elements are the listed codes, element 0 in the low bits. -/
def pack (w : Nat) (es : List Nat) : Nat := es.foldr (fun e acc => e % 2 ^ w + 2 ^ w * acc) 0

/-- The elements of a row in a format. -/
def rowElems (f : Fmt) (r : Row) : List Nat := unpack (fmtWidth f) (fmtPerRow f) r.toNat

/-- Element `i`, of `w` bits, of a row. -/
def rowElem (w i : Nat) (r : Row) : Nat := r.toNat / 2 ^ (w * i) % 2 ^ w

/-- A row holding the listed elements from element 0; the rest is zero. -/
def rowOf (w : Nat) (es : List Nat) : Row := BitVec.ofNat 4096 (pack w es)

/-- Collect element results into codes and the union of their flags. -/
def collect (rs : List (Nat × NumFlags)) : List Nat × NumFlags :=
  (rs.map (·.1), rs.foldl (fun acc r => orFlags acc r.2) noFlags)

/-! ## VEC (R248 to R250) -/

/-- The elementwise VEC ops. -/
inductive VecOp where
  | add | sub | mul | fma | max | min
deriving DecidableEq, Repr

/-- One element of ADD, SUB, MUL, FMA, MAX or MIN, in format `f`: `d` is VD's old element. -/
def vecElem (op : VecOp) (f : Fmt) (ftz : Bool) (d a b : Nat) : Nat × NumFlags :=
  if fmtIsInt f then
    let w := fmtWidth f
    let x := decodeI w a
    let y := decodeI w b
    clampI w (match op with
      | .add => x + y
      | .sub => x - y
      | .mul => x * y
      | .fma => decodeI w d + x * y
      | .max => if x < y then y else x
      | .min => if y < x then y else x)
  else
    let x := decodeF f a
    let y := decodeF f b
    finishF f ftz (match op with
      | .add => sumV [plain x, plain y]
      | .sub => sumV [plain x, plain (negV y)]
      | .mul => mulV x y
      | .fma => sumV [plain (decodeF f d), mulV x y]
      | .max => plain (maxV x y)
      | .min => plain (minV x y))

/-- One vector op over a row. -/
def vecRow (op : VecOp) (f : Fmt) (ftz : Bool) (d a b : Row) : Row × NumFlags :=
  let es := List.zip (rowElems f d) (List.zip (rowElems f a) (rowElems f b))
  let (cs, fl) := collect (es.map (fun e => vecElem op f ftz e.1 e.2.1 e.2.2))
  (rowOf (fmtWidth f) cs, fl)

/-- SCL: every element of VA by element 0 of VB (R248). -/
def sclRow (f : Fmt) (ftz : Bool) (a b : Row) : Row × NumFlags :=
  let k := rowElem (fmtWidth f) 0 b
  let (cs, fl) := collect ((rowElems f a).map (fun e => vecElem .mul f ftz 0 e k))
  (rowOf (fmtWidth f) cs, fl)

/-- Round a quotient `n / 256` to the nearest integer, ties to even. -/
def rneDiv256 (n : Int) : Int × Bool :=
  let (q, inexact) := rne n.natAbs 8
  (if n < 0 then -(q : Int) else q, inexact)

/-- Entry `h` of the LUT (R249). -/
def lutEntry (lut : Row) (h : Nat) : Nat := rowElem 16 (h % 256) lut

/-- An exact value divided by 256. Every LUT value is a multiple of 256 units. -/
def div256 : Val → Val
  | .fin neg m => .fin neg (m / 256)
  | v => v

/-- One element of LUT (R249). -/
def lutElem (lut : Row) (f f2 : Fmt) (ftz : Bool) (code : Nat) : Nat × NumFlags :=
  let w2 := fmtWidth f2
  let entry := fun h => lutEntry lut h % 2 ^ w2
  if fmtWidth f = 8 then
    if fmtIsInt f2 then (entry code, noFlags) else finishF f2 ftz (plain (decodeF f2 (entry code)))
  else
    let h := code / 256
    let l := code % 256
    if fmtIsInt f2 then
      let e0 := decodeI w2 (entry h)
      let e1 := decodeI w2 (entry (h + 1))
      let (v, inexact) := rneDiv256 (e0 * 256 + (e1 - e0) * l)
      let (c, fl) := clampI w2 v
      (c, orFlags fl (if inexact && !fl.sat then onlyNx else noFlags))
    else
      let e0 := decodeF f2 (entry h)
      let e1 := decodeF f2 (entry (h + 1))
      let d := sumV [plain e1, plain (negV e0)]
      let p := mulV d.1 (valOfInt l)
      finishF f2 ftz (sumV [plain e0, (div256 p.1, orFlags d.2 p.2)])

/-- LUT over a row of FMT: the result elements in FMT2. -/
def lutElems (lut : Row) (f f2 : Fmt) (ftz : Bool) (es : List Nat) : List Nat × NumFlags :=
  collect (es.map (fun e => lutElem lut f f2 ftz e))

/-- A finite value rounded to the nearest integer, ties to even. -/
def valToInt (neg : Bool) (m : Nat) : Int × Bool :=
  let (q, inexact) := rne m unitExp
  (if neg then -(q : Int) else q, inexact)

/-- One element of CVT from FMT to FMT2 (R250, R242). -/
def cvtElem (f f2 : Fmt) (ftz : Bool) (code : Nat) : Nat × NumFlags :=
  if f = .fp32 ∧ f2 = .fp32 then finishF .fp32 ftz (plain (valOfInt (decodeI 32 code)))
  else if fmtIsInt f then
    if fmtIsInt f2 then clampI (fmtWidth f2) (decodeI (fmtWidth f) code)
    else finishF f2 ftz (plain (valOfInt (decodeI (fmtWidth f) code)))
  else if fmtIsInt f2 then
    match decodeF f code with
    | .nan => (0, onlyNv)
    | .inf neg => ((clampI (fmtWidth f2) (if neg then -(2 ^ 40 : Int) else 2 ^ 40)).1, onlyNv)
    | .fin neg m =>
      let (i, inexact) := valToInt neg m
      let (c, fl) := clampI (fmtWidth f2) i
      (c, if fl.sat then fl else if inexact then onlyNx else noFlags)
  else finishF f2 ftz (plain (decodeF f code))

/-! ## RED (R251) -/

/-- The RED ops. -/
inductive RedOp where
  | sum | max | min | argmax | sumsq
deriving DecidableEq, Repr

/-- The index of the first element whose key is greatest. -/
def argmaxI : List Int → Nat → Nat → Int → Nat
  | [], _, best, _ => best
  | x :: xs, i, best, top => if top < x then argmaxI xs (i + 1) i x else argmaxI xs (i + 1) best top

/-- The key ARGMAX orders by: NaN above every number (R251). −0 and +0 are equal as numbers. -/
def argKey : Val → Int
  | .nan => 2 ^ 1001
  | .inf neg => if neg then -(2 ^ 1000 : Int) else 2 ^ 1000
  | v => unitsOf v

/-- The 32-bit result of one group (R251). -/
def redGroup (op : RedOp) (f : Fmt) (ftz : Bool) (es : List Nat) : Nat × NumFlags :=
  if fmtIsInt f then
    let xs := es.map (decodeI (fmtWidth f))
    let x0 := xs.headD 0
    match op with
    | .sum => clampI 32 (xs.foldl (· + ·) 0)
    | .sumsq => clampI 32 (xs.foldl (fun acc x => acc + x * x) 0)
    | .max => clampI 32 (xs.foldl (fun acc x => if acc < x then x else acc) x0)
    | .min => clampI 32 (xs.foldl (fun acc x => if x < acc then x else acc) x0)
    | .argmax => (argmaxI xs 0 0 (x0 - 1), noFlags)
  else
    let vs := es.map (decodeF f)
    let v0 := vs.headD (.fin false 0)
    match op with
    | .sum => finishF .fp32 ftz (sumV (vs.map plain))
    | .sumsq => finishF .fp32 ftz (sumV (vs.map (fun v => mulV v v)))
    | .max => finishF .fp32 ftz (plain (vs.foldl maxV v0))
    | .min => finishF .fp32 ftz (plain (vs.foldl minV v0))
    | .argmax => (argmaxI (vs.map argKey) 0 0 (argKey v0 - 1), noFlags)

/-- The list cut into groups of `n`, `fuel` groups at most. -/
def groups (n : Nat) : Nat → List Nat → List (List Nat)
  | 0, _ => []
  | fuel + 1, xs => xs.take n :: groups n fuel (xs.drop n)

/-- RED over a row: one 32-bit result per group of 2^g elements (Table 6.14). -/
def redRow (op : RedOp) (f : Fmt) (ftz : Bool) (g : Nat) (a : Row) : List Nat × NumFlags :=
  let n := 2 ^ g
  collect ((groups n (fmtPerRow f / n) (rowElems f a)).map (redGroup op f ftz))

/-! ## MMA (R245 to R247) -/

/-- K of an MM format (Table 6.12); 0 where MM does not take the format. -/
def mmK : Fmt → Nat
  | .int8 => 32 | .e4m3 => 32 | .e5m2 => 32 | .int4 => 64 | .bf16 => 16 | .fp16 => 16 | _ => 0

/-- One accumulator element of MM: the exact sum of the accumulator and K products, rounded once to FP32
or clamped to INT32 (R245). -/
def mmElem (f : Fmt) (ftz : Bool) (acc : Nat) (xs ws : List Nat) : Nat × NumFlags :=
  if fmtIsInt f then
    let w := fmtWidth f
    clampI 32 ((List.zip xs ws).foldl (fun a p => a + decodeI w p.1 * decodeI w p.2) (decodeI 32 acc))
  else
    finishF .fp32 ftz (sumV (plain (decodeF .fp32 acc) ::
      (List.zip xs ws).map (fun p => mulV (decodeF f p.1) (decodeF f p.2))))

/-- Elements [n·i, n·i + n) of a list. -/
def chunk (n i : Nat) (xs : List Nat) : List Nat := (xs.drop (n * i)).take n

/-- MM over the whole accumulator: X is the two X rows' elements, W the two W rows' elements; element
(i, j) takes X elements i × K + k and W elements j × K + k (Table 6.12). -/
def mmAll (f : Fmt) (ftz : Bool) (acc : List Nat) (x w : List Nat) : List Nat × NumFlags :=
  let k := mmK f
  collect ((List.range 1024).map (fun ij =>
    mmElem f ftz (acc.getD ij 0) (chunk k (ij / 32) x) (chunk k (ij % 32) w)))

/-- One element of DRAIN (R247): OFMT 0 is the 32-bit value, FP32 subnormals flushed under FTZ; OFMT 1
and 2 round to BF16 and FP16. -/
def drainElem (isFloat : Bool) (ofmt : Nat) (ftz : Bool) (acc : Nat) : Nat × NumFlags :=
  if ofmt = 0 then
    if isFloat && ftz && decide (0 < acc % 2 ^ 31) && decide (acc % 2 ^ 31 < 2 ^ 23) then
      (acc / 2 ^ 31 * 2 ^ 31, ufNx)
    else (acc, noFlags)
  else finishF (if ofmt = 1 then .bf16 else .fp16) ftz (plain (decodeF .fp32 acc))

/-! ## TMASK (R252) -/

/-- The fill value of TMASK.FILL (Table 8.5). -/
def fillCode : Fmt → Nat
  | .int8 => 0x80 | .int4 => 0 | .int16 => 0x8000 | .e4m3 => 0xFE | .e5m2 => 0xFC
  | .bf16 => 0xFF80 | .fp16 => 0xFC00 | .fp32 => 0xFF800000

/-- The 256 scores of one tree under its 32-byte mask: bit j of 16-bit word i keeps score (i, j)
(Table 6.16). -/
def maskTree (fill : Nat) (mask : Nat) (scores : List Nat) : List Nat :=
  (List.zip (List.range scores.length) scores).map (fun p =>
    if mask / 2 ^ p.1 % 2 = 1 then p.2 else fill)

end Sys2Proof.Machine
end

