-- ==== Sys2Proof/Machine/Operands.lean ====
section
/-! DEFINITION. The operand forms of tile ops: address registers and the windows of a relocation set, wide
reads and writes of rows, vector-register operands, the legality of a bundle, and the run of one op (R179
to R185, R199 to R214, R229). -/

namespace Sys2Proof.Machine

/-! ## Fields of an op -/

/-- Bits [hi:lo] of an op, with lo at least 8. -/
def opBits (b : TileOp) (hi lo : Nat) : Nat := b.fields.toNat / 2 ^ (lo - 8) % 2 ^ (hi - lo + 1)

/-- Bit `k` of an op. -/
def opBit (b : TileOp) (k : Nat) : Bool := b.fields.getLsbD (k - 8)

/-- The whole 56-bit op word. -/
def opWord (b : TileOp) (cls opc : Nat) : Nat := cls + 16 * opc + 256 * b.fields.toNat

/-- Bits [hi:lo] of a slot word. -/
def wBits (w hi lo : Nat) : Nat := w / 2 ^ lo % 2 ^ (hi - lo + 1)

/-! ## Legality (R180, R181, Tables 6.6 to 6.17, Table 8.4) -/

/-- The bits an op names, CLASS and OPC among them; none for a reserved class or OPC. -/
def opMask (cls opc : Nat) : Option Nat :=
  let span := fun hi lo => 2 ^ (hi + 1) - 2 ^ lo
  match cls, opc with
  | 0, 0 => some 0xFF
  | 0, 1 => some (0xFF + span 43 8)
  | 0, 2 => some (0xFF + span 31 8)
  | 0, 3 => some (0xFF + span 10 8 + span 27 12)
  | 0, 4 => some (0xFF + span 10 8 + span 23 12)
  | 0, 5 => some (0xFF + span 10 8 + span 29 12)
  | 0, 6 => some (0xFF + span 10 8 + span 29 12)
  | 0, 7 => some (0xFF + span 29 12)
  | 0, 8 => some (0xFF + span 8 8)
  | 0, 9 => some 0xFF
  | 1, 0 => some (0xFF + span 31 8)
  | 1, 1 => some (0xFF + span 26 8 + span 35 28)
  | 1, 2 => some (0xFF + span 16 8)
  | 1, 3 => some (0xFF + span 15 8 + span 17 17)
  | 2, 0 => some (0xFF + span 23 8)
  | 2, 1 => some (0xFF + span 11 8 + span 19 16 + span 22 21)
  | 3, n => if n ≤ 9 then some (0xFF + span 31 8) else none
  | 4, n => if n ≤ 4 then some (0xFF + span 17 8 + span 31 23) else none
  | 5, 0 => some (0xFF + span 36 8)
  | 6, n => if n ≤ 1 then some (0xFF + span 29 8) else none
  | 7, 0 => some (0xFF + span 27 8)
  | 7, 1 => some (0xFF + span 24 8)
  | _, _ => none

/-- The format and operand rules an op's own fields can break. -/
def opFormatOk (isC : Bool) (w : Nat) : Bool :=
  let opc := wBits w 7 4
  match wBits w 3 0 with
  | 2 => isC && (if opc = 0 then wBits w 20 18 != 2 && wBits w 20 18 != 7 else wBits w 19 18 != 3)
  | 3 =>
    let f := wBits w 25 23
    let f2 := wBits w 31 29
    if opc = 6 then f != 1 && f != 7 && f2 != 1 && f2 != 7
    else if opc = 7 then f == 0 && f2 == 0 && decide (16 ≤ wBits w 17 13)
    else if opc = 8 then true
    else f2 == 0
  | 4 => decide (2 ^ wBits w 31 28 ≤ fmtPerRow (fmtOf (wBits w 25 23)))
  | 6 => wBits w 22 20 != 1
  | 7 => if opc = 0 then wBits w 27 12 != 0 else wBits w 24 17 != 0 && wBits w 16 12 != 0
  | _ => true

/-- Is one op legal on a C-tile or a B-tile? -/
def opLegal (isC : Bool) (w : Nat) : Bool :=
  match opMask (wBits w 3 0) (wBits w 7 4) with
  | none => false
  | some m => (w ||| m) == m && opFormatOk isC w

/-- The unit of a class: 0 control, 1 memory, 2 compute (Table 6.7). -/
def opUnit (w : Nat) : Nat :=
  match wBits w 3 0 with
  | 0 => 0 | 1 => 1 | 5 => 1 | 7 => 0 | _ => 2

/-- The destination registers an op names: address register i as i, vector register j as 16 + j (R181). -/
def opDests (w : Nat) : List Nat :=
  let opc := wBits w 7 4
  let vd := fun v => if v < 16 then [16 + v] else [v - 16]
  match wBits w 3 0 with
  | 0 => if opc = 1 ∨ opc = 2 then [wBits w 11 8] else []
  | 1 => if opc = 2 then [16 + wBits w 15 12] else if opc = 3 then [wBits w 11 8] else [wBits w 15 12]
  | 2 => if opc = 1 then [wBits w 11 8] else []
  | 3 => if opc = 7 then [] else vd (wBits w 12 8)
  | 4 => vd (wBits w 12 8)
  | 5 => [wBits w 19 16]
  | 6 => [wBits w 19 16]
  | _ => []

/-- Is the op LOOP, BNZ, JUMP or END (R181)? -/
def opBranches (w : Nat) : Bool :=
  wBits w 3 0 == 0 && (wBits w 7 4 == 5 || wBits w 7 4 == 6 || wBits w 7 4 == 7 || wBits w 7 4 == 9)

/-- Is the bundle of these two ops legal (R180, R181)? -/
def bundleLegal (isC : Bool) (header w other : Nat) : Bool :=
  decide (header / 512 = 0) && opLegal isC w && opLegal isC other &&
    (w == 0 || other == 0 || opUnit w != opUnit other) &&
    (opDests w).all (fun d => !(opDests other).contains d) &&
    (decide (header % 256 = 0) || !(opBranches w || opBranches other))

/-! ## The run of one op -/

/-- An op as it runs: the state so far, its wide accesses so far, a fault with the code and the data row it
reports, a branch taken, and whether the op has to wait and is to be issued again. -/
structure OpRun where
  s : State
  acc : Nat := 0
  fault : Option (Nat × Nat) := none
  jump : Option Nat := none
  waits : Bool := false

/-- Go on unless a fault stands: the rows touched before it stand (R210). -/
def OpRun.andThen (o : OpRun) (f : OpRun → OpRun) : OpRun := if o.fault.isSome then o else f o

/-- Change the state of an op that runs. -/
def OpRun.mapState (o : OpRun) (f : State → State) : OpRun := { o with s := f o.s }

/-- Fault with a TF code. -/
def OpRun.fail (o : OpRun) (code addr : Nat) : OpRun := { o with fault := some (code, addr) }

/-- A failed wide access of tile `t` raises its SP code with the row it failed at, and a conflict is counted; of a tagged
task only SP_ERR_ADDR goes to zero (R214, R235). -/
def State.raiseTileSp (s : State) (t code errAddr : Nat) (tag : Bool) : State :=
  if tag then s.setReg Reg.SP_ERR_ADDR 0
  else
    let s := s.raiseSp code (.tile t) errAddr
    if code = 0x0401 then s.incSat Fld.SP_CONFLICT_CNT_COUNT 1 else s

/-- Fault with an SP code (R214, R235). -/
def OpRun.failSp (o : OpRun) (t code addr errAddr : Nat) : OpRun :=
  { o with s := o.s.raiseTileSp t code errAddr (o.s.tile t).tag, fault := some (code, addr) }

/-! ## Windows (R183, R210, Table 7.3) -/

/-- Where a task-relative row lies: a scratchpad row, or a row of the partition's spill area (R224). -/
inductive Loc where
  | row (key : Nat)
  | spill (row : Nat)
deriving DecidableEq, Repr

/-- The `k`-th row an op touches from an address register. -/
def relRow (a : Word) (k : Nat) : Nat := (bits a 18 0 + k) % 2 ^ 19

/-- A task-relative row as TF_FAULT_ADDR holds it: SPACE in [21:20] (Table 6.22). -/
def relAddr (a : Word) (k : Nat) : Nat := bits a 21 20 * 2 ^ 20 + relRow a k

/-- The absolute row that a task-relative one translates to, window or not, as SP_ERR_ADDR holds it (Table 7.12): what a
row outside its window reports (DEDUCED, log entry 17). -/
def State.absRow (s : State) (t : Nat) (a : Word) (k : Nat) : Nat :=
  let rel := (s.tile t).task.rel
  let r := relRow a k
  match bits a 21 20 with
  | 0 => (4096 * t + rel.nearBase + r) % 2 ^ 19
  | 1 => (4096 * (neighbour t (bits a 23 22)).getD 0 + rel.nbrBase + r) % 2 ^ 19
  | 2 => (if r < 2 ^ 18 then rel.taskBase + r else rel.partBase + (r - 2 ^ 18)) % 2 ^ 19 + 2 * 2 ^ 20
  | _ => (s.ringFirst + r) % 2 ^ 19 + 2 * 2 ^ 20

/-- Translate a task-relative row: the scratchpad row or spill row, or the code it fails with. -/
def State.locate (s : State) (t : Nat) (a : Word) (k : Nat) (write : Bool) : Except Nat Loc :=
  let task := (s.tile t).task
  let rel := task.rel
  let r := relRow a k
  match bits a 21 20 with
  | 0 => if r < rel.nearSize then .ok (.row (nearKey t (rel.nearBase + r))) else .error 0x0402
  | 1 =>
    if !write then .error 0x0302 else
    match neighbour t (bits a 23 22) with
    | none => .error 0x0302
    | some n =>
      if r < rel.nbrSize ∧ s.tilePart n = task.part + 1 then .ok (.row (nearKey n (rel.nbrBase + r)))
      else .error 0x0402
  | 2 =>
    if r < 2 ^ 18 then
      (if r < rel.taskSize then .ok (.row (farKey (rel.taskBase + r))) else .error 0x0402)
    else
      let q := r - 2 ^ 18
      if q < rel.partSize then .ok (.row (farKey (rel.partBase + q)))
      else if rel.spill ∧ q - rel.partSize < s.spFld (Fld.SP_SPILL_SIZE_ROWS task.part) then
        .ok (.spill (q - rel.partSize))
      else .error 0x0402
  | _ =>
    if write then .error 0x0302
    else if r < s.ringSlots * s.slotRows ∧ tstBit (s.pxReg Reg.PX_RING_READERS) task.part then
      .ok (.row (s.ringKey r))
    else .error 0x0402

/-! ## Wide accesses (R173, R200, R201, R205, R213, R229) -/

/-- Reach the bank of a row: power, mode, then the outcome of an overlap (Table 7.4). -/
def OpRun.reach (o : OpRun) (b : TileOp) (key addr : Nat) : OpRun :=
  let t := b.tile
  let n := o.acc
  let o := { o with acc := n + 1 }
  match o.s.wideCode key with
  | some c => o.failSp t c addr (keyCode key)
  | none => match b.clash.lookup n with
    | none => o
    | some u =>
      if u = .tile ∨ u = .narrow then o.failSp t 0x0401 addr (keyCode key)
      else if (o.s.tile t).tag then o
      else o.mapState (fun s => s.incSat Fld.SP_WAIT_CNT_COUNT 1)

/-- Set a tile's task tag (R17). -/
def State.tagTask (s : State) (t : Nat) : State := s.setTile t { s.tile t with tag := true }

/-- Read one row: a tagged row tags the task before anything is written (R20); a double-bit error
faults; single-bit errors of an untagged task are counted (R229). -/
def OpRun.readKey (o : OpRun) (b : TileOp) (key addr : Nat) : Row × OpRun :=
  let o := o.andThen (fun o => (o.reach b key addr).andThen (fun o =>
    let o := if o.s.tagged key then o.mapState (fun s => (s.noteParity (.tile b.tile) key).tagTask b.tile) else o
    match o.s.rowEcc key with
    | some .double => o.failSp b.tile 0x0408 addr (keyCode key)
    | some .single =>
      if (o.s.tile b.tile).tag then o
      else o.mapState (fun s => s.incSat Fld.SP_ECC_CNT_COUNT (s.rowSingles key))
    | none => o))
  (o.s.row key, o)

/-- Is the row a program row of a running task (R177)? -/
def State.isProgramRow (s : State) (key : Nat) : Bool :=
  if 0x200000 ≤ key then false
  else
    let t := (key - 0x100000) / 4096
    let x := s.tile t
    let first := x.task.rel.nearBase + x.task.progRow
    x.busy && decide (first ≤ key % 4096) && decide (key % 4096 < first + x.task.progRows)

/-- Note that a tile's near bank took a write of another requester than the tile (R217). -/
def State.noteRemote (s : State) (writer key : Nat) : State :=
  if 0x200000 ≤ key then s
  else
    let t := (key - 0x100000) / 4096
    if t = writer then s
    else
      let k := key % 4096 / 128
      let x := s.tile t
      if x.remote.contains k then s else s.setTile t { x with remote := x.remote ++ [k] }

/-- The landing of a row write by tile `t`: the row takes the tag (R14), and with SIG the counter of the
tile that owns the destination, or of the writer for a far one, is incremented (Table 6.11, R171). -/
def State.landRow (s : State) (t key : Nat) (r : Row) (tag : Bool) (sig : Option (Nat × Nat)) : State :=
  let s := (s.writeRow key r tag).noteRemote t key
  match sig with
  | none => s
  | some (owner, k) => s.incCounter owner k 1 tag

/-- Write one row now. -/
def OpRun.writeKey (o : OpRun) (b : TileOp) (key addr : Nat) (r : Row) (sig : Option (Nat × Nat)) : OpRun :=
  o.andThen (fun o =>
    if o.s.isProgramRow key then o.fail 0x0303 addr
    else (o.reach b key addr).andThen (fun o =>
      o.mapState (fun s => s.landRow b.tile key r (s.tile b.tile).tag sig)))

/-- A spill write is performed, and its counter incremented (R171, R225). -/
def State.performSpill (s : State) (w : SpillWrite) : State :=
  let s := { s with spillMem := Sparse.puts spillDefault (512 * w.row) (rowBytes w.data) s.spillMem }
  match w.sig with
  | none => s
  | some (owner, k) => s.incCounter owner k 1 false

/-- A write to a spill row (R225, R35): it enters the request table and is performed after the sweep, at once where none
runs on a port that is up; a tagged task's is discarded with DS_SPILL_TAGGED (DS_VIOL_ADDR 0: no far row of the address
map is named, log entry 40), and the task goes on. -/
def State.writeSpill (s : State) (t row : Nat) (r : Row) (sig : Option (Nat × Nat)) : State :=
  let x := s.tile t
  let w : SpillWrite := { row := s.spFld (Fld.SP_SPILL_BASE_ROW x.task.part) + row, data := r, tile := t, sig := sig,
                          waiting := decide (256 ≤ s.spillPending) }
  if x.tag then s.raiseDs 0x0104 (.tile t) 0
  else if s.flag Fld.SP_XS_STATUS_READY && s.sp.sweep.isNone && s.sp.writes.isEmpty then s.performSpill w
  else { s with sp := { s.sp with writes := s.sp.writes ++ [w] } }

/-- The counter a landed row increments: that of the tile owning a near destination, or the writer's. -/
def sigOwner (t key : Nat) : Nat := if 0x200000 ≤ key then t else (key - 0x100000) / 4096

/-- Fail at a task-relative row with the code of its translation. -/
def OpRun.failRel (o : OpRun) (t code : Nat) (a : Word) (k : Nat) : OpRun :=
  if code = 0x0402 then o.failSp t code (relAddr a k) (o.s.absRow t a k) else o.fail code (relAddr a k)

/-- Write a row at an address register. -/
def OpRun.write (o : OpRun) (b : TileOp) (a : Word) (k : Nat) (r : Row) (sig : Option Nat) : OpRun :=
  o.andThen (fun o =>
    match o.s.locate b.tile a k true with
    | .error c => o.failRel b.tile c a k
    | .ok (.row key) => o.writeKey b key (relAddr a k) r (sig.map (fun n => (sigOwner b.tile key, n)))
    | .ok (.spill row) => o.mapState (fun s => s.writeSpill b.tile row r (sig.map (fun n => (b.tile, n)))))

/-- Read a row at an address register; a spill row is readable only by COPY and GATH (R224). -/
def OpRun.read (o : OpRun) (b : TileOp) (a : Word) (k : Nat) : Row × OpRun :=
  if o.fault.isSome then (0, o)
  else match o.s.locate b.tile a k false with
    | .error c => (0, o.failRel b.tile c a k)
    | .ok (.row key) => o.readKey b key (relAddr a k)
    | .ok (.spill _) => (0, o.failRel b.tile 0x0402 a k)

/-! ## Address and vector registers (R183, R184) -/

/-- Address register `i` of a tile. -/
def State.aReg (s : State) (t i : Nat) : Word := vget 0 (s.tile t).a i

/-- Set an address register. -/
def State.setA (s : State) (t i : Nat) (v : Word) : State :=
  s.setTile t { s.tile t with a := vput (s.tile t).a i v }

/-- Add a signed number of rows to ROW, modulo 2^19; the other fields stand. -/
def addRow (a : Word) (n : Int) : Word := setBits a 18 0 (unsigned 19 (bits a 18 0 + n))

/-- Post-increment address register `i` by its STEP when `on` (R183). -/
def State.postInc (s : State) (t i : Nat) (on : Bool) : State :=
  if on then s.setA t i (addRow (s.aReg t i) (signed 8 (bits (s.aReg t i) 31 24))) else s

/-- Post-increment of a V operand that names a row (R184). -/
def State.postIncV (s : State) (t v : Nat) (on : Bool) : State := s.postInc t (v - 16) (on && decide (16 ≤ v))

/-- Read the `k`-th row of a V operand: vector register V(v + k), or row ROW + k of A(v − 16). The
registers after V15 go on at V0 (log entry 21). -/
def OpRun.readV (o : OpRun) (b : TileOp) (v k : Nat) : Row × OpRun :=
  if v < 16 then (vget 0 (o.s.tile b.tile).v ((v + k) % 16), o)
  else o.read b (o.s.aReg b.tile (v - 16)) k

/-- Write the `k`-th row of a V operand. -/
def OpRun.writeV (o : OpRun) (b : TileOp) (v k : Nat) (r : Row) : OpRun :=
  if v < 16 then
    o.andThen (fun o => o.mapState (fun s =>
      s.setTile b.tile { s.tile b.tile with v := vput (s.tile b.tile).v ((v + k) % 16) r }))
  else o.write b (o.s.aReg b.tile (v - 16)) k r none

/-- Read `n` consecutive rows through a reader. -/
def readRows (read : OpRun → Nat → Row × OpRun) : Nat → Nat → OpRun → List Row × OpRun
  | 0, _, o => ([], o)
  | n + 1, k, o =>
    let p := read o k
    if p.2.fault.isSome then ([], p.2)
    else
      let q := readRows read n (k + 1) p.2
      (p.1 :: q.1, q.2)

/-- Write consecutive rows through a writer. -/
def writeRows (write : OpRun → Nat → Row → OpRun) : Nat → List Row → OpRun → OpRun
  | _, [], o => o
  | k, r :: rs, o => if o.fault.isSome then o else writeRows write (k + 1) rs (write o k r)

/-- OR flags into a tile's sticky flags (R243). -/
def State.addFlags (s : State) (t : Nat) (f : NumFlags) : State :=
  s.setTile t { s.tile t with flags := orFlags (s.tile t).flags f }

/-! ## Issue (R179, R181, R182) -/

/-- The asynchronous ops of the tile's task still outstanding, by number (R182). -/
def State.outstanding (s : State) (t : Nat) : List Nat :=
  ((s.inFlight.filter (fun w => w.tile == t && !w.ended)).map (·.seq) ++
    (s.sp.requests.filter (fun r => r.tile == t && !r.blocking)).map (·.seq)).eraseDups

/-- Can the tile issue an op now: does its task run? One that cannot does nothing. -/
def State.canIssue (s : State) (b : TileOp) : Bool := decide (b.tile < 16) && (s.tile b.tile).run == .running

/-- The scratchpad row of the tile's next bundle (R177, R179). -/
def State.programRow (s : State) (t : Nat) : Nat :=
  nearKey t ((s.tile t).task.rel.nearBase + ((s.tile t).task.progRow + (s.tile t).pc / 32))

/-- The bundle at the program counter, as memory holds it: header in [15:0], slot X in [71:16], slot Y in [127:72]
(R179, Table 6.6). -/
def State.bundleAt (s : State) (t : Nat) : Bundle :=
  let w := (s.row (s.programRow t)).extractLsb' (128 * ((s.tile t).pc % 32)) 128
  { header := (w.extractLsb' 0 16).toNat, x := w.extractLsb' 16 56, y := w.extractLsb' 72 56,
    left := (w.extractLsb' 0 8).toNat }

/-- Fetch the tile's bundle, unless one runs: the program counter must lie in the program rows (TF_PC), and a tagged program
row tags the task (R177, R185). -/
def State.fetchBundle (s : State) (t : Nat) : OpRun :=
  let x := s.tile t
  let o : OpRun := { s := s }
  if x.bundle.isSome then o
  else if 32 * x.task.progRows ≤ x.pc then o.fail 0x0304 0
  else
    let p := o.readKey { tile := t } (s.programRow t) (x.task.progRow + x.pc / 32)
    let o := p.2.andThen (fun o => o.mapState (fun s => s.setTile t { s.tile t with bundle := some (s.bundleAt t) }))
    { o with acc := 0 }

/-- The bundle a tile runs. -/
def State.bundle (s : State) (t : Nat) : Bundle := (s.tile t).bundle.getD {}

/-- A slot of a bundle, and how far it has come; an all-zero slot is CTL.NOP and has nothing to do (R179). -/
def Bundle.slot (u : Bundle) (y : Bool) : Nat := (if y then u.y else u.x).toNat
def Bundle.run (u : Bundle) (y : Bool) : SlotRun := if y then u.runY else u.runX
def Bundle.over (u : Bundle) (y : Bool) : Bool := u.slot y == 0 || u.run y == .done
def Bundle.mark (u : Bundle) (y : Bool) (r : SlotRun) : Bundle := if y then { u with runY := r } else { u with runX := r }

/-- Both slots have completed. -/
def Bundle.complete (u : Bundle) : Bool := u.over false && u.over true

/-- Is the op SYNC.WAIT, which comes first in its bundle? -/
def opWaits (w : Nat) : Bool := wBits w 7 0 == 7

/-- Has the phase of a slot come (R181): a SYNC.WAIT at once; a memory or compute op after the other slot's SYNC.WAIT; a CTL
op or a SYNC.SIG after the other slot's op? -/
def Bundle.due (u : Bundle) (y : Bool) : Bool :=
  u.run y == .waiting &&
    (if opUnit (u.slot y) = 0 then opWaits (u.slot y) || u.over (!y) else !opWaits (u.slot (!y)) || u.over (!y))

/-- Is the command the op that a slot of the bundle holds, and has its phase come? -/
def Bundle.takes (u : Bundle) (b : TileOp) (cls opc : Nat) : Bool := u.slot b.y == opWord b cls opc && u.due b.y

/-- Does a fault of a slot wait: slot Y's, while slot X has a memory or compute op to run beside it, whose fault goes first
(R193)? A SYNC.WAIT comes before the other slot's op, and its fault does not wait. -/
def Bundle.faultWaits (u : Bundle) (y : Bool) : Bool :=
  y && opUnit (u.slot true) != 0 && opUnit (u.slot false) != 0 && !u.over false

/-- Does FENCE hold the bundle back: no op of it has begun, and an asynchronous op is outstanding (Table 6.6)? -/
def State.fenced (s : State) (t : Nat) : Bool :=
  !(s.bundle t).started && tstBit (word (s.bundle t).header) 8 && !(s.outstanding t).isEmpty

/-- Has an op of the tile entries that hold its completion: spilled rows of a synchronous op, or entries that have not
entered the request table (R182, R224)? -/
def State.opHeld (s : State) (t : Nat) : Bool :=
  s.sp.requests.any (fun r => r.tile == t && (r.blocking || r.waiting)) || s.sp.writes.any (fun w => w.tile == t && w.waiting)

/-- The end of a bundle: a fault of slot Y that waited for slot X ends the task; a bundle with repetitions left runs again;
else the program counter moves, and a debug halt takes hold (R181, R193, R257). -/
def State.endBundle (s : State) (t : Nat) (jump : Option Nat) : State :=
  let x := s.tile t
  match x.bundle with
  | none => s
  | some u =>
    if !x.busy || !u.complete then s
    else match u.fault with
      | some (code, addr) => s.tileFault t code addr
      | none =>
        if 0 < u.left then
          s.setTile t { x with bundle := some { u with left := u.left - 1, runX := .waiting, runY := .waiting } }
        else (s.setTile t { x with pc := jump.getD ((x.pc + 1) % 2 ^ 18), bundle := none }).holdTile t

/-- Issued ops of a tile complete once nothing holds them (R182, R224). -/
def State.settleTile (s : State) (t : Nat) : State :=
  let x := s.tile t
  match x.bundle with
  | none => s
  | some u =>
    if s.opHeld t || (u.runX != .issued && u.runY != .issued) then s
    else
      let u := if u.runX = .issued then { u with runX := .done } else u
      let u := if u.runY = .issued then { u with runY := .done } else u
      (s.setTile t { x with bundle := some u }).endBundle t none

/-- Issued ops of every tile. -/
def State.settleTiles (s : State) : State := (List.range 16).foldl State.settleTile s

/-- The end of an op: its fault ends the task, but a fault of slot Y waits while slot X has a memory or compute op to run,
whose fault goes first (R193); an op that waits leaves its bundle as it was; else the slot completes, or stays issued
while entries hold it. -/
def OpRun.finish (o : OpRun) (b : TileOp) : State :=
  let x := o.s.tile b.tile
  let u := o.s.bundle b.tile
  match o.fault with
  | some (code, addr) =>
    if u.faultWaits b.y then
      o.s.setTile b.tile { x with bundle := some { u.mark true .done with fault := some (code, addr) } }
    else o.s.tileFault b.tile code addr
  | none =>
    if o.waits || !x.busy then o.s
    else if o.s.opHeld b.tile then o.s.setTile b.tile { x with bundle := some (u.mark b.y .issued) }
    else (o.s.setTile b.tile { x with bundle := some (u.mark b.y .done) }).endBundle b.tile o.jump

/-- Run one op of class `cls` and OPC `opc`. The tile's bundle is fetched first, and an illegal one faults. A command that is
not an op of the bundle, or whose phase has not come, does nothing; one that FENCE holds waits. -/
def runOp (cls opc : Nat) (b : TileOp) (s : State) (body : OpRun → OpRun) : State :=
  if s.canIssue b then
    let o := s.fetchBundle b.tile
    let u := o.s.bundle b.tile
    if o.fault.isSome then o.finish { b with y := false }
    else if !bundleLegal (isCTile b.tile) u.header (u.slot false) (u.slot true) then
      (o.fail 0x0301 0).finish { b with y := false }
    else if !u.takes b cls opc then s
    else if o.s.fenced b.tile then o.s
    else (body (o.mapState (fun s => s.setTile b.tile { s.tile b.tile with bundle := some { u with started := true } }))).finish b
  else s

end Sys2Proof.Machine
end

