-- ==== Sys2Proof/Machine/Scratch.lean ====
section
/-! DEFINITION. The scratchpad block: the apply of its shadow set, bank power and scrubs, and the spill
sweep (R204 to R212, R217 to R226). -/

namespace Sys2Proof.Machine

/-! ## The shadow set (R207, Table 7.8) -/

/-- Is the address a shadowed SP register? -/
def isSpShadow (a : Nat) : Bool :=
  let o := a - 0x10040000
  decide (0x10040000 ≤ a) && decide (a < 0x10040800) &&
    ((decide (0x18 ≤ o) && decide (o < 0x30)) || (decide (0x40 ≤ o) && decide (o < 0x60)) ||
     (decide (0x80 ≤ o) && decide (o < 0x140)) || (decide (0x200 ≤ o) && decide (o < 0x220)) ||
     (decide (0x400 ≤ o) && decide (o % 32 < 0x1C)))

/-- The shadow copies as a set. -/
def State.spShadow (s : State) : List (Nat × Word) := s.regs.filter (fun e => isSpShadow e.1)

/-- Put a set into the shadow copies. -/
def State.putShadow (s : State) (m : List (Nat × Word)) : State :=
  { s with regs := m.foldl (fun r e => Sparse.put RegMap.resetValue e.1 e.2 r) (s.regs.filter (fun e => !isSpShadow e.1)) }

/-- Owner code of a far bank in a set (R204). -/
def ownerOf (m : List (Nat × Word)) (b : Nat) : Nat := setFldOf m (Fld.SP_FAR_OWNER_OWNER b)

/-- Partition code of a tile in a set. -/
def partOf (m : List (Nat × Word)) (t : Nat) : Nat := setFldOf m (Fld.SP_TILE_PART_PART t)

/-- Is near bank `k` of tile `t` declared in a set? -/
def nearDeclared (m : List (Nat × Word)) (t k : Nat) : Bool :=
  tstBit (Sparse.get RegMap.resetValue m (Reg.SP_NEAR_DECL t)) k

/-- Is a bank declared in a set (R204)? -/
def bankDeclared (m : List (Nat × Word)) (b : Nat) : Bool :=
  if b < 64 then ownerOf m b != 0 else nearDeclared m ((b - 64) / 32) ((b - 64) % 32)

/-- The partition code a bank belongs to in a set: 1 to 4, or 0 (R204). -/
def bankPartition (m : List (Nat × Word)) (b : Nat) : Nat :=
  if b < 64 then (if ownerOf m b ≤ 4 then ownerOf m b else 0)
  else if nearDeclared m ((b - 64) / 32) ((b - 64) % 32) then partOf m ((b - 64) / 32) else 0

/-- Does the set ask for the bank to be zero-initialised (R206)? -/
def bankZinit (m : List (Nat × Word)) (b : Nat) : Bool :=
  let p := bankBit Reg.SP_FAR_ZINIT Reg.SP_NEAR_ZINIT b
  tstBit (Sparse.get RegMap.resetValue m p.1) p.2

/-- A set with a field changed. -/
def putFld (m : List (Nat × Word)) (f : RegField) (v : Nat) : List (Nat × Word) :=
  Sparse.put RegMap.resetValue f.addr (setBits (Sparse.get RegMap.resetValue m f.addr) f.hi f.lo v) m

/-- A set with a register changed. -/
def putReg (m : List (Nat × Word)) (a : Nat) (v : Word) : List (Nat × Word) := Sparse.put RegMap.resetValue a v m

/-- Bit `i` of a register of a set changed. -/
def putBit (m : List (Nat × Word)) (p : Nat × Nat) (v : Bool) : List (Nat × Word) :=
  putReg m p.1 (setBits (Sparse.get RegMap.resetValue m p.1) p.2 p.2 (bit v))

/-- A bank declared to a partition in a set, with or without zero-initialisation (R204, R206). -/
def declareBank (m : List (Nat × Word)) (p b : Nat) (zinit : Bool) : List (Nat × Word) :=
  let m := putBit m (bankBit Reg.SP_FAR_ZINIT Reg.SP_NEAR_ZINIT b) zinit
  if b < 64 then putFld m (Fld.SP_FAR_OWNER_OWNER b) (p + 1)
  else putBit m (Reg.SP_NEAR_DECL ((b - 64) / 32), (b - 64) % 32) true

/-- A bank declared to nothing in a set. -/
def undeclareBank (m : List (Nat × Word)) (b : Nat) : List (Nat × Word) :=
  if b < 64 then putFld m (Fld.SP_FAR_OWNER_OWNER b) 0
  else putBit m (Reg.SP_NEAR_DECL ((b - 64) / 32), (b - 64) % 32) false

/-- Every bank of the device. -/
def allBanks : List Nat := List.range 576

/-- A relocation set of a set of registers (Table 7.10): VALID, PART and the windows. -/
def relOf (m : List (Nat × Word)) (n : Nat) : Bool × Nat × RelSet :=
  (setFldOf m (Fld.SP_RS_CTRL_VALID n) == 1, setFldOf m (Fld.SP_RS_CTRL_PART n),
   { nearBase := setFldOf m (Fld.SP_RS_NEAR_BASE n), nearSize := setFldOf m (Fld.SP_RS_NEAR_SIZE n)
     nbrBase := setFldOf m (Fld.SP_RS_NBR_BASE n), nbrSize := setFldOf m (Fld.SP_RS_NBR_SIZE n)
     taskBase := setFldOf m (Fld.SP_RS_TASK_BASE_ROW n), taskSize := setFldOf m (Fld.SP_RS_TASK_SIZE_ROWS n)
     partBase := setFldOf m (Fld.SP_RS_PART_BASE_ROW n), partSize := setFldOf m (Fld.SP_RS_PART_SIZE_ROWS n)
     spill := setFldOf m (Fld.SP_RS_CTRL_SPILL n) == 1 })

/-- The VALID relocation sets: index, partition and windows. -/
def validRels (m : List (Nat × Word)) : List (Nat × Nat × RelSet) :=
  (List.range 32).filterMap (fun n => let r := relOf m n; if r.1 then some (n, r.2.1, r.2.2) else none)

/-- The far banks rows [base, base + size) cover. -/
def banksCovered (base size : Nat) : List Nat :=
  (List.range 64).filter (fun b => decide (0 < size) && decide (8192 * b < base + size) && decide (base < 8192 * b + 8192))

/-- Do two windows of rows overlap? -/
def overlap (a n b m : Nat) : Bool := decide (0 < n) && decide (0 < m) && decide (a < b + m) && decide (b < a + n)

/-- The checks of one VALID relocation set (R211). -/
def relOk (m : List (Nat × Word)) (part : Nat) (r : RelSet) : Bool :=
  decide (r.nearBase + r.nearSize ≤ 4096) && decide (r.nbrBase + r.nbrSize ≤ 4096) &&
  decide (r.taskBase + r.taskSize ≤ 524288) && decide (r.partBase + r.partSize ≤ 524288) &&
  (banksCovered r.taskBase r.taskSize ++ banksCovered r.partBase r.partSize).all (fun b => ownerOf m b == part + 1)

/-- The overlap rule of R211: the task window of a VALID set against those of the other VALID sets, and against the
partition windows of all 32 sets. -/
def relsDisjoint (m : List (Nat × Word)) : Bool :=
  let rs := validRels m
  rs.all (fun a => rs.all (fun b =>
      !(decide (a.1 < b.1) && overlap a.2.2.taskBase a.2.2.taskSize b.2.2.taskBase b.2.2.taskSize)) &&
    (List.range 32).all (fun n =>
      let b := (relOf m n).2.2
      !overlap a.2.2.taskBase a.2.2.taskSize b.partBase b.partSize))

/-- The spill areas of a set: within the usable size and disjoint (R221). -/
def spillAreasOk (usable : Nat) (m : List (Nat × Word)) : Bool :=
  let area := fun p => (setFldOf m (Fld.SP_SPILL_BASE_ROW p), setFldOf m (Fld.SP_SPILL_SIZE_ROWS p))
  (List.range 4).all (fun p =>
    let a := area p
    decide (a.2 ≤ 131072) && (a.2 == 0 || decide (512 * (a.1 + a.2) ≤ usable)) &&
    (List.range p).all (fun q => !overlap a.1 a.2 (area q).1 (area q).2))

/-- Near banks for narrow use in force that the set gives to a partition without undeclaring them (R211). -/
def narrowKept (inForce m : List (Nat × Word)) : Bool :=
  (List.range 16).any (fun t => partOf inForce t == 0 && partOf m t != 0 &&
    (Sparse.get RegMap.resetValue inForce (Reg.SP_NEAR_DECL t) &&&
      Sparse.get RegMap.resetValue m (Reg.SP_NEAR_DECL t)) != 0)

/-- The apply check of R207, R211 and R221. -/
def State.spCheck (s : State) (m : List (Nat × Word)) : Bool :=
  (validRels m).all (fun r => relOk m r.2.1 r.2.2) && relsDisjoint m &&
  (List.range 64).all (fun b => (decide (ownerOf m b ≤ 4) || ownerOf m b == 8) &&
    !(s.ringBank b && decide (1 ≤ ownerOf m b) && decide (ownerOf m b ≤ 4))) &&
  (List.range 16).all (fun t => decide (partOf m t ≤ 4)) &&
  !narrowKept s.sp.inForce m && spillAreasOk s.spillBytes m

/-- Does a bank leave its partition when set `m` follows set `old` (R218)? -/
def bankLeaves (old m : List (Nat × Word)) (b : Nat) : Bool :=
  bankPartition old b != 0 && bankPartition m b != bankPartition old b

/-- Does set `m` newly declare a bank: one that was undeclared, or that comes to a partition it did not belong to (R206)? -/
def bankFresh (old m : List (Nat × Word)) (b : Nat) : Bool :=
  bankDeclared m b && (!bankDeclared old b || (bankPartition m b != 0 && bankPartition m b != bankPartition old b))

/-- Is the bank's power bit set? -/
def State.bankOn (s : State) (b : Nat) : Bool :=
  let p := bankBit Reg.SP_FAR_PWR Reg.SP_NEAR_PWR b
  tstBit (s.reg p.1) p.2

/-- The capture of a checked set: banks leaving a partition are to be scrubbed (R218), and newly declared banks that must
power up or be zero-initialised are to be made ready (R205, R206). -/
def State.spCapture (s : State) (m : List (Nat × Word)) : State :=
  let old := s.sp.inForce
  { s with sp := { s.sp with
      captured := some m
      toScrub := allBanks.filter (bankLeaves old m)
      toReady := allBanks.filter (fun b => bankFresh old m b && (!s.bankOn b || bankZinit m b)) } }

/-- A write of 1 to SP_CTRL.APPLY by a requester (R207): ignored while an apply waits; else checked and
captured, or refused with SP_GEOM. -/
def State.spApply (s : State) (r : Requester) : State :=
  if s.sp.captured.isSome then s
  else if s.spCheck s.spShadow then s.spCapture s.spShadow
  else (s.raiseSp 0x0406 r 0).pend 6

/-- The near banks a task maps into: its own-near window, and its neighbour window in each neighbour of its partition
(Table 7.3). -/
def State.nearMapped (s : State) (t : Nat) : List Nat :=
  let x := s.tile t
  let rel := x.task.rel
  let covered := fun (u base size : Nat) => (List.range 32).filterMap (fun k =>
    if 0 < size ∧ 128 * k < base + size ∧ base < 128 * k + 128 then some (64 + 32 * u + k) else none)
  covered t rel.nearBase rel.nearSize ++ (List.range 4).flatMap (fun d =>
    match neighbour t d with
    | none => []
    | some n => if s.tilePart n = x.task.part + 1 then covered n rel.nbrBase rel.nbrSize else [])

/-- Does a running task keep the set from taking effect: it holds a relocation set the set changes, or
maps into a bank whose owner changes (R207)? -/
def State.taskBlocks (s : State) (m : List (Nat × Word)) (t : Nat) : Bool :=
  let x := s.tile t
  let old := s.sp.inForce
  let rel := x.task.rel
  (x.busy || x.run == .scrubbing) &&
    (relOf m x.task.relIdx != relOf old x.task.relIdx ||
     (banksCovered rel.taskBase rel.taskSize ++ banksCovered rel.partBase rel.partSize).any
       (fun b => ownerOf m b != ownerOf old b) ||
     (s.nearMapped t).any (fun b => bankDeclared m b != bankDeclared old b || bankPartition m b != bankPartition old b) ||
     partOf m t != partOf old t)

/-- Power down a bank: its contents are lost (R205). -/
def State.powerDown (s : State) (b : Nat) : State :=
  (s.zeroRows (bankFirst b) (bankFirst b + bankRows b)).setBankPower b false

/-- Every bank is powered exactly when it is declared or the ring uses it (R205). -/
def State.settlePower (s : State) (m : List (Nat × Word)) : State :=
  allBanks.foldl (fun s b =>
    if bankDeclared m b || s.ringBank b || s.sp.ringRelease.contains b then s
    else if s.bankOn b then s.powerDown b else s) s

/-- Does a set change the mode or the owner of a bank? -/
def bankMoved (old m : List (Nat × Word)) (b : Nat) : Bool :=
  let mode := bankBit Reg.SP_BANKMODE_F Reg.SP_BANKMODE_N b
  tstBit (Sparse.get RegMap.resetValue m mode.1) mode.2 != tstBit (Sparse.get RegMap.resetValue old mode.1) mode.2 ||
    (if b < 64 then ownerOf m b != ownerOf old b
     else bankPartition m b != bankPartition old b || bankDeclared m b != bankDeclared old b)

/-- Does a declared bank come to a partition in set `m` without zero-initialisation, so that its contents are undefined (R206)?
A bank that was not declared has been zero-filled (R205). -/
def bankOpens (old m : List (Nat × Word)) (b : Nat) : Bool :=
  bankDeclared old b && bankFresh old m b && bankPartition m b != 0 && !bankZinit m b

/-- The rows of a bank take free contents (R206). -/
def State.openBank (s : State) (b : Nat) : State :=
  (List.range (bankRows b)).foldl (fun (s : State) k => s.openRowAt (bankFirst b + k) false) s

/-- Does a running task keep the captured set from taking effect (R207)? -/
def State.applyBlocked (s : State) (m : List (Nat × Word)) : Bool := (List.range 16).any (s.taskBlocks m)

/-- May the captured set take effect: no running task holds it up, every bank leaving a partition and every ring bank that it
declares has been scrubbed, with no row tagged since, and every newly declared bank is ready (R156, R207, R218)? -/
def State.applyReady (s : State) (m : List (Nat × Word)) : Bool :=
  s.sp.toScrub.isEmpty && s.sp.toReady.isEmpty && !s.sp.ringRelease.any (bankDeclared m) && !s.applyBlocked m &&
    !(s.tags.map (·.1) ++ s.sp.badParity).any (fun k => bankLeaves s.sp.inForce m (bankOf k))

/-- The change-set engine's SP apply that undeclares banks, once no apply waits (R341, R356, R361). -/
def State.undeclareDue (s : State) : State :=
  if s.pk.undeclare.isEmpty || s.sp.captured.isSome then s
  else
    let m := s.pk.undeclare.foldl undeclareBank s.spShadow
    let s := { s.putShadow m with pk := { s.pk with undeclare := [] } }
    if s.spCheck m then s.spCapture m else (s.raiseSp 0x0406 .mgmt 0).pend 6

/-- SP_APPLY_TAKE_EFFECT (R207): once nothing holds it up, the whole set takes effect at once, and a bank that changes owner
without zero-initialisation has undefined contents (R206); an apply of the change-set engine that waited for it then follows.
-/
def State.spTakeEffect (s : State) : State :=
  match s.sp.captured with
  | none => s
  | some m =>
    if s.applyReady m then
      let old := s.sp.inForce
      let s := { s with sp := { s.sp with inForce := m, captured := none } }
      let s := (allBanks.filter (bankOpens old m)).foldl State.openBank s
      let s := s.dropBankLines (fun b => bankMoved old m b || !s.bankPowered b)
      ((((s.settlePower m).setFlag Fld.SP_STATUS_BOOT_MAP false).pend 6).undeclareDue).ringStillOk
    else s

/-- Does the captured set, if any, have a property? -/
def State.captures (s : State) (p : List (Nat × Word) → Bool) : Bool := s.sp.captured.any p

/-- BANK_READY: a newly declared bank has powered up and been filled with zeros, and zero-initialised where asked (R205,
R206). A bank still declared, which changes partition, is zeroed once its scrub is done and no task holds the set up. -/
def State.bankReady (s : State) (b : Nat) : State :=
  if s.sp.toReady.contains b && !(bankDeclared s.sp.inForce b && (s.sp.toScrub.contains b || s.captures s.applyBlocked)) then
    let s := s.zeroRows (bankFirst b) (bankFirst b + bankRows b)
    { s with sp := { s.sp with toReady := s.sp.toReady.filter (· != b) } }.setBankPower b true
  else s

/-- Is the bank to be scrubbed now: PX released it (R156), or the captured set takes it from its partition and no task
holds the set up (R207, R218)? -/
def State.scrubDue (s : State) (b : Nat) : Bool :=
  s.sp.ringRelease.contains b || s.captures (fun m => bankLeaves s.sp.inForce m b && !s.applyBlocked m)

/-- BANK_RELEASE_SCRUB_DONE (R218, R156): every tagged row of the bank is scrubbed, with `waited` waits of the scrubber
(R214); a released ring bank that nothing declares then powers down. -/
def State.bankReleased (s : State) (b waited : Nat) : State :=
  if s.scrubDue b then
    let s := (s.scrubTagged (bankFirst b) (bankFirst b + bankRows b)).incSat Fld.SP_WAIT_CNT_COUNT waited
    let s := { s with sp := { s.sp with
      toScrub := s.sp.toScrub.filter (· != b), ringRelease := s.sp.ringRelease.filter (· != b) } }
    if bankDeclared s.sp.inForce b || s.captures (fun m => bankDeclared m b) || s.ringBank b ||
        s.flag Fld.SP_STATUS_BOOT_MAP then s
    else s.powerDown b
  else s

/-! ## The spill sweep (R222 to R226, R234) -/

/-- Spilled rows of a partition that the sweep reads: those of its loaded package, while its area exists
(R222), and in Skim only of a running partition (R223). -/
def State.sweepRows (s : State) (p : Nat) : Nat :=
  match (s.partition p).pkg with
  | none => 0
  | some k =>
    if s.spFld (Fld.SP_SPILL_SIZE_ROWS p) = 0 then 0
    else if s.px.skim ∧ s.fld (Fld.SV_STATUS_STATE p) ≠ svRunning then 0
    else k.spilledRows

/-- The first row at or after row `k` of partition `p` that a sweep reads; partition 4 when none is left. -/
def State.sweepAt (s : State) : Nat → Nat → Nat → Nat × Nat
  | 0, p, k => (p, k)
  | fuel + 1, p, k =>
    if 4 ≤ p then (4, 0) else if k < s.sweepRows p then (p, k) else s.sweepAt fuel (p + 1) 0

/-- May a sweep start: the port is up, and the device is not in Doze or Off, nor on the way out of Doze before it has
reloaded the packages (R223)? -/
def State.maySweep (s : State) : Bool :=
  s.flag Fld.SP_XS_STATUS_READY &&
    (decide (s.fld Fld.PW_STATE_STATE < 3) ||
     (s.fld Fld.PW_STATE_STATE == 3 && s.pw.exitStep == 6 && s.boot.toLoad.isEmpty))

/-- SPILL_SWEEP_START (R222): a start that falls while a sweep runs is late and counted. -/
def State.sweepStart (s : State) : State :=
  if !s.maySweep then s
  else if s.sp.sweep.isSome then
    { s with sp := { s.sp with sweepLate := true } }.incSat Fld.SP_SWEEP_LATE_COUNT 1
  else { s with sp := { s.sp with sweep := some (s.sweepAt 5 0 0) } }

/-- The spill engine serves one entry with a row: the destination takes the row and the tag of the entry, and the counter is
incremented (R224). A program row of a running task ends the entry's task with TF_PROG_WRITE (R177); a destination bank
that is not powered raises SP_POWER, one in narrow mode SP_MODE (R201), and for an entry with the tag SP_ERR_ADDR then
holds zero (R214). -/
def State.serveSpill (s : State) (data : Row) (r : SpillReq) : State :=
  let shown := if r.tag then 0 else keyCode r.dest
  if s.isProgramRow r.dest then s.tileFaultAt r.tile r.pc 0x0303 r.addr
  else match s.wideCode r.dest with
  | some c => s.raiseSp c .spill shown
  | none =>
    let s := (s.writeRow r.dest data r.tag).noteRemote 16 r.dest
    match r.sig with
    | none => s
    | some (owner, k) => s.incCounter owner k 1 r.tag

/-- The content of row `k` of a partition's spill area. -/
def State.spillRow (s : State) (p k : Nat) : Row :=
  BitVec.ofNat 4096 (le (Sparse.gets spillDefault s.spillMem (512 * (s.spFld (Fld.SP_SPILL_BASE_ROW p) + k)) 512) 0 512)

/-- Does an entry of the request table wait for row `k` of partition `p`? -/
def SpillReq.waitsFor (r : SpillReq) (p k : Nat) : Bool := r.part == p && r.row == k && !r.waiting

/-- SPILL_SWEEP_ROW: the sweep reads its next row. With `io` the read fails and each waiting entry fails its op with
SP_SPILL_IO (R234, R235). Otherwise the crossing FIFO takes the first `taken` entries, which are served; the rest wait for the
next sweep and are counted (R224). `waited` of the untagged ones waited at their banks (R214). -/
def State.sweepRow (s : State) (io : Bool) (taken waited : Nat) : State :=
  match s.sp.sweep with
  | none => s
  | some (p, k) =>
    if 4 ≤ p then s
    else
      let mine := s.sp.requests.filter (·.waitsFor p k)
      let rest := s.sp.requests.filter (fun r => !r.waitsFor p k)
      let s := { s with sp := { s.sp with sweep := some (s.sweepAt 5 p (k + 1)) } }
      if io then
        let s := { s with sp := { s.sp with requests := rest } }.raiseSp 0x0407 .spill k
        (mine.foldl (fun (s : State) r => s.tileFaultAt r.tile r.pc 0x0407 r.srcAddr) s).spillAdmit.settleTiles
      else
        let served := mine.take taken
        let data := s.spillRow p k
        let s := { s with sp := { s.sp with requests := rest ++ mine.drop taken } }
        let s := (s.incSat Fld.SP_SPILL_RETRY_COUNT (mine.drop taken).length).incSat Fld.SP_WAIT_CNT_COUNT
          (min waited (served.filter (fun r => !r.tag)).length)
        (served.foldl (fun (s : State) r => s.serveSpill data r) s).spillAdmit.settleTiles

/-- SPILL_SWEEP_END: queued spill writes are performed in the order they arrived, then waiting narrow writes (R225, R226),
and what waited for them goes on; a late sweep starts now (R222). -/
def State.sweepEnd (s : State) : State :=
  match s.sp.sweep with
  | none => s
  | some (p, _) =>
    if p < 4 then s
    else
      let writes := s.sp.writes
      let narrow := s.sp.narrowWrites
      let late := s.sp.sweepLate
      let s := { s with sp := { s.sp with sweep := none, sweepLate := false, writes := [], narrowWrites := [] } }
      let s := writes.foldl State.performSpill s
      let s := { s with spillMem := narrow.foldl (fun m (w : Option Nat × Nat × List Byte) => Sparse.puts spillDefault w.2.1 w.2.2 m) s.spillMem }
      let s := (List.range 4).foldl State.settleReset s.spillAdmit.settleTiles
      if late then s.sweepStart else s

/-- XS_RESET_RELEASE: XS_RESET_N rises and the port is up (R219). -/
def State.xsRelease (s : State) : State :=
  if s.flag Fld.SP_XS_CFG_EN then s.setFlag Fld.SP_XS_STATUS_READY true else s

/-! ## Meanings -/

def execSpApply (r : Requester) (s : State) : Host.Outcome State Fault Refusal := .next (s.spApply r)
def execSpApplyTakeEffect (s : State) : Host.Outcome State Fault Refusal := .next s.spTakeEffect
def execBankReady (b : Nat) (s : State) : Host.Outcome State Fault Refusal := .next (s.bankReady b)
def execBankReleaseScrubDone (b waited : Nat) (s : State) : Host.Outcome State Fault Refusal :=
  .next (s.bankReleased b waited)
def execSpillSweepStart (s : State) : Host.Outcome State Fault Refusal := .next s.sweepStart
def execSpillSweepRow (io : Bool) (taken waited : Nat) (s : State) : Host.Outcome State Fault Refusal :=
  .next (s.sweepRow io taken waited)
def execSpillSweepEnd (s : State) : Host.Outcome State Fault Refusal := .next s.sweepEnd
def execXsResetRelease (s : State) : Host.Outcome State Fault Refusal := .next s.xsRelease

end Sys2Proof.Machine
end

