-- ==== Sys2Proof/Machine/Serving.lean ====
section
/-! DEFINITION. The start of a task (R176, R177, R209, R212) and the sequencer's frame cycle (R299 to R309,
R326 to R332). -/

namespace Sys2Proof.Machine

/-! ## Task descriptors (Table 6.5) -/

/-- The relocation set a task latches (R209, R212): empty bounds for an index beyond the sets, a set that is
not VALID, another PART, or a set with a task window that serves a task already, whose scrub may still run (R39). -/
def State.latchRel (s : State) (part n : Nat) : RelSet :=
  let r := relOf s.sp.inForce n
  let taken := (List.range 16).any (fun t => (s.tile t).run != .idle && (s.tile t).task.relIdx == n)
  if decide (32 ≤ n) || !r.1 || r.2.1 != part || (decide (0 < r.2.2.taskSize) && taken) then {} else r.2.2

/-- The checks of a descriptor against the bounds it latches (R176). -/
def descOk (d : List Byte) (rel : RelSet) : Bool :=
  let rows := le d 0x0A 2
  let pc0 := le d 4 2 + 65536 * (le d 0x0D 1 % 2)
  decide (le d 2 1 < 4) && decide (le d 3 1 < 2) && decide (le d 0x0D 1 < 2) && allZero d 0x0E 2 &&
    allZero d 0x24 12 && rows != 0 && decide (le d 8 2 + rows ≤ rel.nearSize) && decide (pc0 < 32 * rows)

/-- The tile at the start of a task (R177); rows pushed into it while it was idle stay for its next scrub (R217). -/
def Tile.started (x : Tile) (d : List Byte) (rel : RelSet) (byCore : Bool) : Tile :=
  { x with
    run := .running
    a := Vector.ofFn (fun (i : Fin 16) => if i.val < 4 then word (le d (0x10 + 4 * i.val) 4) else 0)
    l := Vector.replicate 8 0
    v := Vector.replicate 16 0
    acc := Vector.replicate 4 {}
    lut := 0
    cnt := Vector.ofFn (fun (k : Fin 16) => if le d 6 2 / 2 ^ k.val % 2 = 1 then {} else vget {} x.cnt k.val)
    ftz := le d 3 1 == 1
    flags := {}
    pc := le d 4 2 + 65536 * (le d 0x0D 1 % 2)
    task := { taskId := le d 0 2, part := le d 2 1, progRow := le d 8 2, progRows := le d 0x0A 2
              relIdx := le d 0x0C 1, rel := rel, limit := le d 0x20 4, byCore := byCore }
    bundle := none
    tag := false
    asyncSeq := 0
    statusHeld := false
    haltAfter := false }

/-- Offer a descriptor to a tile that is idle and scrubbed: the task starts, or none for TF_DESC (R176). -/
def State.startTask (s : State) (t : Nat) (d : List Byte) (byCore : Bool) : Option State :=
  let rel := s.latchRel (le d 2 1) (le d 0x0C 1)
  if descOk d rel then some (s.setTile t ((s.tile t).started d rel byCore)) else none

/-! ## Addresses the sequencer gives a task (R306) -/

/-- A1: the ring-window row of the slot's header; a free value when the frame was given no slot. -/
def State.headerAddr (s : State) (slot : Option Nat) : Nat :=
  match slot with
  | some k => k * s.slotRows % 2 ^ 19 + 3 * 2 ^ 20
  | none => (s.free 32).toNat

/-- A2: the partition-window row of the control row, in SPACE 0b10. -/
def State.controlAddr (s : State) (p : Nat) : Nat := s.controlRow p % 2 ^ 18 + 2 ^ 18 + 2 * 2 ^ 20

/-- Tile `t`'s frame-task descriptor with A1 and A2 replaced (R300). -/
def State.frameDesc (s : State) (t a1 a2 : Nat) : List Byte :=
  let d := s.descBytes t
  d.take 0x14 ++ toLe 4 a1 ++ toLe 4 a2 ++ d.drop 0x1C

/-! ## Start of a frame (R303, R304, R307, R331, R351) -/

/-- The ring slot of the sensor frame whose frame instant came last; none when it was not given one. -/
def State.frameSlot (s : State) : Option Nat :=
  match s.px.frames.getLast? with
  | none => none
  | some f => if f.number = (s.reg Reg.PX_FRAME_CNT).toNat then some f.slot else none

/-- Does the partition process the frame number `n` (R303)? -/
def State.processes (s : State) (p n : Nat) : Bool :=
  (n + 2 ^ 32 - (s.partition p).fEn % 2 ^ 32) % 2 ^ 32 % s.svDiv p == 0

/-- Release the partition's hold bit on a slot at once. -/
def State.dropHold (s : State) (p : Nat) (slot : Option Nat) : State :=
  match slot with
  | none => s
  | some k => s.releaseHold p k

/-- A processed frame of the partition is skipped: the next one carries GAP, the kernel counts it, and it ends a run of frames
voided by faults (R306, R313, R329). -/
def State.skipFrame (s : State) (p : Nat) : State :=
  let ps := s.partition p
  s.setPart p { ps with gap := true, voids := 0, kernel := { ps.kernel with frames := ps.kernel.frames + 1 } }

/-- Is the tile startable: idle, scrubbed and not halted by debug (R304)? -/
def State.startable (s : State) (t : Nat) : Bool := (s.tile t).run == .idle && !(s.tile t).haltAfter

/-- Start the frame task on the listed tiles, in order: on those startable now; the others are left missing.
A descriptor that fails its checks voids the frame (R176, R329). -/
def State.startTiles (s : State) (p : Nat) (slot : Option Nat) : List Nat → State
  | [] => s
  | t :: ts =>
    if s.startable t then
      match s.startTask t (s.frameDesc t (s.headerAddr slot) (s.controlAddr p)) false with
      | none =>
        (s.reportFault { code := 0x0308, tile := t, part := p, pc := 0, addr := 0, tagged := false }).voidFrame p true
      | some s' =>
        let ps := s'.partition p
        let s' := match ps.frame with
          | none => s'
          | some f => s'.setPart p { ps with frame := some { f with
              tiles := f.tiles ++ [t], missing := f.missing.filter (· != t) } }
        s'.startTiles p slot ts
    else s.startTiles p slot ts

/-- Write element `e` of control-table row `i` of a partition (R306, R344). -/
def State.setCtab (s : State) (p i e v : Nat) : State :=
  s.writeBytes (512 * s.partKey p (s.fld (Fld.SV_CTABLE_ROW p) + i) + 2 * e) (toLe 2 v)

/-- Set SWAP in every control-table row of a partition (Table 11.5, R355). -/
def State.setSwap (s : State) (p v : Nat) : State := (List.range 16).foldl (fun s i => s.setCtab p i 9 v) s

/-- After the first frame of a package that received carried streams, the engine sets SWAP back to 0 (Table 11.5). -/
def State.swapDone (s : State) (p : Nat) : State :=
  let ps := s.partition p
  if ps.kernel.swap = 3 then (s.setSwap p 0).setPart p { ps with kernel := { ps.kernel with swap := 0 } } else s

/-- The partition's first frame under a new configuration, of number `n`, starts: once none is awaited, the change set
reaches its final state (R353), and the engine is free. -/
def State.csFirstFrame (s : State) (p n : Nat) : State :=
  if s.pk.awaiting.contains p then
    let s := { s with pk := { s.pk with awaiting := s.pk.awaiting.filter (· != p) } }
    if s.pk.awaiting.isEmpty then
      (((s.setFld Fld.PK_CS_STATUS_STATE (if s.pk.dropped then 7 else 6)).setReg Reg.PK_CS_CODE
        (if s.pk.dropped then 0x0714 else 0)).setReg Reg.PK_CS_FRAME (word n)).csFinalEvent
    else s
  else s

/-- The kernel's plan at the start of a frame, its work lists and tree masks, and its candidate list emptied (log entry 26). -/
def State.planStart (s : State) (p : Nat) : State :=
  match (s.partition p).pkg with
  | none => s
  | some k =>
    let s := s.setPart p { s.partition p with kernel := s.kernelPlan p k }
    ((s.taggedBytes (512 * s.candKey p k + 3) [0]).writeTable p k 4).writeTable p k 5

/-- Open the frame of a start instant, with the state code sampled then (R306). -/
def State.openFrame (s : State) (p : Nat) : OpenFrame :=
  { number := (s.reg Reg.PX_FRAME_CNT).toNat, slot := s.frameSlot, start := s.plumbNs, startLocal := s.localNs
    code := s.stateCode p, missing := s.partTiles p }

/-- Start the tasks of an open frame that are not started: the first time the kernel plans it, unless an apply still holds the
partition's frames (R304, R352). -/
def State.startFrame (s : State) (p : Nat) (f : OpenFrame) : State :=
  let started := fun (s : State) =>
    let s := s.startTiles p f.slot f.missing
    if f.slot.isNone then s.nextFree else s
  if f.begun then started s
  else if s.pk.applying.contains p then s
  else
    let s := s.setPart p { s.partition p with frame := some { f with begun := true } }
    started (((s.swapDone p).csFirstFrame p f.number).planStart p)

/-- A start instant that the change-set engine suppressed: the frame is dropped, and a FRAME_DROP record marks it (R351,
Table 12.4). -/
def State.dropFrame (s : State) (p n : Nat) : State :=
  let s := (s.dropHold p s.frameSlot).setPart p { s.partition p with suppress := false }
  (s.skipFrame p).gateRec ⟨3, 0, 0, n, 0, false⟩

/-- PARTITION_FRAME_START: the frame instant as partition `p` sees it. While its frame is open and not on every tile, the
start is tried again (R304); a start instant that finds the previous frame open is skipped (R307). -/
def State.partFrameStart (s : State) (p : Nat) : State :=
  let ps := s.partition p
  let n := (s.reg Reg.PX_FRAME_CNT).toNat
  if s.fld (Fld.SV_STATUS_STATE p) ≠ svRunning ∨ ps.pkg = none ∨ !s.processes p n then s.dropHold p s.frameSlot
  else match ps.frame with
    | some f =>
      if f.number = n then s.startFrame p f
      else if ps.suppress then s.dropFrame p n
      else (s.releaseSlot p s.frameSlot false).skipFrame p
    | none =>
      if ps.suppress then s.dropFrame p n
      else
        let f := s.openFrame p
        (s.setPart p { ps with frame := some f, gap := false }).startFrame p f

/-- SV_TILE_BUSY: a tile was not startable within 100 µs, or an apply held the frame so long, so the whole frame is skipped
(R304, R352). -/
def State.tileBusy (s : State) (p : Nat) : State :=
  match (s.partition p).frame with
  | none => s
  | some f =>
    if f.begun && f.missing.isEmpty then s
    else
      let s := s.endTasks f.tiles
      let ps := s.partition p
      let s := s.setPart p { ps with
        frame := none, gap := true, voids := 0
        kernel := { ps.kernel with
          work := [], workQueue := [], items := [], events := [], expired := 0
          frames := if f.begun then ps.kernel.frames else ps.kernel.frames + 1 } }
      ((s.dropHold p f.slot).raiseSvLimited 0x0602 p).suspendNow p

/-! ## Close, deadline, abandon (R305, R307, R326) -/

/-- PARTITION_FRAME_CLOSE with the verdicts and requests for admission model code wrote: the margin is taken, the
kernel commits, the gate copies the candidates and the count row, and the slot is released. -/
def State.frameClose (s : State) (p : Nat) (verdicts : List (Nat × List Byte)) (reqs : List AdmitWrite) : State :=
  let ps := s.partition p
  match ps.frame, ps.pkg with
  | some f, some k =>
    if f.begun && f.tiles.isEmpty && f.missing.isEmpty then
      let s := (s.takeMargin (s.marginOf p f)).kernelCommit p k verdicts reqs
      let counts := s.countRow p
      let s := s.addCounts p 0 counts.1 counts.2
      let ps := s.partition p
      let s := s.setPart p { ps with
        frame := none, voids := 0
        copies := ps.copies ++ [⟨f.start, s.candidates p⟩]
        overruns := if f.late then ps.overruns + 1 else ps.overruns
        kernel := { ps.kernel with overran := f.late } }
      (s.releaseSlot p f.slot f.late).suspendNow p
    else s
  | _, _ => s

/-- The statuses of ended tagged tasks of the partition become readable, and TASK_END pends for those a core
started (R197, Table 9.10). -/
def State.unholdStatus (s : State) (p : Nat) : State :=
  (List.range 16).foldl (fun s t =>
    let x := s.tile t
    if x.statusHeld && x.task.part == p then
      let s := s.setTile t { x with statusHeld := false }
      if x.task.byCore then s.pend 4 else s
    else s) s

/-- DEADLINE_INSTANT: the gate decides and releases, waiting hold bits are released, and an open frame is
late from now on. -/
def State.deadline (s : State) (p : Nat) : State :=
  let ps := s.partition p
  let s := s.setPart p { ps with
    releases := []
    frame := ps.frame.map (fun f => { f with late := true }) }
  let s := ps.releases.foldl (fun s k => s.releaseHold p k) s
  (s.unholdStatus p).gateRelease p

/-- FRAME_ABANDON: a frame still open at its abandon instant is voided and counted as an overrun (R307). -/
def State.frameAbandon (s : State) (p : Nat) : State := s.voidFrame p false

/-- OVERRUN_INTERVAL_END: SV_OVERRUNp takes the interval's count, and SV_OVERRUN is raised when it is not
zero (R326). -/
def State.overrunEnd (s : State) (p : Nat) : State :=
  let n := min (s.partition p).overruns 255
  let s := (s.setPart p { s.partition p with overruns := 0 }).setFld (Fld.SV_OVERRUN_COUNT p) n
  if n = 0 then s else s.raiseSv 0x0603 p

/-! ## Enables and held values (R303, R308, R328, Table 10.6) -/

/-- The frame period P in units of 10 ns, from PX_FRAME_PERIOD in force (R139). -/
def State.periodTens (s : State) : Nat := s.pxFld Fld.PX_FRAME_PERIOD_PERIOD

/-- The tiles of partition `p` in a set (SP_TILE_PART). -/
def tilesIn (m : List (Nat × Word)) (p : Nat) : List Nat := (List.range 16).filter (fun t => partOf m t == p + 1)

/-- The checks of Table 10.6 on the values a partition would run with, under an SP set `m` and a PX set `x`. -/
def State.svCheckIn (s : State) (m x : List (Nat × Word)) (p : Nat) (cfg deadline : Word) : Bool :=
  let div := bits cfg 3 0
  let skims := (List.range 4).filter (fun q => if q = p then tstBit cfg 5 else s.flag (Fld.SV_CFG_SKIM q))
  decide (1 ≤ div) && decide (100 * bits deadline 15 0 ≤ div * setFldOf x Fld.PX_FRAME_PERIOD_PERIOD) &&
    (tilesIn m p).all (fun t => s.descByte t 2 == p) && tstBit (Sparse.get RegMap.resetValue x Reg.PX_RING_READERS) p &&
    decide (skims.length ≤ 1) &&
    (!tstBit cfg 5 || (match tilesIn m p with | [t] => !isCTile t | _ => false))

/-- The checks of Table 10.6 under the sets in force. -/
def State.svCheck (s : State) (p : Nat) (cfg deadline : Word) : Bool :=
  s.svCheckIn s.sp.inForce s.px.inForce p cfg deadline

/-- The state of an enabled partition: running, or suspended in Skim without SKIM (R331). -/
def State.svOnState (s : State) (p : Nat) : Nat :=
  if s.fld Fld.PW_STATE_STATE = 2 ∧ !s.flag (Fld.SV_CFG_SKIM p) then svSuspended else svRunning

/-- EN is set: F_en is taken, and the first frame carries GAP; a stopped partition stays stopped until a package load (R303,
R328, R329). -/
def State.svStart (s : State) (p : Nat) : State :=
  if s.svEnabled p then s
  else
    let s := s.setReg Reg.SV_CTRL (setBits (s.reg Reg.SV_CTRL) p p 1)
    let s := s.setPart p { s.partition p with fEn := (s.reg Reg.PX_FRAME_CNT).toNat, gap := true }
    if s.fld (Fld.SV_STATUS_STATE p) = svStopped then s else s.setFld (Fld.SV_STATUS_STATE p) (s.svOnState p)

/-- PARTITION_ENABLE (R303, R328): refused with SV_CFG where Table 10.6 says so. -/
def State.svEnable (s : State) (p : Nat) : State :=
  if s.svEnabled p then s
  else if s.svCheck p (s.reg (Reg.SV_CFG p)) (s.reg (Reg.SV_DEADLINE p)) then s.svStart p
  else s.raiseSv 0x0601 p

/-- PARTITION_DISABLE (R328): no further frame starts; the frame in progress runs on. -/
def State.svDisable (s : State) (p : Nat) : State :=
  let s := s.setReg Reg.SV_CTRL (setBits (s.reg Reg.SV_CTRL) p p 0)
  if s.fld (Fld.SV_STATUS_STATE p) = svStopped then s else s.setFld (Fld.SV_STATUS_STATE p) svOff

/-- EPOCH_BOUNDARY_APPLY: the held values of a partition between frames take effect together, or are refused
with SV_CFG (R308). -/
def State.epochApply (s : State) (p : Nat) : State :=
  let ps := s.partition p
  if ps.frame.isSome ∨ (ps.heldCfg = none ∧ ps.heldDeadline = none ∧ ps.heldCtable = none) then s
  else
    let cfg := ps.heldCfg.getD (s.reg (Reg.SV_CFG p))
    let deadline := ps.heldDeadline.getD (s.reg (Reg.SV_DEADLINE p))
    let ok := s.svCheck p cfg deadline
    let s' := s.setPart p { ps with heldCfg := none, heldDeadline := none, heldCtable := none }
    if ok then
      ((s'.setReg (Reg.SV_CFG p) cfg).setReg (Reg.SV_DEADLINE p) deadline).setReg (Reg.SV_CTABLE p)
        (ps.heldCtable.getD (s.reg (Reg.SV_CTABLE p)))
    else s'.raiseSv 0x0601 p

/-! ## Meanings -/

def execPartitionFrameStart (p : Fin 4) (s : State) : Host.Outcome State Fault Refusal := .next (s.partFrameStart p)
def execSvTileBusy (p : Fin 4) (s : State) : Host.Outcome State Fault Refusal := .next (s.tileBusy p)
def execPartitionFrameClose (p : Fin 4) (verdicts : List (Nat × List Byte)) (reqs : List AdmitWrite) (s : State) :
    Host.Outcome State Fault Refusal := .next (s.frameClose p verdicts reqs)
def execDeadlineInstant (p : Fin 4) (s : State) : Host.Outcome State Fault Refusal := .next (s.deadline p)
def execFrameAbandon (p : Fin 4) (s : State) : Host.Outcome State Fault Refusal := .next (s.frameAbandon p)
def execOverrunIntervalEnd (p : Fin 4) (s : State) : Host.Outcome State Fault Refusal := .next (s.overrunEnd p)
def execPartitionEnable (p : Fin 4) (s : State) : Host.Outcome State Fault Refusal := .next (s.svEnable p)
def execPartitionDisable (p : Fin 4) (s : State) : Host.Outcome State Fault Refusal := .next (s.svDisable p)
def execEpochBoundaryApply (p : Fin 4) (s : State) : Host.Outcome State Fault Refusal := .next (s.epochApply p)

end Sys2Proof.Machine
end

