-- ==== Sys2Proof/Machine/Pixel.lean ====
section
/-! DEFINITION. The pixel front end (chapter 5): the shadow set and its apply, frame instants, the samples'
path into the ring, the slot header, exposure control, and the sensor's run and supply. -/

namespace Sys2Proof.Machine

/-! ## The shadow set (R139, R140, R145, R147, R155) -/

/-- Is the address a shadowed PX register (Table 5.9)? -/
def isPxShadow (a : Nat) : Bool :=
  let o := a - 0x10020000
  decide (0x10020000 ≤ a) && ((decide (0x0C ≤ o) && decide (o ≤ 0x34) && o != 0x24) ||
    (decide (0x40 ≤ o) && decide (o ≤ 0x5C)) || (decide (0x70 ≤ o) && decide (o ≤ 0x78)))

/-- The shadow copies as a set. -/
def State.pxShadow (s : State) : List (Nat × Word) := s.regs.filter (fun e => isPxShadow e.1)

/-- N × C of Table 5.3: conversions per ADC in one sub-frame, for mode 0 full and 1 binned. -/
def convPerAdc (mode : Nat) : Nat := if mode = 0 then 2048 else 512

/-- T_sub in 10 ns units (R138). -/
def tSub (mode g : Nat) : Nat := convPerAdc mode * g * 390 + 5000

/-- s_k of a set: 0 for the first exposure (R139). -/
def shiftOf (m : List (Nat × Word)) (k : Nat) : Nat :=
  match k with
  | 2 => setFldOf m Fld.PX_EXP_RATIO_S2
  | 3 => setFldOf m Fld.PX_EXP_RATIO_S3
  | _ => 0

/-- The largest shift in use (R140). -/
def sMax (m : List (Nat × Word)) (e : Nat) : Nat := if e = 1 then 0 else if e = 2 then shiftOf m 2 else shiftOf m 3

/-- The sum of the spacings of R139, in 10 ns units. -/
def spacingSum (m : List (Nat × Word)) : Nat :=
  let t := tSub (setFldOf m Fld.PX_MODE_MODE) (gainsOf m)
  ((List.range (exposuresOf m)).map (fun i => max t (setFldOf m Fld.PX_EXP_MAX_EMAX / 2 ^ shiftOf m (i + 1) + 200))).sum

/-- Every field in range, and R139, R140 and R145 kept (PX_CFG, Table 5.8). -/
def pxCfgOk (m : List (Nat × Word)) : Bool :=
  let e := exposuresOf m
  let fmt := setFldOf m Fld.PX_MODE_FMT
  let emax := setFldOf m Fld.PX_EXP_MAX_EMAX
  let emin := setFldOf m Fld.PX_EXP_MIN_EMIN
  decide (setFldOf m Fld.PX_MODE_MODE ≤ 1) && decide (fmt ≤ 2) && decide (1 ≤ e) &&
    (fmt != 0 || (e == 1 && gainsOf m == 1)) &&
    decide (shiftOf m 2 ≤ 5) && decide (shiftOf m 3 ≤ 5) && decide (shiftOf m 2 ≤ shiftOf m 3) &&
    decide (200 ≤ emin) && decide (200 * 2 ^ sMax m e ≤ emax) &&
    (setFldOf m Fld.PX_MODE_AE_EN == 0 || decide (emin ≤ emax)) &&
    decide (spacingSum m ≤ setFldOf m Fld.PX_FRAME_PERIOD_PERIOD) &&
    decide (50000000 ≤ setFldOf m Fld.PX_SKIM_PERIOD_PERIOD) &&
    (List.range 4).all (fun p => setFldOf m (Fld.PX_RING_SIG_BAND p) != 0)

/-- A write of 1 to PX_CTRL.APPLY: the whole shadow set is checked and copied, or refused (R155); one made while a stop is
completing waits for the stop (R160). -/
def State.pxApply (s : State) : State :=
  let m := s.pxShadow
  if !pxCfgOk m then s.raisePx 0x0201
  else if ringCountOf m ≠ 0 ∧ !s.ringOk m s.px.skim then s.raisePx 0x0202
  else { s with px := { s.px with captured := some m, atStop := s.fld Fld.PX_STATUS_STATE == 2 } }.setFlag Fld.PX_STATUS_APPLY_PENDING true

/-- Does a set, with a Skim switch, change what only clear holds allow (R155, R159)? -/
def State.geomChanges (s : State) (m : List (Nat × Word)) (skim : Bool) : Bool :=
  let f := fun x => setFldOf m x != setFldOf s.px.inForce x
  f Fld.PX_MODE_MODE || f Fld.PX_MODE_FMT || f Fld.PX_MODE_E || f Fld.PX_MODE_DCG || f Fld.PX_RING_SLOTS_SLOTS ||
    f Fld.PX_RING_BANKS_FIRST || f Fld.PX_RING_BANKS_COUNT || skim != s.px.skim

/-- The set that waits, and the Skim mode to go with it. -/
def State.pxWaiting (s : State) : List (Nat × Word) := s.px.captured.getD s.px.inForce
def State.pxSkimNext (s : State) : Bool := s.px.skimNext.getD s.px.skim

/-- Does a set or a Skim switch wait? -/
def State.pxPending (s : State) : Bool := s.px.captured.isSome || s.px.skimNext.isSome

/-- Does what waits wait for the stop that is completing (R160)? -/
def State.pxAfterStop (s : State) : Bool := s.px.atStop && s.fld Fld.PX_STATUS_STATE == 2

/-- Must the waiting set go on waiting for the holds? -/
def State.pxHeldUp (s : State) : Bool := s.geomChanges s.pxWaiting s.pxSkimNext && !s.holdsClear

/-- Stop the sensor: what is in progress finishes (R158). -/
def State.pxStop (s : State) : State := (s.setFlag Fld.PX_CTRL_RUN false).sensorHalt

/-- The waiting set takes effect, unless it must wait; its geometry is checked again and it may be refused
whole; banks it no longer uses are scrubbed (R155, R156, R159). A set without a ring stops the sensor at this instant, and no
frame starts at or after it. -/
def State.pxTakeEffect (s : State) : State :=
  if !s.pxPending || s.pxAfterStop || s.pxHeldUp then s
  else
    let m := s.pxWaiting
    let skim := s.pxSkimNext
    let old := s.px.inForce
    let clear := { s with px := { s.px with captured := none, skimNext := none } }.setFlag
      Fld.PX_STATUS_APPLY_PENDING false
    if s.geomChanges m skim ∧ ringCountOf m ≠ 0 ∧ !s.ringOk m skim then clear.raisePx 0x0202
    else
      let moved := ringFirstOf m != ringFirstOf old || ringCountOf m != ringCountOf old ||
        setFldOf m Fld.PX_RING_SLOTS_SLOTS != setFldOf old Fld.PX_RING_SLOTS_SLOTS
      let inRing := fun (x : List (Nat × Word)) b => decide (ringFirstOf x ≤ b) && decide (b < ringFirstOf x + ringCountOf x)
      let released := (List.range 64).filter (fun b => inRing old b && !inRing m b)
      let s := { clear with
        px := { clear.px with
          inForce := m, skim := skim
          lastSlot := if moved then none else clear.px.lastSlot }
        sp := { clear.sp with ringRelease := clear.sp.ringRelease ++ released } }
      let s := if moved then s.setReg Reg.PX_RING_LAST 0 else s
      if ringCountOf m = 0 then { s with px := { s.px with exposing := false } }.pxStop else s

/-! ## Frame instants (R149, R154, R157, R163) -/

/-- The frame period in force in 10 ns units: the Skim period in Skim mode (R159). -/
def State.pxPeriod (s : State) : Nat :=
  if s.px.skim then s.pxFld Fld.PX_SKIM_PERIOD_PERIOD else s.pxFld Fld.PX_FRAME_PERIOD_PERIOD

/-- E in force; Skim has one exposure at one gain. -/
def State.pxE (s : State) : Nat := if s.px.skim then 1 else exposuresOf s.px.inForce

/-- Count slipped lock or frame instants (R157). -/
def State.slipInstants (s : State) (n : Nat) : State :=
  if n = 0 then s else (s.incSat Fld.PX_LOCK_SLIP_COUNT n).raisePx 0x0205

/-- T0 of the Plumb lock in force, in ns. -/
def State.lockT0 (s : State) : Nat := (s.pxReg Reg.PX_LOCK_T0_HI ++ s.pxReg Reg.PX_LOCK_T0_LO).toNat

/-- How many lock instants T0 + k P lie before a time, in ns of Plumb time (R157). -/
def State.lockCount (s : State) (t : Nat) : Nat :=
  let p := max 1 (10 * s.pxPeriod)
  if t ≤ s.lockT0 then 0 else (t - s.lockT0 - 1) / p + 1

/-- Does the present moment lie on a lock instant, within ±20 ns (R157)? -/
def State.onLock (s : State) : Bool :=
  let t := s.plumbNs.toNat
  s.pxFld Fld.PX_LOCK_CTRL_EN == 1 && decide (s.lockCount (t - 20) < s.lockCount (t + 21))

/-- Lock instants that passed without a frame start since the last frame instant or the start of the sensor, this one, where
it is one, not counted (R157, R161). -/
def State.missedInstants (s : State) : Nat :=
  match s.px.lastInstant with
  | none => 0
  | some t =>
    if s.pxFld Fld.PX_LOCK_CTRL_EN = 0 then 0
    else s.lockCount (s.plumbNs.toNat - 20) - s.lockCount (t.toNat + 21)

/-- The next slot whose hold mask is zero (R149). -/
def State.freeSlot (s : State) : Option Nat :=
  let n := s.ringSlots
  let first := match s.px.lastSlot with
    | none => 0
    | some k => k + 1
  ((List.range n).map (fun i => (first + i) % n)).find? (fun k => s.hold k == 0)

/-- The lowest e_1 of R140, in 10 ns units. -/
def State.eLow (s : State) : Nat := max (s.pxFld Fld.PX_EXP_MIN_EMIN) (200 * 2 ^ sMax s.px.inForce s.pxE)

/-- e_1 of the frame that begins: emax_1 without automatic exposure; with it the value set from two frames
before, and a free value of the range while none has been measured (R140, R141). -/
def State.e1Of (s : State) : Nat :=
  let emax := s.pxFld Fld.PX_EXP_MAX_EMAX
  if s.pxFld Fld.PX_MODE_AE_EN = 0 then emax
  else clampNat s.eLow emax (s.px.e1Next.getD (s.free 27).toNat)

/-- The black levels of the frame that begins, by quadrant and gain, from the means of the shielded pixels over the frame
before (R142). Where that frame was not read out, the last means stand (DESIGN CHOICE, log entry 43). -/
def State.blackOf (s : State) (means : Option (List Nat)) : List Nat :=
  let fixed := List.replicate 8 (s.pxFld Fld.PX_BLACK_LEVEL)
  if s.pxFld Fld.PX_MODE_BL_AUTO = 0 ∨ s.px.first then fixed else means.getD (s.px.black.getD fixed)

/-- The sensor has stopped once nothing is in progress; a waiting set then takes effect (R158, R160). -/
def State.settleStop (s : State) : State :=
  if s.fld Fld.PX_STATUS_STATE = 2 ∧ s.px.frames.isEmpty ∧ !s.px.exposing then
    ({ s with px := { s.px with atStop := false } }.setFld Fld.PX_STATUS_STATE 0).pxTakeEffect
  else s

/-- Can a frame instant come: does the sensor run, or does a stop let a frame finish that has begun (R158)? -/
def State.instantComes (s : State) : Bool :=
  s.fld Fld.PX_STATUS_STATE == 1 || (s.fld Fld.PX_STATUS_STATE == 2 && s.px.exposing)

/-- The frame is counted and dated, and its budget frame starts (R28, R154). -/
def State.countFrame (s : State) : State :=
  let t := s.plumbNs
  let s := s.incWrap Fld.PX_FRAME_CNT_COUNT 1
  ((((s.setReg Reg.PX_LAST_T_LO (t.extractLsb' 0 32)).setReg Reg.PX_LAST_T_HI (t.extractLsb' 32 32)).setFlag
    Fld.PX_STATUS_LOCKED s.onLock)).budgetFrame

/-- The frame of this instant takes the first free slot for every partition of PX_RING_READERS, or, every slot held, is
dropped with PX_RING_FULL (R149, R163). -/
def State.takeSlot (s : State) (e1 : Nat) (black : List Nat) : State :=
  match s.freeSlot with
  | none =>
    let s := (s.incSat Fld.PX_DROP_CNT_COUNT 1).raisePx 0x0203
    let next := s.px.e1After.getD e1
    { s with px := { s.px with e1Next := some next, e1After := some next } }.settleStop
  | some k =>
    let f : FrameState :=
      { number := (s.reg Reg.PX_FRAME_CNT).toNat, slot := k, locked := s.flag Fld.TM_STATUS_LOCKED, e1 := e1, black := black
        cfg := s.px.inForce, skim := s.px.skim }
    let s := s.setHold k (s.pxFld Fld.PX_RING_READERS_MASK)
    { s with px := { s.px with lastSlot := some k, frames := s.px.frames ++ [f], e1Next := s.px.e1After, e1After := none } }

/-- FRAME_INSTANT, with the means of the shielded pixels over the frame before it, where that was read out: lock instants
that have passed are counted under the configuration so far; a waiting set takes effect, holds the frame up or stops the
sensor; otherwise the frame is counted and takes a slot. -/
def State.frameInstant (s : State) (means : Option (List Nat)) : State :=
  if !s.instantComes then s
  else
    let missed := s.missedInstants
    let s := { s with px := { s.px with lastInstant := some s.plumbNs } }.pxTakeEffect
    if !s.instantComes then s.slipInstants missed
    else if s.pxPending && !s.pxAfterStop then
      ({ s with px := { s.px with exposing := false } }.slipInstants (missed + 1)).settleStop
    else
      let s := (s.slipInstants missed).countFrame
      let e1 := s.e1Of
      let black := s.blackOf means
      let s := if s.px.e1Next.isNone then s.nextFree else s
      { s with px := { s.px with
          exposing := false, first := false, black := if means.isSome then means else s.px.black } }.takeSlot e1 black

/-- EXPOSURE_START of exposure `k` of a planned frame: the first one puts the frame in progress (R158). -/
def State.exposureStart (s : State) (k : Nat) : State :=
  if k = 0 ∧ s.fld Fld.PX_STATUS_STATE = 1 ∧ s.px.supplyGood then { s with px := { s.px with exposing := true } } else s

/-- Change the newest frame in readout. -/
def State.modFrame (s : State) (f : FrameState → FrameState) : State :=
  { s with px := { s.px with frames :=
      match s.px.frames.reverse with
      | [] => []
      | x :: xs => (f x :: xs).reverse } }

/-! ## The frame's own configuration (R139, R145, R147, R148) -/

/-- A field of the configuration that the frame is read out under. -/
def FrameState.fld (f : FrameState) (x : RegField) : Nat := setFldOf f.cfg x

/-- Its mode, its E and G, its format (3 for S16), and the width and height of its output. -/
def FrameState.mode (f : FrameState) : Nat := f.fld Fld.PX_MODE_MODE
def FrameState.exposures (f : FrameState) : Nat := if f.skim then 1 else exposuresOf f.cfg
def FrameState.gains (f : FrameState) : Nat := if f.skim then 1 else gainsOf f.cfg
def FrameState.fmt (f : FrameState) : Nat := if f.skim then 3 else f.fld Fld.PX_MODE_FMT
def FrameState.width (f : FrameState) : Nat := if f.skim then 80 else if f.mode = 0 then 2560 else 1280
def FrameState.height (f : FrameState) : Nat := if f.skim then 64 else outLines f.mode

/-- Rows of its slot, and the keys of the ring's rows and of the slot's header row. -/
def FrameState.slotRows (f : FrameState) : Nat := slotRowsOf f.mode (f.fld Fld.PX_MODE_FMT) f.skim
def FrameState.ringKey (f : FrameState) (r : Nat) : Nat := farKey (8192 * ringFirstOf f.cfg + r)
def FrameState.slotKey (f : FrameState) : Nat := f.ringKey (f.slot * f.slotRows)

/-- CHARGE_TRANSFER: a later exposure of the frame ends and its sub-frame readout begins (R139). -/
def State.chargeTransfer (s : State) : State :=
  s.modFrame (fun f => if f.exposure < f.exposures then { f with exposure := f.exposure + 1 } else f)

/-! ## Samples (R142 to R146) -/

/-- The quadrant of an output pixel (Table 5.1). -/
def FrameState.quadOf (f : FrameState) (c r : Nat) : Nat :=
  (if f.height / 2 ≤ r then 2 else 0) + (if f.width / 2 ≤ c then 1 else 0)

/-- The black level of a quadrant and gain. -/
def blackAt (f : FrameState) (q g : Nat) : Nat := f.black.getD (2 * q + g) 0

/-- Black-level step of one sample (R142). -/
def FrameState.lessBlack (f : FrameState) (q g raw : Nat) : Nat :=
  if f.fmt = 0 then min 4095 (raw + f.fld Fld.PX_BLACK_PEDESTAL - blackAt f q g) else raw - blackAt f q g

/-- The same-class neighbours of pixel (c, r), as column and row (R143): in full mode the rest of its quad and the same place
of the quads 4 pixels away, in binned mode the samples 2 away; none outside the array. -/
def FrameState.neighbours (f : FrameState) (c r : Nat) : List (Nat × Nat) :=
  let d := if f.mode = 0 then 4 else 2
  let quad := if f.mode = 0 then [(c ^^^ 1, r), (c, r ^^^ 1), (c ^^^ 1, r ^^^ 1)] else []
  quad ++ (if d ≤ r then [(c, r - d)] else []) ++ (if c + d < f.width then [(c + d, r)] else []) ++
    (if r + d < f.height then [(c, r + d)] else []) ++ (if d ≤ c then [(c - d, r)] else [])

/-- The sample of pixel (c, r) at gain `g` after the black-level step, where the converted lines hold it. -/
def FrameState.sampleAt (f : FrameState) (lines : List PixLine) (g : Nat) (x : Nat × Nat) : Option Nat :=
  ((lines.find? (fun l => l.row == x.2)).bind (fun l => (if g = 0 then l.hcg else l.lcg)[x.1]?)).map
    (f.lessBlack (f.quadOf x.1 x.2) g)

/-- The median of the neighbours, the lower middle one when their count is even (R143). -/
def medianOf (l : List Nat) : Nat := (sortBy (fun a b => decide (a ≤ b)) l).getD ((l.length - 1) / 2) 0

/-- Defect substitution of one sample: the value, and whether it was replaced (R143). -/
def FrameState.substitute (f : FrameState) (v : Nat) (near : List Nat) : Nat × Bool :=
  if f.fld Fld.PX_MODE_DPC_EN = 0 ∨ near = [] then (v, false)
  else
    let hi := near.foldl max 0
    let lo := near.foldl min (near.headD 0)
    let th := f.fld Fld.PX_DPC_THRESH_THRESH
    if hi + th < v ∨ v + th < lo then (medianOf near, true) else (v, false)

/-- One sample of a row at one gain, through black level and substitution (R142, R143). -/
def FrameState.sample (f : FrameState) (lines : List PixLine) (g c r : Nat) : Nat × Bool :=
  f.substitute ((f.sampleAt lines g (c, r)).getD 0) ((f.neighbours c r).filterMap (f.sampleAt lines g))

/-- Candidates of a pixel with their multipliers, in the order of R144: ascending M, HCG first; two of the same gain
with the same M stay in the order of their exposures (DESIGN CHOICE, log entry 43). -/
def orderCands (cs : List (Nat × Bool × Nat)) : List (Nat × Bool × Nat) :=
  sortBy (fun a b => decide (a.1 < b.1) || (a.1 == b.1 && (!a.2.1 || b.2.1))) cs

/-- The merge of a pixel's candidates (multiplier, LCG, sample): the output and whether it saturated (R144). -/
def mergePixel (knee : Nat) (cs : List (Nat × Bool × Nat)) : Nat × Bool :=
  let o := orderCands cs
  match o.find? (fun c => decide (c.2.2 < knee)) with
  | some c => (min 0xFFFFF ((c.2.2 * c.1 + 2048) / 4096), false)
  | none =>
    match o.getLast? with
    | some c => (min 0xFFFFF ((c.2.2 * c.1 + 2048) / 4096), true)
    | none => (0, false)

/-- CMP16 coding (Table 5.6). -/
def cmp16 (x : Nat) : Nat :=
  if x < 8192 then x
  else if x < 32768 then 8192 + (x - 8192) / 2
  else if x < 131072 then 20480 + (x - 32768) / 8
  else if x < 524288 then 32768 + (x - 131072) / 32
  else 45056 + (x - 524288) / 32

/-- 16-bit element `i` of a row. -/
def elem16 (r : Row) (i : Nat) : Nat := r.toNat / 2 ^ (16 * i) % 65536

/-- A row of little-endian elements of `w` bytes. -/
def packRow (w : Nat) (vs : List Nat) : Row := BitVec.ofNat 4096 (le (vs.flatMap (toLe w)) 0 512)

/-- The staging row that holds pixels of exposure `k` (from 1) and gain `g`: its ring row (R146, R147). -/
def FrameState.stagingRow (f : FrameState) (k g line part : Nat) : Nat :=
  let rows := if f.mode = 0 then 10 else 5
  f.fld Fld.PX_RING_SLOTS_SLOTS * f.slotRows + ((k - 1) * f.gains + g) * outLines f.mode * rows + line * rows + part

/-- The staged sample of exposure `k` and gain `g` of the pixel at a column (R146). -/
def State.staged (s : State) (f : FrameState) (k g line col : Nat) : Nat :=
  elem16 (s.row (f.ringKey (f.stagingRow k g line (col / 256)))) (col % 256)

/-- The candidates of a pixel: staged samples of the earlier exposures, and those of the last (R144). -/
def State.candidatesOf (s : State) (f : FrameState) (line col : Nat) (last : List Nat) : List (Nat × Bool × Nat) :=
  let mult := fun k g => (if g = 0 then 4096 else s.fld Fld.PX_DCG_RATIO_RATIO) * 2 ^ shiftOf f.cfg k
  (List.range f.exposures).flatMap (fun i => (List.range f.gains).map (fun g =>
    (mult (i + 1) g, g == 1, if i + 1 = f.exposures then last.getD g 0 else s.staged f (i + 1) g line col)))

/-- Pixels in a row of the output format. -/
def rowPixels (fmt : Nat) : Nat := if fmt = 1 then 128 else 256

/-- What one pixel of an output row gives: its coded value and its linear value, and the counts. -/
structure PixOut where
  code : Nat
  lin : Nat
  quad : Nat
  subst : Nat
  sat : Bool

/-- One output pixel, `i`-th of row `r` (R142 to R145); in Skim the sum of the four samples of its cell (R138). -/
def State.pixelOut (s : State) (f : FrameState) (r : PixRow) (i : Nat) : PixOut :=
  let col := r.part * rowPixels f.fmt + i
  if f.skim then
    let q := f.quadOf (col % 80) (col / 80)
    let v := ((r.cells.getD i []).map (f.lessBlack q 0)).sum
    ⟨v, v, q, 0, false⟩
  else
    let q := f.quadOf col r.line
    let h := f.sample r.lines 0 col r.line
    if f.gains = 1 ∧ f.exposures = 1 then ⟨if f.fmt = 2 then cmp16 h.1 else h.1, h.1, q, bit h.2, false⟩
    else
      let last := if f.gains = 2 then [h, f.sample r.lines 1 col r.line] else [h]
      let m := mergePixel (f.fld Fld.PX_KNEE_KNEE) (s.candidatesOf f r.line col (last.map (·.1)))
      ⟨if f.fmt = 2 then cmp16 m.1 else m.1, m.1, q, (last.filter (·.2)).length, m.2⟩

/-- The histogram bin of an output (Table 5.7). -/
def histBin (fmt lin : Nat) : Nat := if fmt = 0 then lin / 64 else cmp16 lin / 1024

/-- Add one output pixel to the frame's statistics. -/
def FrameState.count (f : FrameState) (fmt : Nat) (x : PixOut) : FrameState :=
  let b := histBin fmt x.lin
  { f with
    subst := f.subst + x.subst
    sat := f.sat + bit x.sat
    hist := vput f.hist b (vget 0 f.hist b + 1)
    qsum := vput f.qsum x.quad (vget 0 f.qsum x.quad + x.lin) }

/-! ## Into the ring (R150 to R153) -/

/-- Is the row due a staging row: of an exposure before the last (R146)? -/
def FrameState.staging (f : FrameState) : Bool := decide (f.exposure < f.exposures)

/-- The row as it will land: data, ring row, image row, and the frame's statistics with it. -/
def State.pixRow (s : State) (f : FrameState) (r : PixRow) : Row × Nat × Option Nat × FrameState :=
  if f.staging then
    let vs := (List.range 256).map (fun i => f.sample r.lines r.gain (r.part * 256 + i) r.line)
    (packRow 2 (vs.map (·.1)), f.stagingRow f.exposure r.gain r.line r.part, none,
      { f with subst := f.subst + (vs.filter (·.2)).length })
  else
    let os := (List.range (rowPixels f.fmt)).map (fun i => s.pixelOut f r i)
    let img := if f.skim then r.part else r.line * lineRows f.mode f.fmt + r.part
    (packRow (if f.fmt = 1 then 4 else 2) (os.map (·.code)), f.slot * f.slotRows + 1 + img, some img,
      os.foldl (fun f x => f.count f.fmt x) f)

/-- The keys of the staging rows that an output row is merged from (R146). -/
def FrameState.mergedFrom (f : FrameState) (r : PixRow) : List Nat :=
  if f.staging then []
  else (List.range (f.exposures - 1)).flatMap (fun i => (List.range f.gains).map (fun g =>
    f.ringKey (f.stagingRow (i + 1) g r.line (r.part * rowPixels f.fmt / 256))))

/-- Abandon the newest frame in readout (R153). -/
def State.abandonFrame (s : State) : State := s.modFrame (fun f => { f with complete := false })

/-- Replace the frame in readout that has a number. -/
def State.putFrame (s : State) (f : FrameState) : State :=
  { s with px := { s.px with frames := s.px.frames.map (fun (x : FrameState) => if x.number = f.number then f else x) } }

/-- The image rows that hold an output line. -/
def FrameState.rowsOfLine (f : FrameState) (line : Nat) : List Nat :=
  if f.skim then (List.range 20).filter (fun r => decide (512 * r < 160 * line + 160) && decide (160 * line < 512 * r + 512))
  else
    let n := lineRows f.mode f.fmt
    (List.range n).map (fun i => line * n + i)

/-- The image rows of line pair `i` (R150). -/
def FrameState.rowsOfPair (f : FrameState) (i : Nat) : List Nat := f.rowsOfLine i ++ f.rowsOfLine (f.height / 2 + i)

/-- The line pairs an image row belongs to. -/
def FrameState.pairsOfRow (f : FrameState) (r : Nat) : List Nat :=
  (List.range (f.height / 2)).filter (fun i => (f.rowsOfPair i).contains r)

/-- Bands of a frame for partition `p`: ceil((H / 2) / B). -/
def FrameState.bandsOf (f : FrameState) (p : Nat) : Nat :=
  let b := max 1 (f.fld (Fld.PX_RING_SIG_BAND p))
  (f.height / 2 + b - 1) / b

/-- `n` band increments of partition `p`: each adds 1 to the named counter and sets its tag (R150). -/
def State.signalBands (s : State) (f : FrameState) (p n : Nat) : State :=
  if f.fld (Fld.PX_RING_SIG_EN p) = 1 then
    (List.range n).foldl (fun s _ =>
      s.incCounter (f.fld (Fld.PX_RING_SIG_TILE p)) (f.fld (Fld.PX_RING_SIG_COUNTER p)) 1 true) s
  else s

/-- The band increments due after an acknowledgement: one for every B line pairs, the last band's left to the
header row (R150). -/
def State.bandsDue (s : State) (f : FrameState) : State :=
  (List.range 4).foldl (fun s p =>
    match s.px.frames.find? (fun x => x.number == f.number) with
    | none => s
    | some f =>
      let due := min (f.pairs / max 1 (f.fld (Fld.PX_RING_SIG_BAND p))) (f.bandsOf p - 1)
      let had := vget 0 f.bands p
      (s.putFrame { f with bands := vput f.bands p (max had due) }).signalBands f p (due - had)) s

/-- An image row of a frame counts as acknowledged (R150). A row that its bank refused, or that could not be merged, counts
too, so that no waiting tile is left waiting (DESIGN CHOICE, log entry 43). -/
def State.ackImage (s : State) (frame : Nat) (image : Option Nat) : State :=
  match image, s.px.frames.find? (fun x => x.number == frame) with
  | some r, some f =>
    let acked := r :: f.acked
    let f := { f with
      acked := acked
      pairs := f.pairs + ((f.pairsOfRow r).filter (fun i => (f.rowsOfPair i).all acked.contains)).length }
    (s.putFrame f).bandsDue f
  | _, _ => s

/-- A row of the front end reaches its bank: it is written and tagged (R14), or refused there (R201). -/
def State.landRingRow (s : State) (key : Nat) (data : Row) : State :=
  match s.wideCode key with
  | some code => s.raiseSpOpen code (keyCode key)
  | none => s.writeRow key data true

/-- Read the staging rows that an output row is merged from: a bank that refuses one, or a double-bit error, leaves the row
unwritten (R201, R229); single-bit errors are counted. -/
def State.readStaging (s : State) : List Nat → State × Bool
  | [] => (s, true)
  | k :: ks =>
    match s.wideCode k with
    | some code => (s.raiseSpOpen code (keyCode k), false)
    | none =>
      if s.rowEcc k = some .double then (s.raiseSpOpen 0x0408 (keyCode k), false)
      else (s.incSat Fld.SP_ECC_CNT_COUNT (s.rowSingles k)).readStaging ks

/-- RING_ROW_WRITE: a row is due. It enters the crossing FIFO, held there when another requester's handshake
to its bank is in progress, or the frame is abandoned when the FIFO is full (R151 to R153). -/
def State.ringRowWrite (s : State) (r : PixRow) (held : Bool) : State :=
  match s.px.frames.getLast? with
  | none => s
  | some f =>
    if !f.complete then s
    else if 64 ≤ s.px.fifo.length then (s.abandonFrame).raisePx 0x0204
    else
      let x := s.pixRow f r
      let read := s.readStaging (f.mergedFrom r)
      if read.2 then
        let s := read.1.modFrame (fun _ => x.2.2.2)
        let s := { s with px := { s.px with fifo := s.px.fifo ++ [⟨f.number, f.ringKey x.2.1, x.1, x.2.2.1, held⟩] } }
        if held then s.incSat Fld.PX_CONFLICT_CNT_COUNT 1 else s
      else read.1.ackImage f.number x.2.2.1

/-- RING_ROW_ACK of the `i`-th row in the FIFO: its handshake completes, unless an earlier row waits for the
same bank; the row is written and tagged (R14, R151). -/
def State.ringRowAck (s : State) (i : Nat) : State :=
  match s.px.fifo[i]? with
  | none => s
  | some e =>
    if e.held ∨ (s.px.fifo.take i).any (fun x => bankOf x.dest == bankOf e.dest) then s
    else (({ s with px := { s.px with fifo := s.px.fifo.eraseIdx i } }).landRingRow e.dest e.data).ackImage e.frame e.image

/-- BANK_WAIT_ADMIT of the `i`-th row in the FIFO: the handshake it lost to has completed, and the held row is
admitted and written (R152, R213). -/
def State.bankWaitAdmit (s : State) (i : Nat) : State :=
  match s.px.fifo[i]? with
  | none => s
  | some e =>
    if e.held then
      ({ s with px := { s.px with fifo := s.px.fifo.set i { e with held := false } } }).ringRowAck i
    else s

/-! ## The slot header (R141, R148) -/

/-- Image rows of a frame. -/
def FrameState.imageRows (f : FrameState) : Nat := f.slotRows - 1

/-- The header row (Table 5.7), of the configuration that the frame was read out under. Rows per line of a Skim slot are a
free value: the spec gives none. -/
def State.headerRow (s : State) (f : FrameState) : Row :=
  let flags := bit f.complete + 2 * f.fld Fld.PX_MODE_DPC_EN + 4 * f.fld Fld.PX_MODE_AE_EN + 8 * bit f.locked
  let lineRows := if f.skim then (s.free 16).toNat else lineRows f.mode f.fmt
  let exp := (List.range 3).flatMap (fun k => toLe 4 (if k < f.exposures then f.e1 / 2 ^ shiftOf f.cfg (k + 1) else 0))
  let bs := toLe 4 f.number ++ toLe 1 (if f.skim then 2 else f.mode) ++ toLe 1 f.fmt ++ toLe 1 f.exposures ++
    toLe 1 f.gains ++ toLe 2 f.width ++ toLe 2 f.height ++ toLe 2 lineRows ++ toLe 2 flags ++ exp ++
    (List.range 8).flatMap (fun i => toLe 2 (f.black.getD i 0)) ++ toLe 4 f.subst ++ toLe 4 f.sat ++
    List.replicate 76 0 ++ (List.range 64).flatMap (fun i => toLe 4 (vget 0 f.hist i)) ++
    (List.range 4).flatMap (fun i => toLe 8 (vget 0 f.qsum i))
  BitVec.ofNat 4096 (le bs 0 512)

/-- The exposure loop of R141 for a written frame: the value for the frame after the next, which is the next one where
the header lands after the following frame instant. -/
def State.exposureLoop (s : State) (f : FrameState) : State :=
  let m := max 1 (((List.range 4).map (fun q => vget 0 f.qsum q)).sum / (f.width * f.height))
  let want := f.e1 * s.pxFld Fld.PX_AE_TARGET_TARGET % 2 ^ 64 / m
  let e := clampNat (f.e1 / 2) (2 * f.e1) want
  let next := some (clampNat s.eLow (s.pxFld Fld.PX_EXP_MAX_EMAX) e)
  if (s.reg Reg.PX_FRAME_CNT).toNat = f.number then { s with px := { s.px with lastMean := m, e1After := next } }
  else { s with px := { s.px with lastMean := m, e1Next := next } }

/-- Is every row of the frame acknowledged, or the frame abandoned with none of its rows on the way? -/
def State.headerDue (s : State) (f : FrameState) : Bool :=
  !s.px.fifo.any (fun e => e.frame == f.number) && (!f.complete || f.acked.length == f.imageRows)

/-- SLOT_HEADER_WRITE of the oldest frame in readout: the header lands, the final and any remaining band increments are
given, and exposure control is updated. -/
def State.slotHeader (s : State) : State :=
  match s.px.frames with
  | [] => s
  | f :: rest =>
    if s.headerDue f then
      let row := s.headerRow f
      let s := if f.skim then s.nextFree else s
      let s := (s.landRingRow f.slotKey row).setFld Fld.PX_RING_LAST_SLOT f.slot
      let s := { s with px := { s.px with frames := rest } }
      let s := (List.range 4).foldl (fun (s : State) p => s.signalBands f p (f.bandsOf p - vget 0 f.bands p)) s
      let s := if f.fld Fld.PX_MODE_AE_EN = 1 then s.exposureLoop f else s
      s.settleStop
    else s

/-! ## Run and supply (R158, R160, R164) -/

/-- Does the sensor run where RUN asks for it (R158)? From step 17 on, not in Doze or Off, and in Skim only
in Skim mode (R103, R497, R500). -/
def State.mayRun (s : State) : Bool :=
  s.inService && !s.flag Fld.DS_DIG_STATUS_BUSY && !s.ds.pixelStopped && s.ringOk s.px.inForce s.px.skim &&
    s.px.supplyGood && s.fld Fld.SYS_BOOT_STATUS_PHASE == 1 &&
    (decide (s.fld Fld.PW_STATE_STATE < 2) || (s.fld Fld.PW_STATE_STATE == 2 && s.px.skim))

/-- Start the sensor: the first frame uses the fixed black level, and no exposure has been measured. -/
def State.sensorStart (s : State) : State :=
  if s.flag Fld.PX_CTRL_RUN ∧ s.mayRun ∧ s.fld Fld.PX_STATUS_STATE ≠ 1 then
    let s := if s.sensorStopped then
        { s with px := { s.px with e1Next := none, e1After := none, exposing := false } }
      else s
    { s with px := { s.px with black := none, first := true, atStop := false, lastInstant := some s.plumbNs } }.setFld Fld.PX_STATUS_STATE 1
  else s

/-- PX_RUN_START: a write of 1 to PX_CTRL.RUN, refused in the wrong state or without a ring; RUN then keeps the value it held
(R158). -/
def State.runStart (s : State) : State :=
  if !s.inService || s.flag Fld.DS_DIG_STATUS_BUSY || s.ds.pixelStopped then s.raisePx 0x0206
  else if !s.ringOk s.px.inForce s.px.skim then s.raisePx 0x0202
  else (s.setFlag Fld.PX_CTRL_RUN true).sensorStart

/-- PX_SUPPLY_RESTART: VDD_PIXA has been good for 20 ms (R164). -/
def State.supplyRestart (s : State) : State :=
  let s := s.setReg Reg.PW_MON_STATUS (setBits (s.reg Reg.PW_MON_STATUS) 2 2 0)
  { s with px := { s.px with supplyGood := true } }.sensorStart

/-- Has every image row of the frame been issued, or has it been abandoned? -/
def State.issuedAll (s : State) (f : FrameState) : Bool :=
  !f.complete || f.imageRows ≤ f.acked.length + (s.px.fifo.filter (fun e => e.frame == f.number && e.image.isSome)).length

/-- VDD_PIXA undervoltage at the front end: the frame in progress is abandoned, no exposure starts, RUN stays
(R164). A frame whose rows have all been issued is not touched. -/
def State.pixaLost (s : State) : State :=
  let s := if s.px.frames.getLast?.all s.issuedAll then s else s.abandonFrame
  let s := { s with px := { s.px with supplyGood := false, exposing := false } }
  let s := if s.sensorStopped then s
    else s.setFld Fld.PX_STATUS_STATE (if s.px.frames.isEmpty then 0 else 2)
  s.raisePx 0x0207

/-- PX_RING_HOLD_RELEASE: a write of 1 to hold bits clears them (R149); `high` names PX_RING_HOLD_HI. -/
def State.holdRelease (s : State) (high : Bool) (v : Word) : State :=
  let a := if high then Reg.PX_RING_HOLD_HI else Reg.PX_RING_HOLD_LO
  s.setReg a (s.reg a &&& ~~~v)

/-! ## Meanings -/

def execFrameInstant (means : Option (List Nat)) (s : State) : Host.Outcome State Fault Refusal :=
  .next (s.frameInstant means)
def execExposureStart (k : Fin 3) (s : State) : Host.Outcome State Fault Refusal := .next (s.exposureStart k)
def execChargeTransfer (s : State) : Host.Outcome State Fault Refusal := .next s.chargeTransfer
def execRingRowWrite (r : PixRow) (held : Bool) (s : State) : Host.Outcome State Fault Refusal :=
  .next (s.ringRowWrite r held)
def execRingRowAck (i : Nat) (s : State) : Host.Outcome State Fault Refusal := .next (s.ringRowAck i)
def execSlotHeaderWrite (s : State) : Host.Outcome State Fault Refusal := .next s.slotHeader
def execPxRunStart (s : State) : Host.Outcome State Fault Refusal := .next s.runStart
def execPxRunStop (s : State) : Host.Outcome State Fault Refusal := .next s.pxStop
def execPxApply (s : State) : Host.Outcome State Fault Refusal := .next s.pxApply
def execPxApplyTakeEffect (s : State) : Host.Outcome State Fault Refusal := .next s.pxTakeEffect
def execPxRingHoldRelease (high : Bool) (v : Word) (s : State) : Host.Outcome State Fault Refusal :=
  .next (s.holdRelease high v)
def execPxSupplyRestart (s : State) : Host.Outcome State Fault Refusal := .next s.supplyRestart
def execBankWaitAdmit (i : Nat) (s : State) : Host.Outcome State Fault Refusal := .next (s.bankWaitAdmit i)

end Sys2Proof.Machine
end

