-- ==== Sys2Proof/Machine/Analog.lean ====
section
/-! DEFINITION. The aux analog subsystem (chapter 15): banks and entries, passes and their results, aux rows, the
calibrations, and the converter's power. -/

namespace Sys2Proof.Machine

/-! ## Banks and entries (R458, R461 to R468, Tables 15.8 and 15.9) -/

/-- Addresses of a bank's registers: 0 A, 1 B. -/
def axEnt (bank k : Nat) : Nat := if bank = 0 then Reg.AX_SEQA_ENT k else Reg.AX_SEQB_ENT k
def axCfg (bank : Nat) : Nat := if bank = 0 then Reg.AX_SEQA_CFG else Reg.AX_SEQB_CFG
def axPeriod (bank : Nat) : Nat := if bank = 0 then Reg.AX_SEQA_PERIOD else Reg.AX_SEQB_PERIOD

/-- LEN, TRIG and AUTO_PD of a bank; PERIOD is used as at least 40. -/
def State.axLen (s : State) (bank : Nat) : Nat := bits (s.reg (axCfg bank)) 3 0 + 1
def State.axTrig (s : State) (bank : Nat) : Nat := bits (s.reg (axCfg bank)) 5 4
def State.axAutoPd (s : State) (bank : Nat) : Bool := tstBit (s.reg (axCfg bank)) 6
def State.axClocks (s : State) (bank : Nat) : Nat := max 40 (s.reg (axPeriod bank)).toNat

/-- Fields of an entry register. -/
def entChan (w : Word) : Nat := bits w 5 0
def entSamp (w : Word) : Nat := bits w 13 8 + 1
def entGain (w : Word) : Nat := bits w 18 16
def entAvg (w : Word) : Nat := bits w 23 20
def entShift (w : Word) : Nat := bits w 27 24

/-- Differential channels (Table 15.2). -/
def chanDiff (c : Nat) : Bool := decide (16 ≤ c) && decide (c ≤ 21)

/-- Is an entry valid (R458, R466)? -/
def entValid (w : Word) : Bool :=
  let c := entChan w
  let internal := decide (32 ≤ c)
  (decide (c ≤ 11) || chanDiff c || (internal && decide (c ≤ 44))) && decide (entGain w ≤ 4) &&
    !(internal && (entGain w != 0 || tstBit w 29)) && decide (entAvg w ≤ 8) && decide (entShift w ≤ 8) &&
    decide (entAvg w ≤ entShift w + 2)

/-- Is an entry imaging-class under a mask (R468)? -/
def entImaging (mask : Nat) (allTagged : Bool) (w : Word) : Bool :=
  let c := entChan w
  c == 41 || allTagged || (decide (c ≤ 11) && mask / 2 ^ c % 2 == 1) ||
    (chanDiff c && mask / 2 ^ (2 * (c - 16)) % 4 != 0)

/-- Is AUX_ALL_TAGGED fused (R38)? -/
def State.axAllTagged (s : State) : Bool := s.flag Fld.DS_FUSE_POLICY_AUX_ALL_TAGGED

/-- The entries of a bank. -/
def State.axEntries (s : State) (bank : Nat) : List Word := (List.range (s.axLen bank)).map (fun k => s.reg (axEnt bank k))

/-- T_pass of a bank in D7 clocks (R461). -/
def State.axPassTime (s : State) (bank : Nat) : Nat := ((s.axEntries bank).map (fun w => 2 ^ entAvg w * entSamp w)).sum

/-- Is a bank valid (R466)? -/
def State.axValid (s : State) (bank : Nat) : Bool :=
  let es := s.axEntries bank
  es.all entValid && (s.axTrig bank != 2 || decide (s.axPassTime bank + 8 ≤ s.axClocks bank)) &&
    (!es.any (entImaging (s.fld Fld.AX_IMG_MASK_AIN) s.axAllTagged) || decide (40 ≤ s.axPassTime bank))

/-- The live bank. -/
def State.axLive (s : State) : Nat := s.fld Fld.AX_STATUS_LIVE

/-! ## Events and codes (R490) -/

/-- Set an AX_EVENT bit, which pends CC_IRQ_PEND.AX where AX_IRQ_EN has it. -/
def State.axEvent (s : State) (f : RegField) : State :=
  let s := s.setFlag f true
  if tstBit (s.reg Reg.AX_IRQ_EN) f.lo then s.pend 14 else s

/-- Raise AX_IMG_DROP or AX_LATE: at most once per second, its counter holding every event. -/
def State.axCounted (s : State) (code : Nat) (f : RegField) : State :=
  let s := s.incSat f 1
  let key := 0x30000000 + code
  let slot := Sparse.get LogSlot.unused s.logSlots key
  let due := match slot.last with
    | none => true
    | some t => oneSecond ≤ (s.localNs - t).toNat
  if due then { s with logSlots := Sparse.put LogSlot.unused key ⟨some s.localNs, 0⟩ s.logSlots }.raiseAx code else s

/-- A late trigger (R462, R477). -/
def State.axLate (s : State) : State := s.axCounted 0x0C03 Fld.AX_LATE_CNT_COUNT

/-- A discarded aux row (R472). -/
def State.axDropRow (s : State) : State := s.axCounted 0x0C02 Fld.AX_IMG_DROP_COUNT

/-- RUNNING: a pass is sampling, or a trigger is awaited under RUN. -/
def State.axSettle (s : State) : State :=
  s.setFlag Fld.AX_STATUS_RUNNING (s.ax.running || !s.ax.passes.isEmpty)

/-! ## Destination (R470, R471) -/

/-- The ring of aux rows of a partition's package: its first row, PART_BASE of the partition's lowest relocation set plus
AUX_ROW, and its length. -/
def State.axRing (s : State) (p : Nat) : Nat × Nat :=
  match (s.partition p).pkg with
  | none => (0, 0)
  | some k => ((((validRels s.sp.inForce).find? (fun r => r.2.1 == p)).map (·.2.2.partBase)).getD 0 + k.auxRow, k.auxRows)

/-- AX_DEST_BASE and AX_DEST_ROWS follow the package of the partition that AX_DEST names. -/
def State.axDestLoad (s : State) : State :=
  let x := s.axRing (s.fld Fld.AX_DEST_PART)
  (s.setFld Fld.AX_DEST_BASE_ROW x.1).setFld Fld.AX_DEST_ROWS_ROWS x.2

/-- Is a package switch or an SP apply of the partition taking effect (R472)? An SP apply is from the moment no task holds it
up. -/
def State.axDestMoves (s : State) (p : Nat) : Bool :=
  s.pk.applying.contains p || s.pk.reloads.head?.any (fun r => r.part == p) ||
    s.sp.captured.any (fun m => !s.applyBlocked m &&
      ((validRels m).filter (fun r => r.2.1 == p) != (validRels s.sp.inForce).filter (fun r => r.2.1 == p) ||
        allBanks.any (fun b => (bankPartition m b == p + 1) != (bankPartition s.sp.inForce b == p + 1))))

/-- The rule of R471: a tile outside the destination partition clears AX_SIG.EN and raises AX_CFG. -/
def State.axSigCheck (s : State) : State :=
  if s.flag Fld.AX_SIG_EN && s.tilePart (s.fld Fld.AX_SIG_TILE) != s.fld Fld.AX_DEST_PART + 1 then
    (s.setFlag Fld.AX_SIG_EN false).raiseAx 0x0C01
  else s

/-- A write to AX_SIG, or (with `dest`) to AX_DEST. -/
def State.axSigWrite (s : State) (dest : Bool) (v : Word) : State :=
  if dest then ((s.setReg Reg.AX_DEST (v &&& 0x00000013)).axDestLoad).axSigCheck
  else (s.setReg Reg.AX_SIG (v &&& 0x800000FF)).axSigCheck

/-- A write to AX_IMG_MASK: a set bit stays set (R468). -/
def State.axMaskWrite (s : State) (v : Word) : State :=
  s.setReg Reg.AX_IMG_MASK (s.reg Reg.AX_IMG_MASK ||| (v &&& 0x00000FFF))

/-! ## Run, switch and triggers (R462, R464, R467, R480) -/

/-- A pending switch takes effect. -/
def State.axFlip (s : State) : State :=
  if s.flag Fld.AX_STATUS_FLIP_PENDING then
    (s.setFld Fld.AX_STATUS_LIVE (s.fld Fld.AX_SEL_BANK)).setFlag Fld.AX_STATUS_FLIP_PENDING false
  else s

/-- RUN takes effect: with AUTO_PD = 0 the converter is powered. -/
def State.axBegin (s : State) : State :=
  let s := { s with ax := { s.ax with running := true } }
  (if s.axAutoPd s.axLive then s else s.setFlag Fld.AX_STATUS_POWERED true).axSettle

/-- A write to AX_SEL (R467): one that changes BANK or sets RUN is refused whole on an invalid bank. A RUN the Primer
writes waits for step 17 (R480). -/
def State.axSelWrite (s : State) (v : Word) : State :=
  let run := tstBit v 0
  let bank := bits v 1 1
  if (bank ≠ s.fld Fld.AX_SEL_BANK ∨ run) ∧ !s.axValid bank then s.raiseAx 0x0C01
  else
    let s := s.setReg Reg.AX_SEL (v &&& 3)
    let s := s.setFlag Fld.AX_STATUS_FLIP_PENDING (bank != s.axLive)
    let s := if s.ax.passes.isEmpty then s.axFlip else s
    if run then (if s.flag Fld.SYS_BOOT_STATUS_BOOT_DONE then s.axBegin else s)
    else
      let s := { s with ax := { s.ax with running := false, trig := false } }.setFlag Fld.AX_STATUS_START_HELD false
      (if s.ax.passes.isEmpty && !s.flag Fld.AX_STATUS_CAL_BUSY then s.setFlag Fld.AX_STATUS_POWERED false else s).axSettle

/-- Is the converter held by a pass or a calibration? -/
def State.axBusy (s : State) : Bool := !s.ax.passes.isEmpty || s.flag Fld.AX_STATUS_CAL_BUSY

/-- START (R462): it triggers a pass under RUN and TRIG 0; while a pass or a calibration runs it is held, and a
further one is late. -/
def State.axStart (s : State) : State :=
  if !s.ax.running || s.axTrig s.axLive != 0 then s
  else if s.axBusy || s.ax.trig then
    if s.flag Fld.AX_STATUS_START_HELD then s.axLate else s.setFlag Fld.AX_STATUS_START_HELD true
  else { s with ax := { s.ax with trig := true } }

/-- AX_POWER_UP (R464). -/
def State.axPowerUp (s : State) : State := if s.ax.running then s.setFlag Fld.AX_STATUS_POWERED true else s

/-- What a pass takes at its start. -/
def State.axNewPass (s : State) : AxPass :=
  { bank := s.axLive
    entries := s.axEntries s.axLive
    mask := s.fld Fld.AX_IMG_MASK_AIN
    dest := s.reg Reg.AX_DEST
    destBase := s.fld Fld.AX_DEST_BASE_ROW
    destRows := s.fld Fld.AX_DEST_ROWS_ROWS
    cal := (List.range 5).map (fun g => (signed 16 (s.fld (Fld.AX_CAL_OFF_OFF g)), s.fld (Fld.AX_CAL_GAIN_GAIN g)))
    sys := (List.range 16).map (fun k => (signed 16 (s.fld (Fld.AX_SYSCAL_SOFF k)), s.fld (Fld.AX_SYSCAL_SGAIN k))) }

/-- AX_PASS_START (R462, R477, R487): `late` says that it was due while the pass before still sampled. A software
pass needs its trigger; during a calibration the trigger is skipped and late; without VDD_PIXA none starts. -/
def State.axPassStart (s : State) (late : Bool) : State :=
  if !s.ax.running then s
  else if s.flag Fld.AX_STATUS_CAL_BUSY then (if s.axTrig s.axLive = 2 ∨ s.axTrig s.axLive = 3 then s.axLate else s)
  else if !s.px.supplyGood then s
  else
    let s := s.axFlip
    let trig := s.axTrig s.axLive
    let soft := trig == 0
    if soft && !s.ax.trig && !s.flag Fld.AX_STATUS_START_HELD then s
    else
      let s := if late && decide (2 ≤ trig) then s.axLate else s
      let s := if s.ax.trig then s else if soft then s.setFlag Fld.AX_STATUS_START_HELD false else s
      let s := s.setFlag Fld.AX_STATUS_POWERED true
      ({ s with ax := { s.ax with trig := false, passes := s.ax.passes ++ [s.axNewPass] } }).axSettle

/-! ## Results (R459, R465, R469) -/

/-- One correction step: ((r − off) × gain + 2^13) >> 14, arithmetic. -/
def axCorrect (f : Int × Nat) (r : Int) : Int := ((r - f.1) * f.2 + 8192) / 16384

/-- The clamp of R459: the value and whether it was clamped. -/
def axClamp (diff : Bool) (c : Int) : Int × Bool :=
  let v := if diff then clampInt (-8192) 8191 c else clampInt 0 16383 c
  (v, v != c)

/-- The result of an entry from its raw samples (R465). -/
def axResult (p : AxPass) (w : Word) (k : Nat) (raw : List Int) : Nat × Bool :=
  let cs := raw.map (fun r =>
    let c := axCorrect (p.cal.getD (entGain w) (0, 0x4000)) r
    let c := if tstBit w 30 then axCorrect (p.sys.getD k (0, 0x4000)) c else c
    axClamp (chanDiff (entChan w)) c)
  let sum := (cs.map (·.1)).sum / (2 ^ entShift w : Int)
  let v := if tstBit w 28 then sum * 2 ^ (16 - (14 + entAvg w - entShift w)) else sum
  (unsigned 16 v, cs.any (·.2))

/-- Change the oldest pass. -/
def State.axModPass (s : State) (f : AxPass → AxPass) : State :=
  { s with ax := { s.ax with passes :=
      match s.ax.passes with
      | [] => []
      | p :: ps => f p :: ps } }

/-- AX_ENTRY_RESULT with the raw samples of the next entry of the oldest pass. -/
def State.axEntryResult (s : State) (raw : List Int) : State :=
  match s.ax.passes with
  | [] => s
  | p :: _ =>
    let k := p.results.length
    if p.entries.length ≤ k then s
    else
      let w := p.entries.getD k 0
      let img := entImaging p.mask s.axAllTagged w
      let r := axResult p w k raw
      let s := (s.incWrap Fld.AX_SAMPLE_CNT_COUNT (2 ^ entAvg w)).axModPass
        (fun p => { p with results := p.results ++ [(r.1, r.2, img)] })
      let old := s.reg (Reg.AX_RESULT k)
      if img then s.setReg (Reg.AX_RESULT k) ((old &&& 0x00090000) ||| 0x00020000)
      else
        let lost := tstBit old 16 || tstBit old 19
        s.setReg (Reg.AX_RESULT k) (word (r.1 + 0x10000 + 0x40000 * bit r.2 + 0x80000 * bit lost))

/-! ## The end of a pass and its aux row (R464, R469 to R472) -/

/-- The aux row of a pass (Table 15.3). -/
def State.axRow (s : State) (p : AxPass) (n : Nat) : Row :=
  let at' := fun k => p.results.getD k (0, false, false)
  let ks := List.range 16
  let ents := (ks.map (fun k => if (at' k).2.2 then 2 ^ k else 0)).sum
  let clamps := (ks.map (fun k => if (at' k).2.2 && (at' k).2.1 then 2 ^ k else 0)).sum
  let vals := ks.flatMap (fun k => toLe 2 (if (at' k).2.2 then (at' k).1 else 0))
  let bytes := toLe 4 n ++ toLe 2 ents ++ toLe 1 p.bank ++ toLe 1 (min 255 s.ax.dropped) ++ vals ++ toLe 2 clamps
  BitVec.ofNat 4096 (le bytes 0 42)

/-- Discard an aux row; only DROPPED counts one that found the FIFO full. -/
def State.axDiscard (s : State) (full : Bool) : State :=
  let s := { s with ax := { s.ax with dropped := s.ax.dropped + 1 } }
  if full then s else s.axDropRow

/-- Queue the aux row of a pass, or discard it (R472). -/
def State.axQueueRow (s : State) (p : AxPass) (n : Nat) : State :=
  let part := bits p.dest 1 0
  if !tstBit p.dest 4 || (s.partition part).pkg.isNone || p.destRows == 0 || s.axDestMoves part then s.axDiscard false
  else if 8 ≤ s.ax.fifo.length then s.axDiscard true
  else
    let r : AxRow := { dest := farKey (p.destBase + n % p.destRows), data := s.axRow p n, part := part }
    { s with ax := { s.ax with fifo := s.ax.fifo ++ [r], dropped := 0 } }

/-- After a pass with AUTO_PD the converter powers down: Periodic with the next due instant 160 clocks away, Software
and Frame with no trigger held, Continuous never (R464). -/
def State.axPowerDown (s : State) : State :=
  let b := s.axLive
  let due := match s.axTrig b with
    | 1 => false
    | 2 => decide (s.axPassTime b + 168 ≤ s.axClocks b)
    | _ => !s.flag Fld.AX_STATUS_START_HELD && !s.ax.trig
  if !s.axBusy && (!s.ax.running || (s.axAutoPd b && due)) then s.setFlag Fld.AX_STATUS_POWERED false else s

/-- A calibration begins: it converts, so the converter is powered for it (DEDUCED, log entry 29). -/
def State.axCalStart (s : State) : State := (s.setFlag Fld.AX_STATUS_CAL_BUSY true).setFlag Fld.AX_STATUS_POWERED true

/-- A calibration ends, and the converter powers down where a pass's end would let it (R464). -/
def State.axCalEnd (s : State) : State := (s.setFlag Fld.AX_STATUS_CAL_BUSY false).axPowerDown

/-- Start a self-calibration that waited for the pass. -/
def State.axCalWaiting (s : State) : State :=
  if s.ax.calNext && s.ax.passes.isEmpty then { s with ax := { s.ax with calNext := false } }.axCalStart else s

/-- AX_PASS_END: the oldest pass's last result is complete. -/
def State.axPassEnd (s : State) : State :=
  match s.ax.passes with
  | [] => s
  | p :: ps =>
    if p.results.length < p.entries.length then s
    else
      let s := { s with ax := { s.ax with passes := ps } }
      let s := (s.incWrap Fld.AX_PASS_CNT_COUNT 1).axEvent Fld.AX_EVENT_PASS_DONE
      let s := if p.results.any (·.2.2) then s.axQueueRow p (s.reg Reg.AX_PASS_CNT).toNat else s
      let s := if ps.isEmpty then s.axFlip else s
      s.axPowerDown.axCalWaiting.axSettle

/-- AUX_ROW_LANDED: a row whose partition has no package, or of which a switch or an SP apply is taking effect, is discarded
(R485). The oldest aux row's handshake completes, after a wait at its bank that is counted (R214), and the counter
is incremented with its tag; a bank that refuses it raises the SP code at the aux writer, whose requester code the spec
does not give (a free value, log entry 2), and the row is counted as dropped. -/
def State.axRowLanded (s : State) (waited : Bool) : State :=
  match s.ax.fifo with
  | [] => s
  | r :: rs =>
    let s := { s with ax := { s.ax with fifo := rs } }
    if (s.partition r.part).pkg.isNone || s.axDestMoves r.part then s.axDiscard false
    else match s.wideCode r.dest with
    | some code => (s.raiseSpOpen code (keyCode r.dest)).axDiscard false
    | none =>
      let sig := if s.flag Fld.AX_SIG_EN then some (s.fld Fld.AX_SIG_TILE, s.fld Fld.AX_SIG_COUNTER) else none
      let s := (s.writeRow r.dest r.data true).incSat Fld.SP_WAIT_CNT_COUNT (bit waited)
      match sig with
      | none => s
      | some (t, k) => s.incCounter t k 1 true

/-! ## Calibration (R475 to R479) -/

/-- SELFCAL: it starts at once or after the pass's last sample; while a calibration runs it is refused. -/
def State.axSelfcal (s : State) : State :=
  if s.flag Fld.AX_STATUS_CAL_BUSY || s.ax.calNext then s.raiseAx 0x0C01
  else ({ s with ax := { s.ax with calNext := true } }).axCalWaiting

/-- Round a quotient to the nearest integer, the half upward. -/
def roundDiv (a b : Int) : Int := if b = 0 then 0 else (2 * a + b) / (2 * b)

/-- The factors of one gain from the sums of its 1,984 raw codes at zero and at +1.2 V / g (R475). -/
def axFactors (m : Int × Int) : Int × Int :=
  let off := roundDiv m.1 1984
  (off, if m.2 - 1984 * off ≤ 0 then 0 else roundDiv (4096 * 16384 * 1984) (m.2 - 1984 * off))

/-- Are factors within what the registers hold (R476)? -/
def axFactorsOk (f : Int × Int) : Bool :=
  decide (-256 ≤ f.1) && decide (f.1 ≤ 255) && decide (0x3800 ≤ f.2) && decide (f.2 ≤ 0x4800)

/-- Write the factors of the gains from index `g`. -/
def State.axSetFactors (s : State) : Nat → List (Int × Int) → State
  | _, [] => s
  | g, f :: fs => ((s.setReg (Reg.AX_CAL_OFF g) (word (unsigned 16 f.1))).setReg (Reg.AX_CAL_GAIN g)
      (word (unsigned 16 f.2))).axSetFactors (g + 1) fs

/-- SELFCAL_DONE with the sums of each gain's two measurements. -/
def State.axSelfcalDone (s : State) (sums : List (Int × Int)) : State :=
  if s.flag Fld.AX_STATUS_CAL_BUSY && s.ax.syscal.isNone then
    let s := s.axCalEnd
    let fs := (List.range 5).map (fun g => axFactors (sums.getD g (0, 0)))
    if fs.all axFactorsOk then
      ((s.axSetFactors 0 fs).setFlag Fld.AX_STATUS_CAL_VALID true).axEvent Fld.AX_EVENT_CAL_DONE
    else s.raiseAx 0x0C04
  else s

/-- A system-calibration command for entry `k` (R478, R479). -/
def State.axSyscal (s : State) (k : Nat) (full : Bool) : State :=
  let w := s.reg (axEnt s.axLive k)
  let img := entImaging (s.fld Fld.AX_IMG_MASK_AIN) s.axAllTagged w
  if s.flag Fld.AX_SEL_RUN || s.flag Fld.AX_STATUS_CAL_BUSY || s.ax.calNext || decide (s.axLen s.axLive ≤ k) ||
      (img && s.lifecycle != 0) then s.raiseAx 0x0C01
  else { s with ax := { s.ax with syscal := some (k, full) } }.axCalStart

/-- SYSCAL_DONE with the step's 256 raw samples: SOFF or SGAIN is stored, or AX_SYSCAL_FAIL raised. -/
def State.axSyscalDone (s : State) (raw : List Int) : State :=
  match s.ax.syscal with
  | none => s
  | some (k, full) =>
    let s := { s with ax := { s.ax with syscal := none } }.axCalEnd
    let g := entGain (s.reg (axEnt s.axLive k))
    let f := (signed 16 (s.fld (Fld.AX_CAL_OFF_OFF g)), s.fld (Fld.AX_CAL_GAIN_GAIN g))
    let sum := (raw.map (axCorrect f)).sum
    let n : Int := raw.length
    let s := if full then
        let target := signed 16 (s.fld Fld.AX_SYSCAL_TARGET_TARGET)
        let den := sum - n * signed 16 (s.fld (Fld.AX_SYSCAL_SOFF k))
        let gain := roundDiv (target * 16384 * n) den
        if target ≠ 0 ∧ 0x2000 ≤ gain ∧ gain ≤ 0x8000 then s.setFld (Fld.AX_SYSCAL_SGAIN k) gain.toNat
        else s.raiseAx 0x0C05
      else s.setFld (Fld.AX_SYSCAL_SOFF k) (unsigned 16 (roundDiv sum n))
    s.axEvent Fld.AX_EVENT_SYSCAL_DONE

/-! ## Locks and supply (R467, R482, R487) -/

/-- A write to an entry, AX_SEQx_CFG or AX_SEQx_PERIOD of bank `b` is ignored with AX_CFG while the bank is live or has
a switch pending. -/
def State.axLocked (s : State) (b : Nat) : Bool :=
  b == s.axLive || (s.flag Fld.AX_STATUS_FLIP_PENDING && b == s.fld Fld.AX_SEL_BANK)

/-- VDD_PIXA fell (R487): the pass is abandoned, and a calibration that runs, or would begin at the pass's end, fails. -/
def State.axSupplyLost (s : State) : State :=
  if s.ax.passes.isEmpty && !s.flag Fld.AX_STATUS_CAL_BUSY then s
  else
    let s := { s with ax := { s.ax with passes := [], syscal := none, calNext := false, trig := false } }
    (s.axCalEnd.raiseAx 0x0C06).axSettle

/-- The sequencer stops for Doze or Off (R482); its configuration and factors stand. -/
def State.axSuspend (s : State) : State :=
  ({ s with ax := { s.ax with running := false, trig := false, calNext := false, passes := [] } }.setFlag
    Fld.AX_STATUS_POWERED false).axSettle

/-- The sequencer resumes after a self-calibration (R477, R480, R482). -/
def State.axResume (s : State) : State := if s.flag Fld.AX_SEL_RUN then s.axBegin else s

/-! ## Meanings -/

def execStart (s : State) : Host.Outcome State Fault Refusal := .next s.axStart
def execSelfcal (s : State) : Host.Outcome State Fault Refusal := .next s.axSelfcal
def execSyscalZero (k : Fin 16) (s : State) : Host.Outcome State Fault Refusal := .next (s.axSyscal k false)
def execSyscalFull (k : Fin 16) (s : State) : Host.Outcome State Fault Refusal := .next (s.axSyscal k true)
def execAxRun (run : Bool) (s : State) : Host.Outcome State Fault Refusal :=
  .next (s.axSelWrite (setBits (s.reg Reg.AX_SEL) 0 0 (bit run)))
def execAxBankSwitch (bank : Fin 2) (s : State) : Host.Outcome State Fault Refusal :=
  .next (s.axSelWrite (setBits (s.reg Reg.AX_SEL) 1 1 bank))
def execAxImgMaskWrite (v : Word) (s : State) : Host.Outcome State Fault Refusal := .next (s.axMaskWrite v)
def execAxSigWrite (dest : Bool) (v : Word) (s : State) : Host.Outcome State Fault Refusal :=
  .next (s.axSigWrite dest v)
def execAxPowerUp (s : State) : Host.Outcome State Fault Refusal := .next s.axPowerUp
def execAxPassStart (late : Bool) (s : State) : Host.Outcome State Fault Refusal := .next (s.axPassStart late)
def execAxEntryResult (raw : List Int) (s : State) : Host.Outcome State Fault Refusal := .next (s.axEntryResult raw)
def execAxPassEnd (s : State) : Host.Outcome State Fault Refusal := .next s.axPassEnd
def execAuxRowLanded (waited : Bool) (s : State) : Host.Outcome State Fault Refusal := .next (s.axRowLanded waited)
def execSelfcalDone (sums : List (Int × Int)) (s : State) : Host.Outcome State Fault Refusal :=
  .next (s.axSelfcalDone sums)
def execSyscalDone (raw : List Int) (s : State) : Host.Outcome State Fault Refusal := .next (s.axSyscalDone raw)

end Sys2Proof.Machine
end

