-- ==== Sys2Proof/Machine/LinkBase.lean ====
section
/-! DEFINITION. The ports of the Lath link as a pin, a register or a power state opens and closes them (R69, R110,
R399, R412). -/

namespace Sys2Proof.Machine

/-- Port states of LK_STATUS (Table 13.11). -/
def portClosed : Nat := 0
def portTraining : Nat := 1
def portUp : Nat := 2

/-- The state field and the neighbour field of a port. -/
def portFld : Port → RegField
  | .u => Fld.LK_STATUS_U_STATE
  | .d => Fld.LK_STATUS_D_STATE
def nbrFld : Port → RegField
  | .u => Fld.LK_STATUS_U_NBR
  | .d => Fld.LK_STATUS_D_NBR

/-- Is a port up? -/
def State.portUp (s : State) (p : Port) : Bool := s.fld (portFld p) == Machine.portUp

/-- Close both ports: the bypass closes, frames leaving them are cut, and the path delay is no longer valid (R69,
R405, R444). -/
def State.closePorts (s : State) : State :=
  let s := ((s.setFld Fld.LK_STATUS_U_STATE portClosed).setFld Fld.LK_STATUS_D_STATE portClosed).setFlag
    Fld.TM_STATUS_PATH_VALID false
  { s with link := { s.link with
      opening := false, trainU := 0, trainD := 0, knownU := none, knownD := none, up := [], waiting := []
      downBusy := 0, wakeWaits := none, delayReq := none } }

/-- May the link controller open the ports: step 17 is past, the device is not in or entering Doze or Off, LHOLD_N is
high and PORT_EN is 1 (R399, R412)? -/
def State.mayOpen (s : State) : Bool :=
  (s.fld Fld.SYS_BOOT_STATUS_PHASE == 1 || s.fld Fld.SYS_BOOT_STATUS_PHASE == 2) && decide (s.fld Fld.PW_STATE_STATE < 3) &&
    s.pins.lholdN && s.flag Fld.LK_CFG_PORT_EN

/-- The ports are due to be opened. -/
def State.openDue (s : State) : State :=
  if s.mayOpen && s.fld Fld.LK_STATUS_U_STATE == portClosed then { s with link := { s.link with opening := true } } else s

/-- The last record of a path's cursor: a cursor that is enabled stands at the newest record (R419). -/
def State.cursorNow (s : State) : Nat := s.eg.taken + s.eg.queue.length

/-- A write to LK_CFG: PORT_EN closes or opens the ports, and RECORDS newly set places the cursor. -/
def State.lkCfgWrite (s : State) (v : Word) : State :=
  let was := s.flag Fld.LK_CFG_RECORDS
  let s := s.setReg Reg.LK_CFG (v &&& 0x00117F01)
  let s := if s.flag Fld.LK_CFG_RECORDS && !was then
      { s with link := { s.link with cursor := s.cursorNow, offered := 0 } } else s
  if s.flag Fld.LK_CFG_PORT_EN then s.openDue else s.closePorts

/-- A write to HP_CFG. -/
def State.hpCfgWrite (s : State) (v : Word) : State :=
  let was := s.flag Fld.HP_CFG_RECORDS
  let s := s.setReg Reg.HP_CFG (v &&& 1)
  if s.flag Fld.HP_CFG_RECORDS && !was then { s with spi := { s.spi with cursor := s.cursorNow, offered := 0 } } else s

/-- Records that every enabled cursor has passed leave the queue (R419). -/
def State.trimPassed (s : State) : State :=
  let lk := if s.flag Fld.LK_CFG_RECORDS then some s.link.cursor else none
  let hp := if s.flag Fld.HP_CFG_RECORDS then some s.spi.cursor else none
  let low := match lk, hp with
    | some a, some b => min a b
    | some a, none => a
    | none, some b => b
    | none, none => s.cursorNow
  let n := min (low - s.eg.taken) s.eg.queue.length
  { s with eg := { s.eg with queue := s.eg.queue.drop n, taken := s.eg.taken + n } }

/-- Set an event bit of the Lath path alone. -/
def State.linkEvent (s : State) (k : Nat) : State := s.lathEvent k

end Sys2Proof.Machine
end

