-- ==== Sys2Proof/Machine/Reset.lean ====
section
/-! DEFINITION. Resets: what a system reset returns to its reset value, what the always-on and VBAT domains
keep, and the start of the boot sequence (R31, R84, R85, R108, R370, R380, R410, R435, R440, R551). -/

namespace Sys2Proof.Machine

/-- Registers kept whole across a reset that keeps VDD_AON: the calendar's (Table 14.6, "Kept") and EG_SEQ. -/
def keptRegs : List Nat :=
  [Reg.EG_SEQ, Reg.TM_RTC_TIME, Reg.TM_RTC_DATE, Reg.TM_CAP_TIME, Reg.TM_CAP_DATE, Reg.TM_CAP_SUBSEC,
   Reg.TM_SET_TIME, Reg.TM_SET_DATE, Reg.TM_ALARM_TIME, Reg.TM_ALARM_DATE, Reg.TM_RTC_TRIM]

/-- The reset causes of Table 4.15. -/
def causePowerOn : Nat := 0
def causeResetN : Nat := 1
def causeBrownout : Nat := 2
def causeRetry : Nat := 3
def causeSoftware : Nat := 4
def causeLifecycle : Nat := 5
def causeWatchdog : Nat := 6

/-- A field's value carried over from another state. -/
def State.keepFld (s old : State) (f : RegField) : State := s.setFld f (old.fld f)

/-- The egress state a reset keeps: the slot counters, the release period and the admission counts. -/
def EgState.kept (e : EgState) : EgState :=
  { slots := e.slots, partSlots := e.partSlots, periodSlot := e.periodSlot, periodOpen := e.periodOpen
    index := e.index, admissions := e.admissions }

/-- The time base a reset keeps: the calendar, local time, Plumb time and the servo (R441); the reference stops. -/
def TimeState.kept (t : TimeState) : TimeState :=
  { localT := t.localT, plumbT := t.plumbT, calSub := t.calSub, trimPhase := t.trimPhase, d8Acc := t.d8Acc
    slew := t.slew, slewLeft := t.slewLeft, good := t.good, outlier := t.outlier
    lastSync := t.lastSync, interval := t.interval }

/-- The time base when VDD_AON rises: local time is 0 and the servo starts afresh (R441). -/
def TimeState.risen (t : TimeState) : TimeState :=
  { localT := 0, plumbT := t.plumbT, calSub := t.calSub, trimPhase := t.trimPhase, d8Acc := t.d8Acc }

/-- The boot ROM's state a reset keeps: the codes held for the Snag Log and the VBAT flags. -/
def BootState.kept (b : BootState) : BootState :=
  { step := 0, aonRose := b.aonRose, held := b.held, brownout := b.brownout, ldoOvl := b.ldoOvl }

/-- `n` free bytes, from the free rows numbered `i` on. -/
def freeBytes (i n : Nat) : List Byte :=
  (List.range n).map (fun k => (Config.freeRow (i + k / 512)).extractLsb' (8 * (k % 512)) 8)

/-- What a reset leaves of the NVM operation in progress, which the spec does not say: bits a program was to clear are free,
and so is every byte of an erase (R108; DESIGN CHOICE, log entry 41). -/
def State.nvmTorn (s : State) : State :=
  match s.mg.current.bind (fun snag => (if snag then s.mg.snagOps else s.mg.updOps).head?) with
  | none => s
  | some o =>
    let n := if o.erase ≠ 0 then o.erase else o.data.length
    let free := freeBytes s.freeIdx n
    let old := Sparse.gets nvmDefault s.nvm o.addr n
    let new := if o.erase ≠ 0 then free else
      (old.zip (o.data.zip free)).map (fun p => p.1 &&& (p.2.1 ||| p.2.2))
    { s with nvm := Sparse.puts nvmDefault o.addr new s.nvm, freeIdx := s.freeIdx + n / 512 + 1 }

/-- A system reset with its cause (R85): every block returns to its reset values (R108), queued Snag Log entries
are lost (R531), and reset stays asserted until the boot starts. -/
def State.systemReset (s : State) (cause : Nat) : State :=
  let s := s.nvmTorn
  let t : State :=
    { regs := s.regs.filter (fun e => keptRegs.contains e.1)
      time := s.time.kept
      mem := s.mem
      tags := s.tags
      nvm := s.nvm
      spillMem := s.spillMem
      fuses := s.fuses
      ds := { lastDigest := s.ds.lastDigest }
      sp := { ecc := s.sp.ecc, badParity := s.sp.badParity }
      sramEcc := s.sramEcc
      eg := s.eg.kept
      pw := { temps := s.pw.temps }
      pins := { s.pins with vcoreEn := false, scan := false }
      boot := { s.boot.kept with lastReset := some (cause, s.localNs, s.flag Fld.SYS_WDT_CTRL_EN) }
      freeIdx := s.freeIdx
      pending := s.pending }
  let t := [Fld.TM_STATUS_OSC_STOP, Fld.TM_STATUS_CAL_WRAP, Fld.TM_STATUS_STATE, Fld.TM_STATUS_LOCKED, Fld.TM_RATE_PPB,
    Fld.SYS_BOOT_STATUS_EXCLUDED, Fld.SYS_BOOT_STATUS_RETRIES].foldl (fun t f => t.keepFld s f) t
  t.setFld Fld.SYS_RESET_CAUSE_CAUSE cause

/-- Is a held entry the code of a boot failure that no reset has taken up yet (R106)? -/
def HeldCode.bootFailure (h : HeldCode) : Bool := h.kind == 1 && h.code / 256 == 0x0F

/-- The entries held for step 10 once a reset of a cause has been recorded: the reset's entry carries the code of the boot
failure before it, and without one every cause but power-on and RESET_N has an entry of its own, a brown-out's before what it
holds (R85, R106, Tables 17.5 and 18.2). -/
def heldAfterReset (cause : Nat) (held : List HeldCode) : List HeldCode :=
  if held.any HeldCode.bootFailure then
    held.map (fun h => if h.bootFailure then ⟨2, h.code, cause⟩ else h)
  else if cause ≤ 1 then held
  else if cause = causeBrownout then ⟨2, 0, cause⟩ :: held
  else held ++ [⟨2, 0, cause⟩]

/-- Step 1 of Table 3.1: reset is released and the oscillator enabled; the reset's Snag Log entry is due at step 10 (R85). -/
def State.startBoot (s : State) : State :=
  { s with boot := { s.boot with
      step := 1, held := heldAfterReset (s.fld Fld.SYS_RESET_CAUSE_CAUSE) s.boot.held } }

/-- A reset followed by its boot. -/
def State.resetAndBoot (s : State) (cause : Nat) : State := (s.systemReset cause).startBoot

/-- Hold a code in the always-on domain for the Snag Log of the next boot. -/
def State.holdCode (s : State) (code arg : Nat) : State :=
  { s with boot := { s.boot with held := s.boot.held ++ [⟨1, code, arg⟩] } }

/-- The fused budgets (R26): 8,192 bits less 64 per step, 64,000 bit/s less 500 per step. -/
def Fuses.frameBudget (f : Fuses) : Nat := 8192 - 64 * (f.frameCut % 128)
def Fuses.rateBudget (f : Fuses) : Nat := 64000 - 500 * (f.rateCut % 128)

/-- VDD_AON was lost: local time starts at 0 (R441), every egress slot is charged at one hundredth of the
window (R31), SEQ and the admission counts start afresh (R370, R374), and what the always-on domain held is gone. The
brown-out flag of the VBAT domain, when VBAT kept it, makes the cause 2 (R551), and PW_LDO_OVL is then due for the log
(R507). With VBAT lost too the calendar is meaningless: OSC_STOP (R437). -/
def State.aonLost (s : State) (vbatKept : Bool) : State :=
  let brown := vbatKept && s.boot.brownout
  let ovl := vbatKept && s.boot.ldoOvl
  let s := s.systemReset (if brown then causeBrownout else causePowerOn)
  let s := (s.setFld Fld.SYS_BOOT_STATUS_EXCLUDED 0).setFld Fld.SYS_BOOT_STATUS_RETRIES 0
  let s := ((s.setReg Reg.EG_SEQ 0).setReg Reg.TM_RATE 0).setFld ⟨Reg.TM_STATUS, 2, 0⟩ 0
  let s := if vbatKept then s else s.setFlag Fld.TM_STATUS_OSC_STOP true
  { s with
    time := s.time.risen
    eg := { slots := List.replicate 100 (s.fuses.rateBudget / 10) }
    ds := {}
    pins := { s.pins with vddAon := true }
    boot := { step := 0, aonRose := true, held := if ovl then [⟨1, 0x0D07, 0⟩] else [] } }

/-- POWER_ON: VDD_AON rises while RESET_N is high, and the boot starts (R84); TEST_EN counts as it stands then (R80). -/
def State.powerOn (s : State) (vbatKept testEn : Bool) : State :=
  let s := (s.aonLost vbatKept).startBoot
  { s with pins := { s.pins with resetN := true, testEn := testEn } }

/-- RESET_N_ASSERT: a valid low pulse resets the device with cause RESET_N; without VDD_AON there is nothing
to reset (R84, R85). -/
def State.resetAssert (s : State) : State :=
  let s := { s with pins := { s.pins with resetN := false } }
  if s.pins.vddAon then s.systemReset causeResetN else s

/-- RESET_N_RELEASE: the boot starts. When VDD_AON rose while RESET_N was low, the event's cause is that of the
rise (R84). TEST_EN counts as it stands then (R80). -/
def State.resetRelease (s : State) (vbatKept testEn : Bool) : State :=
  if s.pins.resetN then s
  else
    let s := { s with pins := { s.pins with resetN := true, testEn := testEn } }
    if s.pins.vddAon then s.startBoot else (s.aonLost vbatKept).startBoot

/-- VDD_AON_BROWNOUT: reset; the bypass closes and the outputs release with their registers; the VBAT flag is set
(R551). -/
def State.aonBrownout (s : State) : State :=
  let s := s.systemReset (s.fld Fld.SYS_RESET_CAUSE_CAUSE)
  { s with
    pins := { s.pins with vddAon := false }
    boot := { s.boot with brownout := true } }

/-- LDO_OVERLOAD: the always-on load passed 15 mA in low-power mode, so the domain browns out and the flag of R507
is set; with VDD_AON still present the boot starts at once. -/
def State.ldoOverload (s : State) : State :=
  if s.flag Fld.PW_STATUS_LDO_NORMAL then s
  else if s.power = 2 ∨ s.power = 3 ∨ s.power = 4 then
    let s := s.aonBrownout
    { s with boot := { s.boot with ldoOvl := true } }.powerOn true s.pins.testEn
  else s

/-! ## Meanings -/

def execPowerOn (vbatKept testEn : Bool) (s : State) : Host.Outcome State Fault Refusal := .next (s.powerOn vbatKept testEn)
def execResetNAssert (s : State) : Host.Outcome State Fault Refusal := .next s.resetAssert
def execResetNRelease (vbatKept testEn : Bool) (s : State) : Host.Outcome State Fault Refusal :=
  .next (s.resetRelease vbatKept testEn)
def execVddAonBrownout (s : State) : Host.Outcome State Fault Refusal := .next s.aonBrownout
def execLdoOverload (s : State) : Host.Outcome State Fault Refusal := .next s.ldoOverload

end Sys2Proof.Machine
end

