-- ==== Sys2Proof/Machine/DustSheet.lean ====
section
/-! DEFINITION. The Dust Sheet's commands: key slots and authorisations, the lifecycle, tag queries, digest runs and
tile debug (R36, R40 to R42, R49, R95, R527, R537, Tables 1.3, 1.4, 1.8 to 1.15, 17.7, 17.8). -/

namespace Sys2Proof.Machine

/-! ## Fuses as they read (R40, R537) -/

/-- Majority vote over three copies of a bit; a copy that cannot be read decides nothing, and without two equal
copies the vote fails. -/
def voteBit (l : List (Option Bool)) : Option Bool :=
  if 2 ≤ (l.filter (· == some true)).length then some true
  else if 2 ≤ (l.filter (· == some false)).length then some false
  else none

/-- The lifecycle state of the state fuses (R40): 6 stands for Invalid. The copies are lists of bits 0 to 2. -/
def Fuses.lifecycle (f : Fuses) : Nat :=
  match (List.range 3).mapM (fun k => voteBit (f.lc.map (fun c => c.getD k none))) with
  | none => 6
  | some bs =>
    let n := (bs.zipIdx.map (fun b => bit b.1 * 2 ^ b.2)).sum
    if n = 0 ∨ n = 1 ∨ n = 3 ∨ n = 7 then n else 6

/-- Set the state bits of `n` in every copy. -/
def Fuses.setLc (f : Fuses) (n : Nat) : Fuses :=
  { f with lc := f.lc.map (fun c => c.zipIdx.map (fun b => if n / 2 ^ b.2 % 2 = 1 then some true else b.1)) }

/-- Is slot `k` programmed, and usable: programmed, readable and not revoked (R95, R537)? -/
def Fuses.programmed (f : Fuses) (k : Nat) : Bool := (f.keys.getD k none).isSome
def Fuses.isRevoked (f : Fuses) (k : Nat) : Bool := f.revoked.getD k false || f.keyBad.getD k false
def Fuses.usable (f : Fuses) (k : Nat) : Bool := f.programmed k && !f.isRevoked k

/-- The fused policy word, laid out as DS_FUSE_POLICY (Table 1.11). -/
def Fuses.policy (f : Fuses) : Word :=
  word (f.frameCut % 128 + 256 * (f.rateCut % 128) + 65536 * (f.schemaForbid % 128) + 2 ^ 24 * bit f.auxAllTagged)

/-- The UID as 8 little-endian bytes. -/
def State.uidBytes (s : State) : List Byte := toLe 8 s.fuses.uid.toNat

/-- ASCII strings of the signed messages. -/
def asciiBytes (t : String) : List Byte := t.toList.map (fun c => BitVec.ofNat 8 c.toNat)

/-- Does an Ed25519 signature over a message pass against some usable key slot but `except` (R41, R527)? -/
def State.authOk (s : State) (except : Option Nat) (msg sig : List Byte) : Bool :=
  (List.range 4).any (fun k => some k != except && s.fuses.usable k &&
    match s.fuses.keys.getD k none with
    | none => false
    | some d => Config.ed25519 (Config.slotKey d) msg sig)

/-- The signature rule of R95 on an image: KEY_SLOT, the signature block at SIG_OFF, and the unsigned case. -/
def State.signatureOk (s : State) (img : List Byte) (slot sigOff : Nat) : Bool :=
  if slot = 0xFF then s.lifecycle == 0 || s.lifecycle == 7
  else if slot < 4 then
    let key := (img.drop sigOff).take 32
    let sig := (img.drop (sigOff + 32)).take 64
    s.fuses.usable slot && s.fuses.keys.getD slot none == some (Config.sha256 key) &&
      Config.ed25519 key (img.take sigOff) sig
  else false

/-! ## Lifecycle commands (R41, R49, Table 1.4) -/

/-- A lifecycle command is refused (DS_LC_CMD_DENIED). Its SRC is the management core, 0x10, which wrote the command, also
where the token fails (DESIGN CHOICE, log entry 40: R50 leaves open whether it is the verifier's 0x60). -/
def State.lcDenied (s : State) (r : Requester) : State :=
  ((s.raiseDs 0x010A r Reg.DS_LC_CMD).setFlag Fld.DS_LC_STATUS_FAIL true).setFld Fld.DS_LC_STATUS_CODE 0x010A

/-- Start the fuse program of a lifecycle command. -/
def State.lcProgram (s : State) (op : Nat) : State :=
  { s with mg := { s.mg with job := some { op := op } } }.setFlag Fld.DS_LC_STATUS_BUSY true

/-- The return token: DS_LC_TOKEN's 64 bytes over the UID and "RETURN". -/
def State.tokenOk (s : State) : Bool :=
  s.authOk none (s.uidBytes ++ asciiBytes "RETURN")
    ((List.range 16).flatMap (fun k => toLe 4 (s.reg (Reg.DS_LC_TOKEN k)).toNat))

/-- An open update ends aborted (R535). -/
def State.abortUpdate (s : State) : State :=
  let st := s.fld Fld.MG_UPD_STATUS_STATE
  if 1 ≤ st ∧ st ≤ 3 then
    { s with mg := { s.mg with
        updOps := if s.mg.current = some false then s.mg.updOps.take 1 else [], programmed := [] } }.setFld
      Fld.MG_UPD_STATUS_STATE 6
  else s

/-- Steps 3 and 4 of Table 1.4: the front end stops writing, every task ends, and the gate discards candidates and
unreleased records. -/
def State.returnStop (s : State) : State :=
  let s := s.abortUpdate
  let s := s.endTasks (List.range 16)
  let s := { s with
    ds := { s.ds with pixelStopped := true, returnStep := 5 }
    px := { s.px with frames := [], fifo := [], exposing := false }
    parts := s.parts.map (fun (p : PartState) => { p with copies := [], frame := none })
    eg := { s.eg with gateRecs := [] } }
  (s.setFlag Fld.PX_CTRL_RUN false).setFld Fld.PX_STATUS_STATE 0

/-- Carry out a write of the management core to DS_LC_CMD. One written while DS_LC_STATUS.BUSY is set or another fuse
program runs is refused, which the spec leaves open (DESIGN CHOICE, log entry 40). -/
def State.lcBegin (s : State) (v : Word) : State :=
  let lc := s.lifecycle
  if bits v 31 16 ≠ 0x5EA1 ∨ s.flag Fld.DS_LC_STATUS_BUSY ∨ s.mg.job.isSome then s.lcDenied .mgmt
  else match bits v 3 0 with
    | 1 => if lc = 0 ∧ (List.range 4).any s.fuses.programmed then s.lcProgram 6 else s.lcDenied .mgmt
    | 2 => if lc = 1 then s.lcProgram 7 else s.lcDenied .mgmt
    | 3 => if s.inService ∧ s.tokenOk then s.returnStop.lcProgram 8 else s.lcDenied .mgmt
    | _ => s.lcDenied .mgmt

/-- A write to DS_LC_CMD: any requester but the management core is ignored with DS_LC_CMD_DENIED; while a digest
run is in progress the command is held (R49). -/
def State.lcWrite (s : State) (r : Requester) (v : Word) : State :=
  if r ≠ .mgmt then s.raiseDs 0x010A r Reg.DS_LC_CMD
  else if s.flag Fld.DS_DIG_STATUS_BUSY then { s with ds := { s.ds with lcHeld := some v.toNat } }
  else s.lcBegin v

/-- The word of DS_LC_CMD with a command and its CONFIRM. -/
def lcWord (cmd confirm : Nat) : Word := word (cmd + 65536 * (confirm % 65536))

/-! ## Tag queries -/

/-- A write to DS_TAG_QUERY (Table 1.14); TAGGED is a free value where VALID is 0 (log entry 2). -/
def State.tagQuery (s : State) (v : Word) : State :=
  let a := v.toNat
  let ok := regionOf a == some 4 || regionOf a == some 5
  let s := (s.setReg Reg.DS_TAG_QUERY v).setFlag Fld.DS_TAG_RESULT_VALID ok
  if ok then s.setFlag Fld.DS_TAG_RESULT_TAGGED (s.tagged (a / 512))
  else (s.setFlag Fld.DS_TAG_RESULT_TAGGED (s.free 1 == 1)).nextFree

/-! ## Digest runs (R42) -/

/-- May a digest run of a mode start? -/
def State.digestAllowed (s : State) (mode : Nat) : Bool :=
  let rate := match s.ds.lastDigest with
    | none => true
    | some t => decide (100000000 ≤ (s.localNs - t).toNat)
  ((mode == 1 && s.lifecycle != 6) || (mode == 2 && s.lifecycle == 0)) && s.sensorStopped &&
    !s.flag Fld.DS_DIG_STATUS_BUSY && s.flag Fld.SYS_BOOT_STATUS_BOOT_DONE && rate

/-- A write to DS_DIG_CTRL with START = 1. -/
def State.digestStart (s : State) (r : Requester) (v : Word) : State :=
  let s := s.setReg Reg.DS_DIG_CTRL (v &&& 0x00000FF3)
  if !tstBit v 16 then s
  else if s.digestAllowed (bits v 1 0) then
    { s with ds := { s.ds with lastDigest := some s.localNs } }.setFlag Fld.DS_DIG_STATUS_BUSY true
  else (s.raiseDs 0x010C r Reg.DS_DIG_CTRL).setFlag Fld.DS_DIG_STATUS_DENIED true

/-- Set consecutive registers from address `a`. -/
def State.setRegs (s : State) : Nat → List Word → State
  | _, [] => s
  | a, v :: vs => (s.setReg a v).setRegs (a + 4) vs

/-- Two histogram bins as a register: each saturates at 0xFFFF. -/
def histWord (h : List Nat) (k : Nat) : Word :=
  word (min 0xFFFF (h.getD (2 * k) 0) + 65536 * min 0xFFFF (h.getD (2 * k + 1) 0))

/-- DIGEST_DONE with the digest and the histogram of the run; a held lifecycle command follows (R49). -/
def State.digestDone (s : State) (sha : BitVec 256) (hist : List Nat) : State :=
  if s.flag Fld.DS_DIG_STATUS_BUSY then
    let s := s.setRegs (Reg.DS_DIG_SHA 0) ((List.range 8).map (fun k => sha.extractLsb' (32 * k) 32))
    let s := s.setRegs (Reg.DS_DIG_HIST 0) ((List.range 32).map (histWord hist))
    let s := (s.setFlag Fld.DS_DIG_STATUS_BUSY false).setFlag Fld.DS_DIG_STATUS_DONE true
    match s.ds.lcHeld with
    | none => s
    | some v => { s with ds := { s.ds with lcHeld := none } }.lcBegin (word v)
  else s

/-! ## Tile debug (R36, R244, R257, R540, Table 1.3) -/

/-- A 32-bit piece of a tile's state; none for a counter with its tag (R17, R197). -/
def Tile.debugWord (x : Tile) (what : TileReg) : Option Word :=
  match what with
  | .addr i => some (vget 0 x.a i.val)
  | .loop i => some (word (vget 0 x.l i.val))
  | .vec i w => some ((vget 0 x.v i.val).extractLsb' (32 * w.val) 32)
  | .acc i e => some ((vget {} x.acc i.val).elems.extractLsb' (32 * e.val) 32)
  | .lut w => some (x.lut.extractLsb' (32 * w.val) 32)
  | .counter i =>
    let c := vget {} x.cnt i.val
    if c.tag then none else some (word c.value)
  | .pc => some (word x.pc)
  | .ftz => some (word (bit x.ftz))
  | .flags => some (word (flagBits x.flags))

/-- A debug read of a tile, while the port holds it halted and its task tag is clear (R36, R244); any other is refused
with MG_DEBUG (R540). -/
def State.debugReadTile (s : State) (t : Nat) (what : TileReg) : State :=
  let x := s.tile t
  let held := x.run == .halted || (x.run == .idle && x.haltAfter)
  match x.debugWord what with
  | some v => if held && !x.tag then { s with debug := ⟨false, v⟩ } else { s.raiseMgLog 0x0E0D 0 with debug := ⟨true, 0⟩ }
  | none => { s.raiseMgLog 0x0E0D 0 with debug := ⟨true, 0⟩ }

/-- DEBUG_HALT_TILE. A halt takes hold between bundles: an untagged task halts; a tagged one ends with DS_DEBUG_DENIED, and
the halt completes with its scrub (R36, R257). A tile without a task is held as it stands. A step or a resume lets a halted
tile go on; a step halts it again after its next bundle (log entry 27). While debug is closed the request is refused
with MG_DEBUG (R540); none is taken before step 8 of the boot ends (R87). -/
def State.debugHaltTile (s : State) (t : Nat) (q : DebugReq) : State :=
  let x := s.tile t
  if s.boot.step < 8 then s
  else if !s.debugOpen then s.raiseMgLog 0x0E0D 0
  else match q with
    | .halt =>
      if x.run = .halted then s
      else
        let s := s.setTile t { x with haltAfter := true }
        if x.bundle.isNone then s.holdTile t else s
    | .step => if x.run = .halted then s.setTile t { x with run := .running, haltAfter := true } else s
    | .resume =>
      let x := { x with haltAfter := false }
      s.setTile t (if x.run = .halted then { x with run := .running } else x)
    | .read what => s.debugReadTile t what

/-! ## Meanings -/

def execProvision (r : Requester) (confirm : Nat) (s : State) : Host.Outcome State Fault Refusal :=
  .next (s.lcWrite r (lcWord 1 confirm))
def execSeal (r : Requester) (confirm : Nat) (s : State) : Host.Outcome State Fault Refusal :=
  .next (s.lcWrite r (lcWord 2 confirm))
def execReturn (r : Requester) (confirm : Nat) (s : State) : Host.Outcome State Fault Refusal :=
  .next (s.lcWrite r (lcWord 3 confirm))
def execDsTagQuery (v : Word) (s : State) : Host.Outcome State Fault Refusal := .next (s.tagQuery v)
def execDigestStart (r : Requester) (v : Word) (s : State) : Host.Outcome State Fault Refusal :=
  .next (s.digestStart r v)
def execDigestDone (sha : BitVec 256) (hist : List Nat) (s : State) : Host.Outcome State Fault Refusal :=
  .next (s.digestDone sha hist)
def execDebugHaltTile (t : Fin 16) (q : DebugReq) (s : State) : Host.Outcome State Fault Refusal :=
  .next (s.debugHaltTile t q)

end Sys2Proof.Machine
end

