-- ==== Sys2Proof/Machine/Image.lean ====
section
/-! DEFINITION. What the image formats share: NVM reads, the entry table and its placement rules, and header
checks (R91 to R95, R337, R338, R532, Tables 3.3, 3.4, 11.1 and 17.6). -/

namespace Sys2Proof.Machine

/-- `n` bytes of NVM from offset `o`. -/
def State.nvmBytes (s : State) (o n : Nat) : List Byte := Sparse.gets nvmDefault s.nvm o n

/-- `n` bytes of a byte string from offset `o`. -/
def slice (bs : List Byte) (o n : Nat) : List Byte := (bs.drop o).take n

/-- An entry of a section or segment table (Table 3.4), with its index. -/
structure ImgEntry where
  index : Nat
  type : Nat
  version : Nat
  flags : Nat
  off : Nat
  len : Nat
  crc : Nat
deriving DecidableEq, Repr

/-- The `n` entries of the table at offset 0x40. -/
def imgEntries (img : List Byte) (n : Nat) : List ImgEntry := (List.range n).map (fun i =>
  let e := slice img (0x40 + 16 * i) 16
  ⟨i, le e 0 2, le e 2 1, le e 3 1, le e 4 4, le e 8 4, le e 12 4⟩)

/-- The body of an entry. -/
def ImgEntry.body (e : ImgEntry) (img : List Byte) : List Byte := slice img e.off e.len

/-- OPTIONAL. -/
def ImgEntry.isOptional (e : ImgEntry) : Bool := e.flags % 2 == 1

/-- The entries in the order of their bodies. -/
def byOffset (es : List ImgEntry) : List ImgEntry := sortBy (fun a b => decide (a.off ≤ b.off)) es

/-- The placement rules of R94 but for the bytes between bodies. -/
def placedOk (tableEnd sigOff : Nat) (es : List ImgEntry) : Bool :=
  es.all (fun e => e.off % 8 == 0 && decide (tableEnd ≤ e.off) && e.len != 0 && e.len % 8 == 0 &&
    decide (e.off + e.len ≤ sigOff)) &&
  ((byOffset es).zip ((byOffset es).drop 1)).all (fun p => decide (p.1.off + p.1.len ≤ p.2.off))

/-- Bytes between bodies are zero (R94). Those before the first body and after the last lie between no two bodies, and R94
asks nothing of them (DEDUCED, log entry 13). -/
def gapsZero (img : List Byte) (es : List ImgEntry) : Bool :=
  let es := byOffset es
  (es.zip (es.drop 1)).all (fun p => allZero img (p.1.off + p.1.len) (p.2.off - (p.1.off + p.1.len)))

/-- Every body matches its CRC. -/
def crcsMatch (img : List Byte) (es : List ImgEntry) : Bool :=
  es.all (fun e => (crc32 (e.body img)).toNat == e.crc)

/-- The header rules common to Tables 3.3, 11.1 and 17.6, but for PART: MAGIC, FORMAT, HDR_LEN and HDR_CRC. -/
def headerFrame (h : List Byte) (magic : Nat) : Bool :=
  le h 0 4 == magic && le h 4 2 == 1 && le h 6 2 == 0x40 && (crc32 (h.take 0x3C)).toNat == le h 0x3C 4

/-- PART names this hardware. -/
def headerPart (h : List Byte) : Bool := le h 0x18 4 == 0x4816

/-- The header rules common to Tables 3.3, 11.1 and 17.6. -/
def headerCommon (h : List Byte) (magic : Nat) : Bool := headerFrame h magic && headerPart h

/-- TABLE_CRC over `n` entries. -/
def tableCrcOk (img : List Byte) (n : Nat) : Bool := (crc32 (slice img 0x40 (16 * n))).toNat == le img 0x1C 4

/-- The 32-bit words of a byte string. -/
def wordsOf (bs : List Byte) : List Word := (List.range (bs.length / 4)).map (fun i => word (le bs (4 * i) 4))

/-- The 512-byte rows of a byte string. -/
def rowsIn (bs : List Byte) : List Row :=
  (List.range (bs.length / 512)).map (fun i => BitVec.ofNat 4096 (le (slice bs (512 * i) 512) 0 512))

end Sys2Proof.Machine
end

