-- ==== Sys2Proof/Machine/Supervisor.lean ====
section
/-! DEFINITION. VDD_CORE: the floor and the ceiling, the AVSBus transaction, the deadline supervisor and the
beat monitor (R168, R189 to R191, R508 to R511, R516, R552, R559). -/

namespace Sys2Proof.Machine

/-! ## Floor, set point and ceiling (R511, R516) -/

/-- V_floor: the larger of V_fuse and PW_FLOOR_MV, the register used within 650 to 900 mV. -/
def State.vFloor (s : State) : Nat :=
  max (s.fld Fld.TF_SUP_VFUSE_VFUSE) (clampNat 650 900 (s.fld Fld.PW_FLOOR_MV_MV))

/-- PW_SET_MV as it is used: within 650 to 900 mV and not below V_floor. -/
def State.setPoint (s : State) : Nat := max s.vFloor (clampNat 650 900 (s.fld Fld.PW_SET_MV_MV))

/-- The effective ceiling: TF_SUP_CEIL from V_floor to 900 mV, under the Trim and thermal caps. -/
def State.ceiling (s : State) : Nat :=
  if s.flag Fld.PW_STATUS_CEIL_THERM then s.vFloor
  else
    let c := clampNat s.vFloor 900 (s.fld Fld.TF_SUP_CEIL_CEIL)
    if s.flag Fld.PW_STATUS_CEIL_TRIM then min c (max s.vFloor (s.fld Fld.PW_TRIM_CEIL_MV)) else c

/-! ## The AVSBus transaction (R508 to R510) -/

/-- Change the AVSBus master's state. -/
def State.setAvs (s : State) (a : AvsState) : State := { s with pw := { s.pw with avs := a } }

/-- Start a transaction for a target. -/
def State.avsIssue (s : State) (t : Nat × Bool) : State :=
  let a := s.pw.avs
  let s := s.setAvs { a with current := some t, written := false, nacks := 0, reissue := none }
  ((s.setFld Fld.PW_AVS_STATUS_TARGET_MV t.1).setFlag Fld.PW_AVS_STATUS_OUTSTANDING true).setFlag
    Fld.TF_SUP_STATUS_AVS_WAIT true

/-- A new target: it is issued, or waits behind the one outstanding, where a plain target gives way to a
ceiling request (R508); while LOST is set it waits for a decision (R510). -/
def State.avsTarget (s : State) (mv : Nat) (ceil : Bool) : State :=
  let a := s.pw.avs
  let s := s.setFlag Fld.TF_SUP_STATUS_AVS_WAIT true
  if s.flag Fld.PW_AVS_STATUS_LOST then s.setAvs { a with reissue := some (mv, ceil) }
  else if a.current.isNone then s.avsIssue (mv, ceil)
  else match a.waiting with
    | some (_, true) => if ceil then s.setAvs { a with waiting := some (mv, ceil) } else s
    | _ => s.setAvs { a with waiting := some (mv, ceil) }

/-- Make `mv` the supervisor's request (TF_SUP_STATUS.REQ) and send it. -/
def State.request (s : State) (mv : Nat) (ceil : Bool) : State :=
  (s.setFld Fld.TF_SUP_STATUS_REQ mv).avsTarget mv ceil

/-- The regulator answers a write frame: any SlaveAck but 0b00 repeats the write, twice at most, and then
raises PW_AVS_NACK (R509, Table 16.10). -/
def State.avsWriteAck (s : State) (slaveAck : Nat) : State :=
  let a := s.pw.avs
  if a.current.isNone || a.written then s
  else if slaveAck = 0 then s.setAvs { a with written := true }
  else
    let s := s.setAvs { a with nacks := a.nacks + 1 }
    if a.nacks = 2 then (s.raisePw 0x0D03).logDefault 0 0x0D03 0 else s

/-- End the transaction as acknowledged with voltage `mv`; a waiting target is issued next. -/
def State.avsDone (s : State) (target mv : Nat) : State :=
  let a := s.pw.avs
  let s := s.setAvs { a with current := none, waiting := none, fails := 0, acked := target }
  let s := (s.setFld Fld.PW_AVS_STATUS_ACK_MV mv).setFlag Fld.PW_AVS_STATUS_OUTSTANDING false
  match a.waiting with
  | some w => s.avsIssue w
  | none => s.setFlag Fld.TF_SUP_STATUS_AVS_WAIT false

/-- A read returns `mv`: within ±1 % of the target it acknowledges the request (R509). -/
def State.avsRead (s : State) (mv : Nat) : State :=
  let a := s.pw.avs
  match a.current with
  | none => s
  | some (t, _) =>
    if a.written && decide (100 * mv ≤ 101 * t) && decide (99 * t ≤ 100 * mv) then s.avsDone t mv else s

/-- No acknowledge within TIMEOUT, with the answer of the one read issued then, if any: the code is raised and
logged with target and read-back (Table 18.2), a voltage in range becomes ACK_MV and ends AVS_WAIT, the target
is issued again at the next decision, and the third in a row sets LOST (R509, R510). -/
def State.avsTimeout (s : State) (readBack : Option Nat) : State :=
  let a := s.pw.avs
  match a.current with
  | none => s
  | some t =>
    let mv := readBack.getD 0
    let arg := word (t.1 + 65536 * (mv % 1024))
    let s := s.setAvs { a with
      current := none, waiting := none, written := false, fails := a.fails + 1
      reissue := some (a.waiting.getD t) }
    let s := ((s.setFlag Fld.PW_AVS_STATUS_OUTSTANDING false).raisePw 0x0D04).logDefault 0 0x0D04 arg
    let s := if 650 ≤ mv ∧ mv ≤ 900 then
        (s.setFld Fld.PW_AVS_STATUS_ACK_MV mv).setFlag Fld.TF_SUP_STATUS_AVS_WAIT false
      else s
    if 3 ≤ a.fails + 1 then
      ((s.setFlag Fld.PW_AVS_STATUS_LOST true).raisePw 0x0D05).logDefault 0 0x0D05 arg
    else s

/-- The read issued every 1 s while LOST is set; one answered with SlaveAck 0b00 clears LOST (R510). -/
def State.avsPoll (s : State) (answered : Bool) : State :=
  if s.flag Fld.PW_AVS_STATUS_LOST && answered then
    (s.setAvs { s.pw.avs with fails := 0 }).setFlag Fld.PW_AVS_STATUS_LOST false
  else s

/-! ## The supervisor (R189 to R191, Table 6.19) -/

/-- Does the smallest margin of a period lie below LO, or above HI? None stands for a period in which no frame ended, which
counts as above HI (R189). -/
def State.marginLow (s : State) (m : Option Int) : Bool := m.any (fun x => decide (x < (s.fld Fld.TF_SUP_MARGIN_LO : Int)))
def State.marginHigh (s : State) (m : Option Int) : Bool := m.all (fun x => decide ((s.fld Fld.TF_SUP_MARGIN_HI : Int) < x))

/-- What every period shows, whatever is decided in it: the run of periods above HI, and the end of SATURATED in a period with
m ≥ LO (R189). -/
def State.notePeriod (s : State) (m : Option Int) : State :=
  let s := { s with sup := { s.sup with periods := if s.marginHigh m then s.sup.periods + 1 else 0 } }
  if s.marginLow m then s else s.setFlag Fld.TF_SUP_STATUS_SATURATED false

/-- One decision on a smallest margin `m` (Table 6.19), the period having been noted. -/
def State.superviseOn (s : State) (m : Option Int) : State :=
  let req := s.fld Fld.TF_SUP_STATUS_REQ
  let step := s.fld Fld.TF_SUP_CTRL_STEP
  if s.flag Fld.TF_SUP_STATUS_AVS_WAIT then s
  else if s.flag Fld.TF_SUP_STATUS_SLOW && decide (req < s.ceiling) then s.request s.ceiling true
  else if s.marginLow m then
    if req < s.ceiling then (s.request (min s.ceiling (req + step)) false).incSat Fld.TF_SUP_EVENTS_RAISES 1
    else s.setFlag Fld.TF_SUP_STATUS_SATURATED true
  else if s.marginHigh m && decide (max 1 (s.fld Fld.TF_SUP_CTRL_LOWER_AFTER) ≤ s.sup.periods) && decide (s.vFloor < req) &&
      !s.flag Fld.TF_SUP_STATUS_SLOW then
    ({ s with sup := { s.sup with periods := 0 } }.request (max s.vFloor (req - step)) false).incSat
      Fld.TF_SUP_EVENTS_LOWERS 1
  else s

/-- SUPERVISOR_DECISION, at the end of a period of 8 ms: a target that was not acknowledged is issued again (R509); during an
entry or exit the decision is a hold (R516); with EN 0 the request is the PW set point (R190). -/
def State.supervise (s : State) : State :=
  let m := s.sup.margin
  let s := { s with sup := { s.sup with margin := none } }
  let s := if s.flag Fld.TF_SUP_CTRL_EN then s.notePeriod m else s
  if s.flag Fld.PW_STATE_BUSY then s
  else match s.pw.avs.reissue with
    | some t => if s.flag Fld.PW_AVS_STATUS_LOST || s.pw.avs.current.isSome then s else s.avsIssue t
    | none =>
      if s.flag Fld.TF_SUP_CTRL_EN then s.superviseOn m
      else if s.fld Fld.TF_SUP_STATUS_REQ = s.setPoint then s
      else s.request s.setPoint false

/-- ARG of a TF_SLOW_FLOOR entry (R552). -/
def State.slowArg (s : State) : Word :=
  word (s.fld Fld.TF_BEAT_RATE_RATE + 65536 * s.fld Fld.PW_AVS_STATUS_ACK_MV)

/-- BEAT_MONITOR_MEASURE of a rate in M beats/s (R191). -/
def State.measureBeat (s : State) (rate : Nat) : State :=
  let bad := decide (rate < 900)
  let s := (s.setFld Fld.TF_BEAT_RATE_RATE (min rate 0xFFFF))
  let s := { s with sup := { s.sup with
    slowRuns := if bad then s.sup.slowRuns + 1 else 0
    goodRuns := if bad then 0 else s.sup.goodRuns + 1 } }
  if s.flag Fld.TF_SUP_STATUS_SLOW then
    (if 1000 ≤ s.sup.goodRuns then s.setFlag Fld.TF_SUP_STATUS_SLOW false else s)
  else if 3 ≤ s.sup.slowRuns ∧ s.vFloor ≤ s.pw.avs.acked then
    let s := { s with sup := { s.sup with slowMinutes := 0 } }
    let s := (s.setFlag ⟨Reg.TF_FAULT_STATUS, 6, 6⟩ true).setFlag Fld.TF_SUP_STATUS_SLOW true
    (s.queueSnag (s.mkSnag 1 0 0x0307 1 s.slowArg)).request s.ceiling true
  else s

/-- SLOW_FLOOR_LOG: one further minute of SLOW (R552). -/
def State.slowFloorLog (s : State) : State :=
  if s.flag Fld.TF_SUP_STATUS_SLOW then
    let n := s.sup.slowMinutes + 1
    let s := { s with sup := { s.sup with slowMinutes := n } }
    s.queueSnag (s.mkSnag 1 0 0x0307 n s.slowArg)
  else s

/-- A write to TF_SUP_MARGIN: one whose HI does not exceed its LO is ignored whole (R189). -/
def State.marginWrite (s : State) (v : Word) : State :=
  if bits v 15 0 < bits v 31 16 then s.setReg Reg.TF_SUP_MARGIN v else s

/-! ## Meanings -/

def execSupervisorDecision (s : State) : Host.Outcome State Fault Refusal := .next s.supervise
def execBeatMonitorMeasure (rate : Nat) (s : State) : Host.Outcome State Fault Refusal := .next (s.measureBeat rate)
def execSlowFloorLog (s : State) : Host.Outcome State Fault Refusal := .next s.slowFloorLog
def execTfSupMarginWrite (v : Word) (s : State) : Host.Outcome State Fault Refusal := .next (s.marginWrite v)
def execPwAvsTimeout (readBack : Option Nat) (s : State) : Host.Outcome State Fault Refusal :=
  .next (s.avsTimeout readBack)
def execAvsLostPoll (answered : Bool) (s : State) : Host.Outcome State Fault Refusal := .next (s.avsPoll answered)

end Sys2Proof.Machine
end

