-- ==== Sys2Proof/Machine/RegWrite.lean ====
section
/-! DEFINITION. Writes to the configuration registers: the access codes of Table 0.6, the registers whose write has
a rule of its own, and which registers a Primer section and a change set may write (R7, R98, R308, R346). -/

namespace Sys2Proof.Machine

/-! ## Access codes (R7, Table 0.6) -/

/-- The word a plain write leaves in a register: RW bits take the value, W1C bits clear where it is 1, WO bits are
kept for their block to use, the rest stands. -/
def writtenWord (r : RegRow) (old v : Word) : Word :=
  let rw := word r.rw ||| word r.wo
  let w1c := word r.w1c
  (old &&& ~~~(rw ||| w1c)) ||| (v &&& rw) ||| (old &&& w1c &&& ~~~v)

/-- A plain write; an offset that names no register ignores it (R125). -/
def State.plainWrite (s : State) (a : Nat) (v : Word) : State :=
  match RegMap.find a with
  | none => s
  | some r => s.setReg a (writtenWord r (s.reg a) v)

/-! ## SV (R303, R308, R328, Tables 10.6 and 10.8) -/

/-- A write to SV_CTRL: one refused enable refuses the whole write; else each partition is enabled or disabled. -/
def State.svCtrlWrite (s : State) (v : Word) : State :=
  let news := (List.range 4).filter (fun p => tstBit v p && !s.svEnabled p)
  match news.find? (fun p => !s.svCheck p (s.reg (Reg.SV_CFG p)) (s.reg (Reg.SV_DEADLINE p))) with
  | some p => s.raiseSv 0x0601 p
  | none => (List.range 4).foldl (fun s p => if tstBit v p then s.svEnable p else
      if s.svEnabled p then s.svDisable p else s) s

/-- A write to SV_CFGp, SV_DEADLINEp or SV_CTABLEp (`which` 0, 1, 2): held while the partition is enabled (R308). -/
def State.svHeldWrite (s : State) (p which : Nat) (v : Word) : State :=
  if s.svEnabled p then
    let ps := s.partition p
    s.setPart p (match which with
      | 0 => { ps with heldCfg := some (v &&& 0x00000F3F) }
      | 1 => { ps with heldDeadline := some (v &&& 0x0000FFFF) }
      | _ => { ps with heldCtable := some (v &&& 0x0007FFFF) })
  else s.plainWrite (match which with
    | 0 => Reg.SV_CFG p
    | 1 => Reg.SV_DEADLINE p
    | _ => Reg.SV_CTABLE p) v

/-- A write to a word of SV_DESCt: ignored while the tile's partition is enabled (Table 10.8). -/
def State.svDescWrite (s : State) (t a : Nat) (v : Word) : State :=
  let q := s.tilePart t
  if 1 ≤ q ∧ s.svEnabled (q - 1) then s else s.setReg a v

/-! ## Writes with a rule of their own -/

/-- A write to PX_CTRL: RUN takes its value under R158, and APPLY checks and applies the shadow set. -/
def State.pxCtrlWrite (s : State) (v : Word) : State :=
  let s := if tstBit v 1 then s.pxApply else s
  if tstBit v 0 then s.runStart else if s.flag Fld.PX_CTRL_RUN then s.pxStop else s

/-- A write to SP_XS_CFG: with EN 0 the port is down (R219). -/
def State.xsCfgWrite (s : State) (v : Word) : State :=
  let s := s.plainWrite Reg.SP_XS_CFG v
  if s.flag Fld.SP_XS_CFG_EN then s else s.setFlag Fld.SP_XS_STATUS_READY false

/-- A write by requester-independent rules to a register that a Primer section or a change set may name. -/
def State.cfgWrite (s : State) (a : Nat) (v : Word) : State :=
  let o := a % 0x10000
  match a / 0x10000 with
  | 0x1001 =>
    if a = Reg.DS_CAP_FRAME then s.capFrameWrite v else if a = Reg.DS_CAP_RATE then s.capRateWrite v else s.plainWrite a v
  | 0x1002 => if a = Reg.PX_CTRL then s.pxCtrlWrite v else s.plainWrite a v
  | 0x1003 => if a = Reg.TF_SUP_MARGIN then s.marginWrite v else s.plainWrite a v
  | 0x1004 => if a = Reg.SP_XS_CFG then s.xsCfgWrite v else s.plainWrite a v
  | 0x1006 =>
    if a = Reg.SV_CTRL then s.svCtrlWrite v
    else if 0x100 ≤ o ∧ o < 0x180 ∧ o % 32 ≤ 8 then s.svHeldWrite ((o - 0x100) / 32) (o % 32 / 4) v
    else if 0x400 ≤ o ∧ o < 0x800 ∧ o % 64 < 48 then s.svDescWrite ((o - 0x400) / 64) a v
    else s.plainWrite a v
  | 0x1008 =>
    let s := s.plainWrite a v
    if a = Reg.EG_OUT_CFG 0 then s.checkOutCfg 0 else if a = Reg.EG_OUT_CFG 1 then s.checkOutCfg 1 else s
  | 0x100C =>
    if a = Reg.AX_SEL then s.axSelWrite v
    else if a = Reg.AX_IMG_MASK then s.axMaskWrite v
    else if a = Reg.AX_DEST then s.axSigWrite true v
    else if a = Reg.AX_SIG then s.axSigWrite false v
    else if 0x40 ≤ o ∧ o < 0xC0 ∧ s.flag Fld.AX_STATUS_CAL_BUSY then s.raiseAx 0x0C01
    else if ((0x100 ≤ o ∧ o < 0x140) ∨ o = 0x180 ∨ o = 0x188) ∧ s.axLocked 0 then s.raiseAx 0x0C01
    else if ((0x140 ≤ o ∧ o < 0x180) ∨ o = 0x184 ∨ o = 0x18C) ∧ s.axLocked 1 then s.raiseAx 0x0C01
    else
      let s := s.plainWrite a v
      if a = Reg.AX_IRQ_EN ∧ s.reg Reg.AX_EVENT &&& s.reg Reg.AX_IRQ_EN ≠ 0 then s.pend 14 else s
  | 0x1009 => if a = Reg.LK_ATTN_EN then s.setReg a (v &&& 0x00007F3F) else s.plainWrite a v
  | _ => s.plainWrite a v

/-! ## What a Primer section may write (R97, R98, the Primer columns of the register maps) -/

/-- Is the register at offset `o` of a block settable by a Primer section type (Table 3.5)? Blocks by source byte. -/
def primerSettable (section_ block o : Nat) : Bool :=
  match section_, block with
  | 1, 0x0D => [0x0C, 0x14, 0x18, 0x30, 0x34, 0x38, 0x3C, 0x4C, 0x50].contains o
  | 2, 0x08 => (decide (0x10 ≤ o) && decide (o ≤ 0x1C)) || [0x40, 0x44, 0x48, 0x50, 0x54, 0x58, 0x68, 0x80, 0x88].contains o
  | 2, 0x04 => decide (0x200 ≤ o) && decide (o ≤ 0x224)
  | 2, 0x0E => o == 0x2C
  | 3, 0x0B => [0x08, 0x68, 0x70, 0x74].contains o
  | 3, 0x02 => o == 0x04 || (decide (0x0C ≤ o) && decide (o ≤ 0x34) && o != 0x24) ||
      (decide (0x40 ≤ o) && decide (o ≤ 0x48)) || (decide (0x50 ≤ o) && decide (o ≤ 0x5C)) ||
      (decide (0x70 ≤ o) && decide (o ≤ 0x78))
  | 4, 0x0C => [0x08, 0x10, 0x14, 0x20, 0x24, 0x34].contains o || (decide (0x40 ≤ o) && decide (o < 0x68)) ||
      (decide (0x80 ≤ o) && decide (o < 0xC0)) || (decide (0x100 ≤ o) && decide (o < 0x190))
  | 5, 0x09 => [0x04, 0x08, 0x0C].contains o
  | 5, 0x0A => [0x04, 0x08].contains o
  | 7, 0x06 => o == 0x04 || o == 0x14 || (decide (0x100 ≤ o) && decide (o < 0x180) && decide (o % 32 ≤ 8)) ||
      (decide (0x400 ≤ o) && decide (o < 0x800) && decide (o % 64 < 48))
  | 7, 0x04 => (decide (0x18 ≤ o) && decide (o < 0x30)) || (decide (0x40 ≤ o) && decide (o < 0x60)) ||
      (decide (0x80 ≤ o) && decide (o < 0x140)) || (decide (0x400 ≤ o) && decide (o < 0x800) && decide (o % 32 < 0x1C))
  | 7, 0x03 => [0x04, 0x10, 0x14, 0x18].contains o
  | _, _ => false

/-- The address of an offset in the block with a source byte (Table 4.11). -/
def blockAddr (block o : Nat) : Nat := (if block = 0x10 then 0x100F0000 else 0x10000000 + 0x10000 * block) + o

/-- Bits of a writable register that ignore what is written and are not reserved: bit 6 of LK_ATTN_EN (Table 13.11). -/
def ignoredBits (a : Nat) : Word := if a = Reg.LK_ATTN_EN then 0x40 else 0

/-- Has the value zero in every reserved bit (R7)? The map holds the writable fields; no register that a section may
write has a read-only field beside them. -/
def reservedZero (a : Nat) (v : Word) : Bool :=
  match RegMap.find a with
  | none => false
  | some r => v &&& ~~~(word r.rw ||| word r.w1c ||| word r.wo ||| ignoredBits a) == 0

end Sys2Proof.Machine
end

