-- ==== Sys2Proof/Machine/Loader.lean ====
section
/-! DEFINITION. The package loader: the checks of Table 11.4 on an SMP image and its placement (R94, R227, R228,
R318, R337 to R344, R366, Tables 11.1 to 11.4). -/

namespace Sys2Proof.Machine

/-! ## Parts of an image -/

/-- The manifest (Table 11.3) of a package's header and MANIFEST body. -/
def manifestOf (img m : List Byte) : Package :=
  { version := le img 0x10 4, kernelRev := le img 0x0E 2, arb := le img 0x14 1
    tileMask := le m 2 2, readsRing := le m 4 1 % 2 == 1, farBanks := le m 8 8, farZinit := le m 0x10 8
    pxReq := le m 0x18 4, rsMask := le m 0x1C 4, servRow := le m 0x20 4, servRows := le m 0x24 4
    cacheBase := le m 0x28 4, maxStreams := le m 0x2C 2, er := le m 0x2E 1, admitSlots := le m 0x2F 1
    auxRow := le m 0x30 4, auxRows := le m 0x34 4, ctableRow := le m 0x38 4, labelCount := le m 0x3C 2
    schemas := (List.range (le m 0x3E 1)).map (fun i => le m (0x40 + 2 * i) 2)
    cacheHash := le m 0x60 32
    costs := (List.range 6).map (fun i => le m (0x80 + 4 * i) 4)
    fixed := (List.range 16).map (fun t => le m (0xC0 + 4 * t) 4)
    nearDecl := (List.range 16).map (fun t => le m (0x100 + 4 * t) 4)
    nearZinit := (List.range 16).map (fun t => le m (0x140 + 4 * t) 4) }

/-- The tiles a package owns, ascending. -/
def Package.tiles (k : Package) : List Nat := (List.range 16).filter (fun t => k.tileMask / 2 ^ t % 2 == 1)

/-- SPILL_LIST up to its end (Table 11.3). -/
def spillList (m : List Byte) : List Nat :=
  ((List.range 8).map (fun i => le m (0x98 + 2 * i) 2)).takeWhile (· != 0xFFFF)

/-- A run of rows a segment writes: near of a tile, or far in the partition window; its first row, its rows, and
the segment's index. -/
structure RowRun where
  seg : Nat
  tile : Option Nat
  first : Nat
  data : List Row
deriving DecidableEq, Repr

/-- The runs of a segment (Table 11.2). -/
def runsOf (img : List Byte) (k : Package) (e : ImgEntry) : List RowRun :=
  let b := e.body img
  let rows := rowsIn (b.drop 8)
  match e.type with
  | 2 => k.tiles.map (fun t => ⟨e.index, some t, le b 0 2, rows⟩)
  | 3 => [⟨e.index, some (le b 0 1), le b 2 2, rows⟩]
  | 4 => [⟨e.index, if le b 0 1 = 1 then none else some (le b 1 1), le b 4 4, rows⟩]
  | 7 => [⟨e.index, none, k.ctableRow, rowsIn b⟩]
  | _ => []

/-- The entries of one segment type that count: VERSION 1 (R338). -/
def segsOf (es : List ImgEntry) (t : Nat) : List ImgEntry := es.filter (fun e => e.type == t && e.version == 1)

/-- The first body of a type. -/
def bodyOf (img : List Byte) (es : List ImgEntry) (t : Nat) : List Byte :=
  match segsOf es t with
  | [] => []
  | e :: _ => e.body img

/-- RELOC: set index and the seven register values of each entry. -/
def relocsOf (b : List Byte) : List (Nat × List Word) := (List.range (b.length / 32)).map (fun i =>
  let e := slice b (32 * i) 32
  (le e 0 1, wordsOf (e.drop 4)))

/-- DESC: the twelve words of each tile's descriptor. -/
def descsOf (b : List Byte) (tiles : List Nat) : List (Nat × List Word) :=
  tiles.zipIdx.map (fun p => (p.1, wordsOf (slice b (48 * p.2) 48)))

/-- PART_BASE and PART_SIZE of a package's lowest-numbered VALID set that has a partition window (log entry 20). -/
def Package.window (k : Package) : Nat × Nat :=
  let own := (List.range 32).filterMap (fun n => (k.relocs.find? (fun r => r.1 == n)).map (·.2))
  match own.find? (fun w => tstBit (w.getD 0 0) 0 && bits (w.getD 6 0) 18 0 != 0) with
  | none => (0, 0)
  | some w => (bits (w.getD 5 0) 18 0, bits (w.getD 6 0) 18 0)

/-- An image taken apart: its package, its entries, its runs and its spill list. -/
structure SmpParts where
  pkg : Package
  entries : List ImgEntry
  runs : List RowRun
  spills : List Nat
  manifest : List Byte
deriving DecidableEq, Repr

/-- Take an image apart. -/
def smpParts (img : List Byte) : SmpParts :=
  let es := imgEntries img (le img 0x0C 2)
  let m := bodyOf img es 1
  let k := manifestOf img m
  let k := { k with relocs := relocsOf (bodyOf img es 6), descs := descsOf (bodyOf img es 5) k.tiles }
  { pkg := k, entries := es, manifest := m, spills := spillList m
    runs := (es.filter (fun e => e.version == 1)).flatMap (runsOf img k) }

/-! ## Checks 1 to 5 -/

/-- Check 1 (R337); `room` is what the slot holds: an image that does not fit its slot fails it. -/
def smpHeaderOk (img : List Byte) (room : Nat) : Bool :=
  let len := le img 8 4
  let n := le img 0x0C 2
  headerCommon img 0x4D534743 && len % 8 == 0 && decide (4096 ≤ len) && decide (len ≤ 268435456) && decide (len ≤ room) &&
    decide (5 ≤ n) && decide (n ≤ 1024) && decide (0x40 + 16 * n ≤ len) && le img 0x20 4 == len - 96 &&
    allZero img 0x16 2 && allZero img 0x24 24 && tableCrcOk img n

/-- The 64 rows or fewer of a bank a run touches must be declared (R338). Near rows beyond the near scratchpad are
the fit's concern (check 7). -/
def runDeclared (k : Package) (r : RowRun) : Bool :=
  (List.range r.data.length).all (fun i =>
    let row := r.first + i
    match r.tile with
    | some t => decide (4096 ≤ row) || (k.nearDecl.getD t 0 / 2 ^ (row / 128) % 2 == 1)
    | none => decide (row < k.window.2) && k.farBanks / 2 ^ ((k.window.1 + row) / 8192) % 2 == 1)

/-- The body form of a segment of a known type (Table 11.2). -/
def segBodyOk (img : List Byte) (k : Package) (e : ImgEntry) : Bool :=
  let b := e.body img
  let rows := decide (8 < e.len) && (e.len - 8) % 512 == 0
  match e.type with
  | 1 => e.len == 512
  | 2 => rows && allZero b 2 6
  | 3 => rows && decide (le b 0 1 < 16) && allZero b 1 1 && allZero b 4 4
  | 4 => rows && decide (le b 0 1 ≤ 1) && decide (le b 1 1 < 16) && (le b 0 1 == 0 || le b 1 1 == 0) && allZero b 2 2
  | 5 => e.len == 48 * k.tiles.length
  | 6 => e.len == 32 * ((List.range 32).filter (fun n => k.rsMask / 2 ^ n % 2 == 1)).length &&
    (List.range (b.length / 32)).all (fun i => allZero b (32 * i + 1) 3)
  | 7 => e.len == 8192
  | 8 => e.len == (2 * k.labelCount + 7) / 8 * 8 && allZero b (2 * k.labelCount) (e.len - 2 * k.labelCount)
  | _ => false

/-- Check 2 (R338). -/
def smpSegmentsOk (img : List Byte) (p : SmpParts) : Bool :=
  let es := p.entries
  let k := p.pkg
  let sigOff := le img 0x20 4
  let known := fun (e : ImgEntry) => decide (1 ≤ e.type) && decide (e.type ≤ 8) && e.version == 1
  let count := fun t => (segsOf es t).length
  placedOk (0x40 + 16 * es.length) sigOff es &&
    es.all (fun e => decide (e.flags < 4) && (known e || e.isOptional) && (!known e || segBodyOk img k e) &&
      (e.flags / 2 == 0 || (known e && e.type == 4 && le (e.body img) 0 1 == 1))) &&
    count 1 == 1 && ((byOffset es).head?.map (·.type)) == some 1 && count 2 == 1 && decide (1 ≤ count 3) &&
    count 5 == 1 && count 6 == 1 && count 7 == 1 && count 8 == (if k.labelCount = 0 then 0 else 1) &&
    (List.range 32).all (fun n => k.rsMask / 2 ^ n % 2 == (k.relocs.filter (fun r => r.1 == n)).length) &&
    p.runs.all (fun r => p.spills.contains r.seg || runDeclared k r)

/-- Check 3 (R339, R318): ranges, reserved bytes, tiles and cost limits. -/
def smpManifestOk (p : SmpParts) : Bool :=
  let m := p.manifest
  let k := p.pkg
  let c := fun i => k.costs.getD i 0
  le m 0 2 == 1 && k.tileMask != 0 && decide (le m 4 4 < 2) && decide (k.pxReq < 128) &&
    decide (1 ≤ k.maxStreams) && decide (k.maxStreams ≤ 256) && decide (1 ≤ k.er) && decide (k.er ≤ 8) &&
    decide (1 ≤ k.admitSlots) && decide (k.admitSlots ≤ 64) && decide (k.labelCount ≤ 256) &&
    decide (1 ≤ k.schemas.length) && decide (k.schemas.length ≤ 16) && allZero m 0x3F 1 &&
    allZero m (0x40 + 2 * k.schemas.length) (32 - 2 * k.schemas.length) && allZero m 0xA8 24 && allZero m 0x180 128 &&
    (List.range 16).all (fun t => k.tiles.contains t || k.fixed.getD t 0 == 0) &&
    p.spills.all (fun i => p.entries.any (fun e => e.index == i && e.type == 4 && e.version == 1 && decide (2 ≤ e.flags))) &&
    (c 1 == 0 || decide (c 1 ≤ 8 * c 0)) && (c 3 == 0 || decide (c 3 ≤ 8 * c 2)) && (c 5 == 0 || decide (c 5 ≤ 16 * c 4))

/-- The schema identifiers of Table 12.2. -/
def knownSchema (id : Nat) : Bool := [0x0101, 0x0201, 0x0301, 0x0401, 0x0501, 0x0502, 0x0601, 0x0701].contains id

/-- Check 4 (Table 11.4, R371). -/
def State.smpSchemasOk (s : State) (k : Package) : Bool :=
  let forbidden := fun ty => decide (1 ≤ ty) && decide (ty ≤ 6) && s.fld Fld.DS_FUSE_POLICY_SCHEMA_FORBID / 2 ^ (ty - 1) % 2 == 1
  k.schemas.all (fun i => knownSchema i && !forbidden (i / 256)) && k.schemas.contains 0x0701 &&
    (k.schemas.contains 0x0601 || forbidden 6) && (!k.schemas.contains 0x0401 || decide (0 < k.labelCount))

/-- MODE, FMT, E and DCG as PX_REQ encodes them (Table 11.3). -/
def pxReqOf (m : List (Nat × Word)) : Nat := (Sparse.get RegMap.resetValue m Reg.PX_MODE).toNat % 128

/-! ## The resulting SP set (check 6) -/

/-- A set without anything of partition `p`: its banks, its tiles and its relocation sets (R341). -/
def clearPart (m : List (Nat × Word)) (p : Nat) : List (Nat × Word) :=
  let m := (List.range 64).foldl (fun m b => if ownerOf m b = p + 1 then putFld m (Fld.SP_FAR_OWNER_OWNER b) 0 else m) m
  let m := (List.range 32).foldl (fun m n =>
    if (relOf m n).1 ∧ (relOf m n).2.1 = p then putFld m (Fld.SP_RS_CTRL_VALID n) 0 else m) m
  (List.range 16).foldl (fun m t => if partOf m t = p + 1 then
    putFld (putReg (putReg m (Reg.SP_NEAR_DECL t) 0) (Reg.SP_NEAR_ZINIT t) 0) (Fld.SP_TILE_PART_PART t) 0 else m) m

/-- Set a run of registers of a set. -/
def putRegs (m : List (Nat × Word)) : Nat → List Word → List (Nat × Word)
  | _, [] => m
  | a, v :: vs => putRegs (putReg m a v) (a + 4) vs

/-- The banks of a package (R204). -/
def Package.banks (k : Package) : List Nat :=
  (List.range 64).filter (fun b => k.farBanks / 2 ^ b % 2 == 1) ++
    (List.range 512).filterMap (fun i => if k.nearDecl.getD (i / 32) 0 / 2 ^ (i % 32) % 2 = 1 then some (64 + i) else none)

/-- Does a package ask for a bank to be zero-initialised (R206)? -/
def Package.zinit (k : Package) (b : Nat) : Bool :=
  if b < 64 then k.farZinit / 2 ^ b % 2 == 1 else k.nearZinit.getD ((b - 64) / 32) 0 / 2 ^ ((b - 64) % 32) % 2 == 1

/-- A set with a package's banks declared, without its tiles and relocation sets. -/
def declareBanks (m : List (Nat × Word)) (p : Nat) (k : Package) (banks : List Nat) : List (Nat × Word) :=
  banks.foldl (fun m b => declareBank m p b (k.zinit b)) m

/-- A set with a package's relocation sets. -/
def putRelocs (m : List (Nat × Word)) (k : Package) : List (Nat × Word) :=
  k.relocs.foldl (fun m r => putRegs m (Reg.SP_RS_CTRL r.1) r.2) m

/-- A set with a package's banks, tiles and relocation sets. -/
def addPackage (m : List (Nat × Word)) (p : Nat) (k : Package) : List (Nat × Word) :=
  let m := declareBanks m p k k.banks
  putRelocs (k.tiles.foldl (fun m t => putFld m (Fld.SP_TILE_PART_PART t) (p + 1)) m) k

/-- May a package write this relocation set: a set of partition `p`, without reserved bits, that replaces no VALID set of
another partition (log entry 13)? -/
def relocOwn (m : List (Nat × Word)) (p : Nat) (r : Nat × List Word) : Bool :=
  bits (r.2.getD 0 0) 5 4 == p && r.2.zipIdx.all (fun w => reservedZero (Reg.SP_RS_CTRL r.1 + 4 * w.2) w.1) &&
    !((relOf m r.1).1 && (relOf m r.1).2.1 != p)

/-- The descriptors of a package in SV_DESCt. -/
def State.putDescs (s : State) (k : Package) : State := k.descs.foldl (fun s d => s.setRegs (Reg.SV_DESC d.1 0) d.2) s

/-- Check 6: tiles and banks free of other holders, and the SP and SV checks of the result: the refusal's DETAIL, or
none when it passes. `m` is the set without partition `p`. A partition with SKIM set owns exactly one B-tile (R366). -/
def State.smpConfig (s : State) (p : Nat) (m : List (Nat × Word)) (k : Package) : Option Nat :=
  let m' := addPackage m p k
  let free := k.tiles.all (fun t => partOf m t == 0 && (k.nearDecl.getD t 0 == 0 ||
      (partOf s.sp.inForce t != 0 || Sparse.get RegMap.resetValue m (Reg.SP_NEAR_DECL t) &&& word (k.nearDecl.getD t 0) == 0))) &&
    (List.range 64).all (fun b => k.farBanks / 2 ^ b % 2 == 0 || (ownerOf m b == 0 && !s.ringBank b)) &&
    (List.range 16).all (fun t => k.tiles.contains t || (k.nearDecl.getD t 0 == 0 && k.nearZinit.getD t 0 == 0))
  if !free then some 0
  else if !k.relocs.all (relocOwn m p) || !s.spCheck m' then some 0x0406
  else if !(s.putDescs k).svCheckIn m' s.px.inForce p (s.reg (Reg.SV_CFG p)) (s.reg (Reg.SV_DEADLINE p)) then some 0x0601
  else none

/-! ## The fit (R227, R228, R343) -/

/-- Near rows a package needs on a tile. -/
def nearNeed (p : SmpParts) (t : Nat) : Nat :=
  (p.runs.filter (fun r => r.tile == some t)).foldl (fun n r => max n (r.first + r.data.length)) 0

/-- The tagged far rows T (R339). -/
def taggedRows (k : Package) : Nat :=
  k.maxStreams * 64 * k.er + k.servRows + k.auxRows + (k.relocs.map (fun r => bits (r.2.getD 4 0) 18 0)).sum

/-- W and the rows of the partition window, with the listed segments spilled. -/
def farNeed (p : SmpParts) (spilled : List Nat) : Nat × Nat :=
  let k := p.pkg
  let stay := p.runs.filter (fun r => r.tile.isNone && !spilled.contains r.seg)
  let weights := stay.filter (fun r => p.entries.any (fun e => e.index == r.seg && e.type == 4))
  ((weights.map (fun r => r.data.length)).sum,
   stay.foldl (fun n r => max n (r.first + r.data.length)) (max (k.servRow + k.servRows)
     (max (k.cacheBase + k.maxStreams * 64 * k.er) (k.auxRow + k.auxRows))))

/-- Do T + W fit in F, and the window in its 262,144 rows (R227 step 3)? -/
def fitsWith (p : SmpParts) (spilled : List Nat) : Bool :=
  let n := farNeed p spilled
  let f := 8192 * ((List.range 64).filter (fun b => p.pkg.farBanks / 2 ^ b % 2 == 1)).length
  decide (taggedRows p.pkg + n.1 ≤ f) && decide (n.2 ≤ 262144)

/-- The shortest prefix of the spill list that makes the rest fit, or none (R227 step 5). -/
def spillPrefix (p : SmpParts) : Option (List Nat) :=
  ((List.range (p.spills.length + 1)).map (fun n => p.spills.take n)).find? (fitsWith p)

/-- Rows of the listed segments. -/
def spillRowsOf (p : SmpParts) (l : List Nat) : Nat :=
  ((p.runs.filter (fun r => r.tile.isNone && l.contains r.seg)).map (fun r => r.data.length)).sum

/-- Row read time of a sweep in ns (Table 7.6). -/
def State.spillReadNs (s : State) : Nat := if s.pins.vddioMode = 2 then 2800 else 1400

/-- Steps 3 to 5 of R227, and R228: the segments that spill, or the refusal. -/
def State.smpSpill (s : State) (part : Nat) (p : SmpParts) : Except Nat (List Nat) :=
  if fitsWith p [] then .ok []
  else if s.fld (Fld.SP_SPILL_SIZE_ROWS part) = 0 ∨ s.fld Fld.SP_XS_CFG_SIZE = 0 then .error 0x070C
  else match spillPrefix p with
    | none => .error 0x070D
    | some l =>
      let n := spillRowsOf p l
      let others := ((List.range 4).filter (· != part)).map (fun q => match (s.partition q).pkg with
        | none => 0
        | some k => k.spilledRows)
      if s.fld (Fld.SP_SPILL_SIZE_ROWS part) < n then .error 0x070D
      else if 8 * s.periodTens < (n + others.sum) * s.spillReadNs then .error 0x070D
      else .ok l

/-! ## The eleven checks (R341) -/

/-- The rows of a package: those placed in scratchpad by their keys, and those for the spill area. -/
def placeRows (p : SmpParts) (spilled : List Nat) : Package :=
  let k := p.pkg
  let keyOf := fun (r : RowRun) i => match r.tile with
    | some t => nearKey t (r.first + i)
    | none => farKey (k.window.1 + r.first + i)
  let stay := p.runs.filter (fun r => !spilled.contains r.seg)
  let gone := spilled.flatMap (fun i => (p.runs.filter (fun r => r.seg == i)).flatMap (·.data))
  { k with
    spilledRows := gone.length
    rows := stay.flatMap (fun r => r.data.zipIdx.map (fun d => (keyOf r d.2, d.1)))
    spillRows := gone.zipIdx.map (fun d => (d.2, d.1)) }

/-- Does a read error at byte `io` of an image fall into one of the ranges (offset, length)? -/
def readFails (io : Option Nat) (ranges : List (Nat × Nat)) : Bool :=
  io.any (fun a => ranges.any (fun r => decide (r.1 ≤ a) && decide (a < r.1 + r.2)))

/-- The bytes the first check needs: the header, and with a sound one the segment table. -/
def smpHeadRange (img : List Byte) : List (Nat × Nat) :=
  if headerCommon img 0x4D534743 then [(0, 0x40 + 16 * le img 0x0C 2)] else [(0, 0x40)]

/-- The bytes checks 2 to 9 need: the manifest, RELOC and DESC bodies, and the prefixes of the others (log entry 13). -/
def smpPlanRanges (p : SmpParts) : List (Nat × Nat) :=
  p.entries.map (fun e => if e.type = 1 ∨ e.type = 5 ∨ e.type = 6 then (e.off, e.len) else (e.off, min 8 e.len))

/-- The checks of Table 11.4 in order on an image for partition `part`, whose read fails at byte `io`, if one: the package
to place, or code and DETAIL. A read error refuses with PK_NVM before the first check that needs the byte (R341). `m` is the
SP set without the partition, `room` what the slot holds. -/
def State.smpCheck (s : State) (part : Nat) (m : List (Nat × Word)) (img : List Byte) (room : Nat) (io : Option Nat) :
    Except (Nat × Nat) Package :=
  let p := smpParts img
  let k := p.pkg
  if readFails io (smpHeadRange img) then .error (0x070E, 0)
  else if !smpHeaderOk img room then .error (0x0701, 0)
  else if readFails io (smpPlanRanges p) then .error (0x070E, 0)
  else if !smpSegmentsOk img p then .error (0x0702, 0)
  else if !smpManifestOk p then .error (0x0706, 0)
  else if !s.smpSchemasOk k then .error (0x0707, 0)
  else if k.readsRing && k.pxReq != pxReqOf s.px.inForce then .error (0x0708, 0)
  else match s.smpConfig part m k with
    | some d => .error (0x0709, d)
    | none =>
      if k.tiles.any (fun t => decide (4096 < nearNeed p t)) then .error (0x070A, 0)
      else if 8192 * ((List.range 64).filter (fun b => k.farBanks / 2 ^ b % 2 == 1)).length < taggedRows k then .error (0x070B, 0)
      else match s.smpSpill part p with
        | .error c => .error (c, 0)
        | .ok l =>
          let sigOff := le img 0x20 4
          if io.any (fun a => decide (a < le img 8 4)) then .error (0x070E, 0)
          else if !p.runs.all (fun r => l.contains r.seg || runDeclared k r) then .error (0x0702, 0)
          else if !crcsMatch img p.entries || !gapsZero img p.entries then .error (0x0702, 0)
          else if !Config.kernelHeld (Config.sha256 (bodyOf img p.entries 2)) then .error (0x0705, 0)
          else if !s.signatureOk (img.take (le img 8 4)) (le img 0x15 1) sigOff then .error (0x0703, 0)
          else if k.arb < s.fuses.arb then .error (0x0704, 0)
          else .ok (placeRows p l)

/-! ## Slots (R99, Table 3.7) -/

/-- Offset and length of a slot (1 A, 2 B) of a locator, or none without slot B. -/
def Locator.slot (l : Locator) (n : Nat) : Option (Nat × Nat) :=
  if n = 1 then some (l.aOff, l.aLen) else if l.hasB then some (l.bOff, l.bLen) else none

/-- The locator of an image. -/
def State.locator (s : State) (kind part : Nat) : Option Locator :=
  s.boot.locators.find? (fun l => l.kind == kind && l.part == part)

/-- Does a slot lie in the usable NVM (R89, R99)? -/
def State.slotUsable (s : State) (off len : Nat) : Bool :=
  decide (0x50000 ≤ off) && decide (off + len ≤ s.boot.nvmSize)

/-- The bytes of the image in a slot of partition `p` and the slot's length; none for a slot the locator does not have, or one
outside the usable NVM. -/
def State.slotImage (s : State) (p n : Nat) : Option (List Byte × Nat) :=
  ((s.locator 0 p).bind (fun l => l.slot n)).bind fun x =>
    if s.slotUsable x.1 x.2 then some (s.nvmBytes x.1 (min x.2 (le (s.nvmBytes x.1 64) 8 4)), x.2) else none

/-- Check the image in a slot of partition `p`; without one PK_NVM refuses it (R341). -/
def State.smpSlot (s : State) (p n : Nat) (m : List (Nat × Word)) (io : Option Nat) : Except (Nat × Nat) Package :=
  match s.slotImage p n with
  | none => .error (0x070E, 0)
  | some (img, len) =>
    match s.smpCheck p m img len io with
    | .error e => .error e
    | .ok k => .ok { k with slot := n }

/-! ## Placement (R342, R344) -/

/-- Make a bank ready for a package, as set `m` follows set `old`: powered, and zero-initialised where asked (R205, R206). -/
def State.readyBank (s : State) (old m : List (Nat × Word)) (b : Nat) : State :=
  if s.bankPowered b && !bankZinit m b then (if bankOpens old m b then s.openBank b else s)
  else (s.zeroRows (bankFirst b) (bankFirst b + bankRows b)).setBankPower b true

/-- The boot ROM declares: the set goes into force, fresh banks become ready, banks that left are scrubbed, and banks nothing
uses power down, unless the boot map still stands (R205). -/
def State.declareSet (s : State) (m : List (Nat × Word)) : State :=
  let old := s.sp.inForce
  let leaving := allBanks.filter (bankLeaves old m)
  let fresh := allBanks.filter (bankFresh old m)
  let s := leaving.foldl (fun s b => s.scrubTagged (bankFirst b) (bankFirst b + bankRows b)) s
  let s := fresh.foldl (fun s b => s.readyBank old m b) s
  let s := { s with sp := { s.sp with inForce := m } }
  let s := s.dropBankLines (fun b => bankMoved old m b || !s.bankPowered b)
  if s.flag Fld.SP_STATUS_BOOT_MAP then s else s.settlePower m

/-- First row of a partition's spill area: before the first apply, as the Primer set it (R227). -/
def State.spillBase (s : State) (p : Nat) : Nat :=
  if s.flag Fld.SP_STATUS_BOOT_MAP then setFldOf s.spShadow (Fld.SP_SPILL_BASE_ROW p) else s.spFld (Fld.SP_SPILL_BASE_ROW p)

/-- Write the rows of a package and its spilled ranges; spill memory is written once no sweep runs (R226). -/
def State.writeRows (s : State) (p : Nat) (k : Package) : State :=
  let s := k.rows.foldl (fun s r => s.writeRow r.1 r.2 false) s
  let base := s.spillBase p
  if s.sp.sweep.isSome then
    { s with sp := { s.sp with
      narrowWrites := s.sp.narrowWrites ++ k.spillRows.map (fun r => (none, 512 * (base + r.1), rowBytes r.2)) } }
  else
    { s with spillMem := k.spillRows.foldl (fun m r => Sparse.puts spillDefault (512 * (base + r.1)) (rowBytes r.2) m) s.spillMem }

/-- BUDGET of a partition: elements 2 and 3 of every control-table row (R344). -/
def State.setBudget (s : State) (p : Nat) : State :=
  let b := s.svDeadline p * 900
  (List.range 16).foldl (fun s i => (s.setCtab p i 2 (b % 65536)).setCtab p i 3 (b / 65536)) s

/-- The registers outside SP that a package brings: descriptors and SV_CTABLE. -/
def State.packageRegs (s : State) (p : Nat) (k : Package) : State :=
  let s := s.putDescs k
  s.setReg (Reg.SV_CTABLE p) (setBits (s.reg (Reg.SV_CTABLE p)) 18 0 k.ctableRow)

/-- BUDGET and SWAP of a partition's control table (R344, R356). -/
def State.packageTable (s : State) (p swap : Nat) : State := (s.setBudget p).setSwap p swap

/-- The package a partition keeps once its rows are written. -/
def Package.placed (k : Package) : Package := { k with rows := [], spillRows := [] }

/-- PK_PARTp registers of a loaded package. -/
def State.partLoaded (s : State) (p : Nat) (k : Package) : State :=
  (((s.setFld (Fld.PK_PART_STATUS_STATE p) 1).setFld (Fld.PK_PART_STATUS_SLOT p) k.slot).setFld
    (Fld.PK_PART_STATUS_KERNEL_REV p) k.kernelRev).setReg (Reg.PK_PART_VERSION p) (word k.version)

/-- AX_DEST_BASE, AX_DEST_ROWS and AX_SIG.EN after a package of partition `p` is placed (R470, R471); a pass that runs goes on
to the new ring. -/
def State.axPlaced (s : State) (p : Nat) : State :=
  let x := s.axRing p
  let s := { s with ax := { s.ax with passes := s.ax.passes.map (fun (y : AxPass) =>
    if bits y.dest 1 0 = p then { y with destBase := x.1, destRows := x.2 } else y) } }
  (if s.fld Fld.AX_DEST_PART = p then s.axDestLoad else s).axSigCheck

/-- The tables of a fresh kernel (Table 10.3). -/
def Package.freshKernel (k : Package) : Kernel := { streams := List.replicate k.maxStreams {} }

/-- The streams of a partition have ended, and the gate no longer sees them as live (R374). -/
def State.endStreams (s : State) (p : Nat) : State :=
  { s with eg := { s.eg with liveStreams := s.eg.liveStreams.filter (fun x => x / 256 != p) } }

/-- Place a checked package in an empty partition at boot: banks, rows, registers, and a fresh kernel. -/
def State.placePackage (s : State) (p : Nat) (k : Package) : State :=
  let m := addPackage (clearPart s.sp.inForce p) p k
  let s := (s.putShadow (addPackage (clearPart s.spShadow p) p k)).declareSet m
  let s := ((s.writeRows p k).packageRegs p k).packageTable p 0
  let ps := s.partition p
  let s := s.setPart p { ps with pkg := some k.placed, kernel := k.freshKernel, frame := none, gap := true, voids := 0 }
  (s.partLoaded p k).axPlaced p

/-- Leave a partition empty: its package and what PK_PARTp shows of it are gone. -/
def State.emptyPart (s : State) (p : Nat) : State :=
  if (s.partition p).pkg.isNone then s
  else ((s.setPart p { s.partition p with pkg := none, kernel := {} }).setReg (Reg.PK_PART_STATUS p) 0).setReg
    (Reg.PK_PART_VERSION p) 0

/-- A package refused (R341, R367): its code is raised, and the partition reads refused when it holds none. -/
def State.refusePackage (s : State) (p code owner : Nat) : State :=
  let s := (s.raisePk code owner).setFld (Fld.PK_PART_CODE_CODE p) code
  if (s.partition p).pkg.isNone then s.setFld (Fld.PK_PART_STATUS_STATE p) 3 else s

/-- Load the package of a slot into partition `p` at boot: its DETAIL and code when it is refused. -/
def State.loadSlot (s : State) (p n owner : Nat) (io : Option Nat) : Option (Nat × Nat) × State :=
  match s.smpSlot p n (clearPart s.spShadow p) io with
  | .error e => (some e, s.refusePackage p e.1 owner)
  | .ok k => (none, s.placePackage p k)

end Sys2Proof.Machine
end

