-- ==== Sys2Proof/Machine/ChangeSet.lean ====
section
/-! DEFINITION. The change-set engine: submission, checks, apply times, staging, boundaries, package switches and
interrupted changes (R345 to R366, Tables 11.5 to 11.9). -/

namespace Sys2Proof.Machine

/-! ## Holder (R347, Table 11.12) -/

/-- OWNER and CORE of a requester; 0 for one that cannot submit. -/
def csOwner : Requester → Nat × Nat
  | .core n => (1, n)
  | .mgmt => (2, 0)
  | .dpLath => (3, 0)
  | .dpHost => (4, 0)
  | _ => (0, 0)

/-- PK_CS_STATUS.STATE; the engine holds a set in 1 to 5. -/
def State.csState (s : State) : Nat := s.fld Fld.PK_CS_STATUS_STATE
def State.csHeld (s : State) : Bool := decide (1 ≤ s.csState) && decide (s.csState ≤ 5)

/-- Does the requester hold the engine? -/
def State.csHolds (s : State) (r : Requester) : Bool :=
  s.csHeld && (csOwner r).1 != 0 && (csOwner r).1 == s.fld Fld.PK_CS_STATUS_OWNER &&
    (csOwner r).2 == s.fld Fld.PK_CS_STATUS_CORE

/-- Does POLICY.HOST_CFG let the requester submit (Table 3.8)? -/
def State.csPathOpen (s : State) (r : Requester) : Bool :=
  match (csOwner r).1 with
  | 0 => false
  | 3 => s.boot.hostCfg % 2 == 1
  | 4 => s.boot.hostCfg / 2 % 2 == 1
  | _ => true

/-- The engine's owner, for raising codes. -/
def State.csOwnerNow (s : State) : Nat := s.fld Fld.PK_CS_STATUS_OWNER

/-- CS_OPEN: take the engine, or BUSY; the holder keeps what it holds. The result code is 0 or PK_CS_BUSY. -/
def State.csOpen (s : State) (r : Requester) : Nat × State :=
  if s.csHolds r && s.csState == 1 then (0, s)
  else if s.csHeld || !s.csPathOpen r || s.fld Fld.SYS_BOOT_STATUS_PHASE != 1 then (0x0712, s.raisePk 0x0712 (csOwner r).1)
  else
    (0, { ((s.setFld Fld.PK_CS_STATUS_STATE 1).setFld Fld.PK_CS_STATUS_OWNER (csOwner r).1).setFld
      Fld.PK_CS_STATUS_CORE (csOwner r).2 with pk := { buf := s.pk.buf, undeclare := s.pk.undeclare } })

/-- What an unwritten byte of PK_CSBUF reads as. -/
def csBufDefault (_ : Nat) : Byte := 0#8

/-- CS_WRITE: the holder writes PK_CSBUF from an offset while the engine is open (Table 11.12). -/
def State.csWrite (s : State) (r : Requester) (off : Nat) (bs : List Byte) : Nat × State :=
  if s.csHolds r && s.csState == 1 then
    if off + bs.length ≤ 4096 then (0, { s with pk := { s.pk with buf := Sparse.puts csBufDefault off bs s.pk.buf } })
    else (0x0710, s)
  else (0x0712, s)

/-- CS_SUBMIT: the buffer is the set, and its checks begin. -/
def State.csSubmit (s : State) (r : Requester) : Nat × State :=
  if s.csHolds r && s.csState == 1 then
    let bs := Sparse.gets csBufDefault s.pk.buf 0 4096
    let n := le bs 6 2
    (0, { s.setFld Fld.PK_CS_STATUS_STATE 2 with pk := { s.pk with set := bs.take (32 + 8 * n) } })
  else (0x0712, s)

/-! ## Ending a set -/

/-- Banks staged for a LOAD are undeclared again (R341, R361), once no apply waits. -/
def State.unstage (s : State) : State :=
  { s with pk := { s.pk with
    staged := none, stagedBanks := [], undeclare := s.pk.undeclare ++ s.pk.stagedBanks } }.undeclareDue

/-- Partitions whose SWAP a marked final frame still holds read normal frames again. -/
def State.unmark (s : State) : State :=
  let s := s.pk.finals.foldl (fun s p => if (s.partition p).pkg.isSome then s.setSwap p 0 else s) s
  { s with pk := { s.pk with finals := [] } }

/-- A partition in a staging state reads loaded again. -/
def State.unstageStatus (s : State) : State :=
  (List.range 4).foldl (fun s p => if s.fld (Fld.PK_PART_STATUS_STATE p) = 2 then s.setFld (Fld.PK_PART_STATUS_STATE p) 1
    else s) s

/-- End the set in a final state with a result; a code is raised (R367). -/
def State.csEnd (s : State) (final code detail : Nat) : State :=
  let s := s.unstage.unmark.unstageStatus
  let s := ((s.setFld Fld.PK_CS_STATUS_STATE final).setFld Fld.PK_CS_CODE_CODE code).setFld Fld.PK_CS_CODE_DETAIL detail
  let s := (if code = 0 then s else s.raisePk code s.csOwnerNow).csFinalEvent
  { s with pk := { s.pk with
    late := false, dropped := false, begun := false, applying := [], quiesce := 0, reloads := [], previous := [], failed := none } }

/-- CS_ABORT: the holder ends the set with nothing changed, unless its apply has begun (R361). -/
def State.csAbort (s : State) (r : Requester) : Nat × State :=
  if s.csHolds r then (0, if s.csState < 5 then s.csEnd 10 0 0 else s) else (0x0712, s)

/-- Entry to Skim, Doze or Off ends a set that is staging or ready (R362). -/
def State.csPowerEntry (s : State) : State := if s.csState = 3 ∨ s.csState = 4 then s.csEnd 9 0x0712 0 else s

/-! ## The set (R345, R346, Tables 11.6 to 11.8) -/

/-- An entry of a change set (Table 11.7). -/
structure CsEntry where
  op : Nat
  b0 : Nat
  b23 : Nat
  value : Word
deriving DecidableEq, Repr

/-- The entries of a set. -/
def csEntries (set : List Byte) : List CsEntry := (List.range (le set 6 2)).map (fun i =>
  let e := slice set (32 + 8 * i) 8
  ⟨le e 1 1, le e 0 1, le e 2 2, word (le e 4 4)⟩)

/-- PART_MASK and QUIESCE of a set. -/
def csMask (set : List Byte) : Nat := le set 8 1
def csQuiesce (set : List Byte) : Bool := le set 9 1 % 2 == 1

/-- The partitions of a mask. -/
def maskParts (m : Nat) : List Nat := (List.range 4).filter (fun p => m / 2 ^ p % 2 == 1)

/-- LOAD and RELOAD entries: partition, slot (1 A, 2 B) and whether it is a RELOAD. -/
def csLoads (set : List Byte) : List (Nat × Nat × Bool) :=
  (csEntries set).filterMap (fun e => if e.op = 2 ∨ e.op = 3 then some (e.b0, 1 + e.b23, e.op == 3) else none)

/-- PX registers a set may write without QUIESCE, and those that need it (Table 11.8). -/
def csPxFree : List Nat := [Reg.PX_EXP_MAX, Reg.PX_EXP_MIN, Reg.PX_EXP_RATIO, Reg.PX_AE_TARGET, Reg.PX_KNEE, Reg.PX_BLACK,
  Reg.PX_DPC_THRESH, Reg.PX_SKIM_PERIOD]
def csPxQuiesce : List Nat := [Reg.PX_FRAME_PERIOD, Reg.PX_RING_BANKS, Reg.PX_RING_SLOTS, Reg.PX_RING_READERS,
  Reg.PX_RING_SIG 0, Reg.PX_RING_SIG 1, Reg.PX_RING_SIG 2, Reg.PX_RING_SIG 3, Reg.PX_LOCK_CTRL, Reg.PX_LOCK_T0_LO, Reg.PX_LOCK_T0_HI]

/-- Is the bank's mode bit set in a set? -/
def narrowIn (m : List (Nat × Word)) (b : Nat) : Bool :=
  let p := bankBit Reg.SP_BANKMODE_F Reg.SP_BANKMODE_N b
  tstBit (Sparse.get RegMap.resetValue m p.1) p.2

/-- The banks a register of the SP map speaks of (Table 7.8). -/
def banksOf (o : Nat) : List Nat :=
  if 0x18 ≤ o ∧ o < 0x20 then (List.range 32).map (32 * ((o - 0x18) / 4) + ·)
  else allBanks.filter (fun b =>
    let named := fun f n => (bankBit f n b).1 == 0x10040000 + o
    (decide (b < 64) && (Fld.SP_FAR_OWNER_OWNER b).addr == 0x10040000 + o) || named Reg.SP_BANKMODE_F Reg.SP_BANKMODE_N ||
      named Reg.SP_FAR_ZINIT Reg.SP_NEAR_ZINIT || (decide (64 ≤ b) && Reg.SP_NEAR_DECL ((b - 64) / 32) == 0x10040000 + o))

/-- The partitions that a write of `v` to SP register `a` concerns, in set `m` before it and in the set `fin` that all the
entries leave (R346): those of the banks and tiles it changes, or, where it changes none, of the banks and tiles it speaks of;
and the PART of the relocation set it writes, with that of a VALID set it takes over (log entry 14). -/
def spTouches (m fin : List (Nat × Word)) (a : Nat) (v : Word) : List Nat :=
  let m' := putReg m a v
  let o := a - 0x10040000
  let codes :=
    if 0x400 ≤ o then
      let n := (o - 0x400) / 32
      let old := relOf m n
      ((relOf m' n).2.1 + 1) :: (if old.1 then [old.2.1 + 1] else [])
    else
      let changed := allBanks.filter (fun b => bankPartition m b != bankPartition m' b || bankZinit m b != bankZinit m' b ||
        narrowIn m b != narrowIn m' b)
      let tiles := (List.range 16).filter (fun t => partOf m t != partOf m' t)
      let banks := if changed.isEmpty && tiles.isEmpty then banksOf o else changed
      banks.flatMap (fun b => [bankPartition m b, bankPartition m' b, bankPartition fin b]) ++
        tiles.flatMap (fun t => [partOf m t, partOf m' t])
  codes.filterMap (fun c => if 1 ≤ c ∧ c ≤ 4 then some (c - 1) else none)

/-- May a WRITE entry name the register with the value (R346, Table 11.8)? `m` is the SP set so far, `fin` the one at the
end. -/
def State.csWriteOk (s : State) (set : List Byte) (m fin : List (Nat × Word)) (e : CsEntry) : Bool :=
  let a := blockAddr e.b0 e.b23
  let o := e.b23
  let mask := csMask set
  let keeps := fun r => ((s.reg r).toNat ^^^ e.value.toNat) % 16 &&& (15 - mask % 16) == 0
  e.b23 % 4 == 0 && reservedZero a e.value &&
  match e.b0 with
  | 0x01 => a == Reg.DS_CAP_FRAME || a == Reg.DS_CAP_RATE
  | 0x02 => csPxFree.contains a || (csQuiesce set && csPxQuiesce.contains a) ||
      (a == Reg.PX_MODE && (csQuiesce set || e.value.toNat % 128 == pxReqOf s.px.inForce))
  | 0x03 => a == Reg.TF_CTRL || a == Reg.TF_SUP_CTRL || a == Reg.TF_SUP_CEIL || a == Reg.TF_SUP_MARGIN
  | 0x04 => isSpShadow a && decide (¬(0x200 ≤ o ∧ o < 0x220)) &&
      (let ps := spTouches m fin a e.value; !ps.isEmpty && ps.all (fun p => mask / 2 ^ p % 2 == 1))
  | 0x06 =>
    if a = Reg.SV_CTRL ∨ a = Reg.SV_CFGPOLICY then keeps a
    else if 0x100 ≤ o ∧ o < 0x180 ∧ o % 32 ≤ 8 then mask / 2 ^ ((o - 0x100) / 32) % 2 == 1
    else if 0x400 ≤ o ∧ o < 0x800 ∧ o % 64 < 48 then
      let q := s.tilePart ((o - 0x400) / 64)
      decide (1 ≤ q) && mask / 2 ^ (q - 1) % 2 == 1
    else false
  | 0x08 => primerSettable 2 8 o
  | 0x0B => primerSettable 3 0x0B o
  | 0x0C => primerSettable 4 0x0C o
  | _ => false

/-- The form of an entry, with its partition in the mask. -/
def State.csEntryOk (s : State) (set : List Byte) (m fin : List (Nat × Word)) (e : CsEntry) : Bool :=
  let inMask := decide (e.b0 < 4) && csMask set / 2 ^ e.b0 % 2 == 1
  let elem := e.b23 % 256
  match e.op with
  | 0 => s.csWriteOk set m fin e
  | 1 => inMask && decide (e.b23 / 256 < 16) && decide (4 ≤ elem) && elem != 9 && decide (e.value.toNat < 65536)
  | 2 => inMask && decide (e.b23 < 2) && e.value == 0
  | 3 => inMask && decide (e.b23 < 2) && e.value == 0 && csQuiesce set
  | _ => false

/-- The SP set after an entry. -/
def spAfter (m : List (Nat × Word)) (e : CsEntry) : List (Nat × Word) :=
  if e.op = 0 ∧ e.b0 = 4 then putReg m (blockAddr 4 e.b23) e.value else m

/-- Every entry in turn, with the SP set its predecessors leave. -/
def State.csEntriesOk (s : State) (set : List Byte) (fin : List (Nat × Word)) : List (Nat × Word) → List CsEntry → Bool
  | _, [] => true
  | m, e :: es => s.csEntryOk set m fin e && s.csEntriesOk set fin (spAfter m e) es

/-- Format, CRC and R346. -/
def State.csFormatOk (s : State) (set : List Byte) : Bool :=
  let n := le set 6 2
  let es := csEntries set
  let loads := csLoads set
  le set 0 4 == 0x53434743 && le set 4 2 == 1 && decide (1 ≤ n) && decide (n ≤ 508) && le set 0xC 4 == 32 + 8 * n &&
    decide (csMask set < 16) && decide (le set 9 1 < 2) && allZero set 0x10 12 &&
    (crc32 (set.take 0x1C ++ set.drop 32)).toNat == le set 0x1C 4 &&
    (csQuiesce set || decide ((maskParts (csMask set)).length ≤ 1)) &&
    (List.range 4).all (fun p => decide ((loads.filter (fun l => l.1 == p)).length ≤ 1)) &&
    csQuiesce set == es.any (fun e => e.op == 3) && s.csEntriesOk set (es.foldl spAfter s.spShadow) s.spShadow es

/-! ## Performing entries (R352) -/

/-- The registers of a package that takes a partition over: its relocation sets in place of the partition's VALID ones,
descriptors and SV_CTABLE (R356). -/
def State.switchRegs (s : State) (p : Nat) (k : Package) : State :=
  let m := (List.range 32).foldl (fun m n =>
    if (relOf m n).1 ∧ (relOf m n).2.1 = p then putFld m (Fld.SP_RS_CTRL_VALID n) 0 else m) s.spShadow
  (s.putShadow (putRelocs m k)).packageRegs p k

/-- One entry into the shadow and held copies, the partition's SV values included; a LOAD brings the registers of its staged
package; CTAB entries come later. -/
def State.csPerform (s : State) (e : CsEntry) : State :=
  let a := blockAddr e.b0 e.b23
  if e.op = 2 then
    match s.pk.staged with
    | some (p, k) => if p = e.b0 then s.switchRegs p k else s
    | none => s
  else if e.op ≠ 0 then s
  else if e.b0 = 4 then s.setReg a e.value
  else if e.b0 = 6 ∧ a ≠ Reg.SV_CTRL then s.plainWrite a e.value
  else if e.b0 = 6 then s
  else s.cfgWrite a e.value

/-- The SV_CTRL value a set leaves, or none. -/
def csSvCtrl (set : List Byte) : Option Word :=
  ((csEntries set).filter (fun e => e.op == 0 && e.b0 == 6 && e.b23 == 4)).getLast?.map (·.value)

/-- CTAB entries into the control tables, and BUDGET (R344). -/
def State.csTables (s : State) (set : List Byte) : State :=
  let s := (csEntries set).foldl (fun s e => if e.op = 1 then s.setCtab e.b0 (e.b23 / 256) (e.b23 % 256) (e.value.toNat % 65536)
    else s) s
  (maskParts (csMask set)).foldl (fun s p => if (s.partition p).pkg.isSome then s.setBudget p else s) s

/-- Does a set hold an SP entry, a PX entry? -/
def csHas (set : List Byte) (block : Nat) : Bool := (csEntries set).any (fun e => e.op == 0 && e.b0 == block)

/-- The configuration that a set would leave, before its checks. -/
def State.csTrial (s : State) (set : List Byte) : State := (csEntries set).foldl State.csPerform s

/-- The PX set that stands once the set has been applied. -/
def State.csPx (s : State) (set : List Byte) : List (Nat × Word) := if csHas set 2 then s.pxShadow else s.pxWaiting

/-- Does the apply of the set need an SP apply? -/
def State.csNeedsSp (s : State) : Bool := csHas s.pk.set 4 || s.pk.staged.isSome

/-- The block code the PX entries of a set fail with, or none: PX_CFG, PX_RING_GEOM, PK_PX against resident packages but those
of `reloads` (R348). `s` has the entries performed. -/
def State.csPxCode (s : State) (set : List Byte) (reloads : List Nat) : Option Nat :=
  let px := s.pxShadow
  if !csHas set 2 then none
  else if !pxCfgOk px then some 0x0201
  else if ringCountOf px != 0 && !s.ringOk px s.px.skim then some 0x0202
  else if (List.range 4).any (fun p => !reloads.contains p && (match (s.partition p).pkg with
      | some k => k.readsRing && k.pxReq != pxReqOf px
      | none => false)) then some 0x0708
  else none

/-- The block code the resulting configuration fails with, or none (R348, R352): SP_GEOM, the PX codes, and SV_CFG for the
partitions that will run. `s` has the entries performed; `reloads` are partitions whose package changes. -/
def State.csCfgCode (s : State) (set : List Byte) (reloads : List Nat) : Option Nat :=
  let ctrl := (csSvCtrl set).getD (s.reg Reg.SV_CTRL)
  let runs := fun p => tstBit ctrl p || s.pk.enabled / 2 ^ p % 2 == 1
  if (s.csNeedsSp || !reloads.isEmpty) && !s.spCheck s.spShadow then some 0x0406
  else match s.csPxCode set reloads with
    | some c => some c
    | none =>
      if (List.range 4).any (fun p => (csQuiesce set || (maskParts (csMask set)).contains p) && runs p &&
          !s.svCheckIn s.spShadow (s.csPx set) p (s.reg (Reg.SV_CFG p)) (s.reg (Reg.SV_DEADLINE p))) then some 0x0601
      else none

/-! ## Apply time (R349, R350, Table 11.9) -/

/-- Bank work in ns of an SP apply from one set to another: the largest figure of a bank newly declared or leaving. -/
def applyWork (old m : List (Nat × Word)) : Nat :=
  (allBanks.map (fun b =>
    let far := decide (b < 64)
    if bankFresh old m b then
      (if far then (if bankZinit m b then 155600 else 82800) else if bankZinit m b then 4280 else 3140)
    else if bankLeaves old m b then (if far then 73000 else 1140) else 0)).foldl max 0

/-- Bank work in ns of a package switch: scrubs of the kept banks when the streams end. -/
def switchWork (kept : List Nat) (carry : Bool) : Nat :=
  if carry then 0 else (kept.map (fun b => if b < 64 then 73000 else 1140)).foldl max 0

/-- The kept banks of a partition under a new package: those that both declare (R354). -/
def State.keptBanks (s : State) (p : Nat) (k : Package) : List Nat :=
  match (s.partition p).pkg with
  | none => []
  | some old => k.banks.filter old.banks.contains

/-- DIV × P of a partition in ns. -/
def State.framePeriodNs (s : State) (p : Nat) : Nat :=
  s.svDiv p * 10 * (if s.px.skim then s.pxFld Fld.PX_SKIM_PERIOD_PERIOD else s.periodTens)

/-- Is every moment a usable boundary: EN 0, suspended or stopped (R350)? -/
def State.alwaysUsable (s : State) (p : Nat) : Bool := !s.svEnabled p || s.fld (Fld.SV_STATUS_STATE p) != svRunning

/-- Does T_apply fit the planning gap of the partition's boundaries? -/
def State.gapFits (s : State) (p : Nat) : Bool :=
  decide (s.fld Fld.PK_CS_TAPPLY_NS + 1000 * s.svDeadline p + 20000 ≤ s.framePeriodNs p)

/-! ## Carry-over and switch (R354 to R357) -/

/-- Do the streams carry over (R355)? The banks of the serving area and the caches are kept. -/
def carries (old new : Package) : Bool :=
  old.cacheHash == new.cacheHash && old.er == new.er && old.cacheBase == new.cacheBase && old.servRow == new.servRow &&
    old.servRows == new.servRows && old.kernelRev == new.kernelRev && decide (old.maxStreams ≤ new.maxStreams) &&
    (banksCovered (old.window.1 + old.servRow) old.servRows ++
      banksCovered (old.window.1 + old.cacheBase) (old.maxStreams * 64 * old.er)).all (fun b => new.banks.contains b)

/-- Whether the streams of partition `p` carry over to a package. -/
def State.carriesTo (s : State) (p : Nat) (k : Package) : Bool :=
  match (s.partition p).pkg with
  | none => false
  | some old => carries old k

/-- T_apply in ns; the SP entries' bank work and that of a package switch are two items of the sum (Table 11.9). -/
def State.applyTime (s : State) (set : List Byte) : Nat :=
  let es := csEntries set
  20000 + 1000 * (es.filter (fun e => e.op == 0)).length + 500 * (es.filter (fun e => e.op == 1)).length +
    (if csHas set 4 then 10000 + applyWork s.sp.inForce (s.csTrial set).spShadow else 0) +
    (match s.pk.staged with
      | none => 0
      | some (p, k) => 50000 + switchWork (s.keptBanks p k) (s.carriesTo p k))

/-- The conditions of a LOAD on its package (R354). -/
def State.stageOk (s : State) (p : Nat) (k : Package) : Bool :=
  let kept := s.keptBanks p k
  k.tiles == tilesIn s.sp.inForce p && k.spilledRows == 0 &&
    (match (s.partition p).pkg with | none => true | some old => old.spilledRows == 0) &&
    k.banks.all (fun b => kept.contains b || !bankDeclared s.sp.inForce b) &&
    k.rows.all (fun r => !kept.contains (bankOf r.1)) && kept.all (fun b => !k.zinit b)

/-- A partition takes its new package up once its banks and relocation sets are in force (R356): the streams carry over
with SWAP 3, or they end and every tagged row of the kept banks is scrubbed (R47); a stopped partition runs again (R329). -/
def State.takePackage (s : State) (p : Nat) (k : Package) (carry : Bool) : State :=
  let kept := s.keptBanks p k
  let s := if carry then s
    else kept.foldl (fun (s : State) b => s.scrubTagged (bankFirst b) (bankFirst b + bankRows b)) (s.endStreams p)
  let s := (s.writeRows p k).packageTable p (if carry then 3 else 0)
  let ps := s.partition p
  let kernel := if carry then { ps.kernel with swap := 0 } else k.freshKernel
  let s := { s.setPart p { ps with pkg := some k.placed, kernel := kernel, voids := 0 } with
    pk := { s.pk with finals := s.pk.finals.filter (· != p) } }
  let s := if s.fld (Fld.SV_STATUS_STATE p) ≠ svStopped then s
    else s.setFld (Fld.SV_STATUS_STATE p) (if s.svEnabled p then s.svOnState p else svOff)
  (s.partLoaded p k).axPlaced p

/-- Mark the next frame of a partition final (R355): SWAP 2 when the streams will carry over, else 1. -/
def State.markFinal (s : State) (p : Nat) (carry : Bool) : State :=
  if s.pk.finals.contains p then s
  else
    let s := s.setSwap p (if carry then 2 else 1)
    let ps := s.partition p
    { s.setPart p { ps with kernel := { ps.kernel with swap := 0 } } with pk := { s.pk with finals := s.pk.finals ++ [p] } }

/-- Is the partition's open frame its final one, or was that the last one it closed, and not voided (R357)? -/
def State.finalRuns (s : State) (p : Nat) : Bool :=
  let ps := s.partition p
  s.pk.finals.contains p && (ps.kernel.swap == 1 || ps.kernel.swap == 2) && (ps.frame.isSome || !ps.gap)

/-- Has the final frame of the partition closed? -/
def State.finalClosed (s : State) (p : Nat) : Bool := s.finalRuns p && (s.partition p).frame.isNone

/-! ## Apply (R352, R353) -/

/-- The set is done: it waits for the first frame of each partition it changed that runs, or is final now; with no
such frame PK_CS_FRAME takes a free value (log entry 2). Banks only the old package used are undeclared by a second SP apply
(R356). -/
def State.csApplied (s : State) : State :=
  let waiting := (maskParts (csMask s.pk.set)).filter (fun p => !s.alwaysUsable p)
  let s := { s with pk := { s.pk with
    begun := false, applying := [], awaiting := waiting, staged := none, stagedBanks := [], quiesce := 0, previous := [] } }
  let s := s.undeclareDue
  if waiting.isEmpty then
    (((s.setFld Fld.PK_CS_STATUS_STATE (if s.pk.dropped then 7 else 6)).setReg Reg.PK_CS_CODE
      (if s.pk.dropped then 0x0714 else 0)).setReg Reg.PK_CS_FRAME (s.free 32)).nextFree.csFinalEvent
  else s.setFld Fld.PK_CS_STATUS_STATE 5

/-- Set EN again for every partition that was enabled (R358 item 6); its first frame carries GAP. -/
def State.reEnable (s : State) : State :=
  (List.range 4).foldl (fun s p => if s.pk.enabled / 2 ^ p % 2 = 1 then s.svStart p else s) s

/-- SV_CTRL takes the value of a set, whose partitions have been checked. -/
def State.csEnables (s : State) (v : Word) : State :=
  (List.range 4).foldl (fun s p => if tstBit v p then s.svStart p else if s.svEnabled p then s.svDisable p else s) s

/-- The rest of an apply, once its SP apply has taken effect: the package switch, the CTAB entries and BUDGET, and SV_CTRL. -/
def State.csFinish (s : State) : State :=
  if !s.pk.begun || (s.csNeedsSp && s.sp.captured.isSome) then s
  else
    let set := s.pk.set
    let s := match s.pk.staged with
      | none => s
      | some (p, k) =>
        let old := match (s.partition p).pkg with | none => [] | some old => old.banks
        let s := s.takePackage p k (s.carriesTo p k)
        { s with pk := { s.pk with undeclare := s.pk.undeclare ++ old.filter (fun b => !k.banks.contains b) } }
    let s := s.csTables set
    let s := match csSvCtrl set with
      | none => s
      | some v => s.csEnables v
    (if csQuiesce set then s.reEnable else s).csApplied

/-- An apply begins, unless an SP apply waits: held writes of others first (R365), then the entries in their order, the SP
apply and the PX apply are issued, and no frame of the partition starts until all has taken effect. A failing check gives its
code, with nothing changed. -/
def State.csBegin (s : State) (reloads : List Nat) : Option Nat × State :=
  let set := s.pk.set
  let s := (maskParts (csMask set)).foldl State.epochApply s
  if s.csNeedsSp && s.sp.captured.isSome then (none, s)
  else
    let t := s.csTrial set
    match t.csCfgCode set reloads with
    | some c => (some c, s)
    | none =>
      let t := { t with pk := { t.pk with begun := true, applying := maskParts (csMask set) } }.setFld Fld.PK_CS_STATUS_STATE 5
      let t := if t.csNeedsSp then (t.spCapture t.spShadow).spTakeEffect else t
      (none, (if csHas set 2 then t.pxApply else t).csFinish)

/-- Apply a ready set without QUIESCE, or refuse it. -/
def State.csApply (s : State) : State :=
  match s.csBegin ((csLoads s.pk.set).map (·.1)) with
  | (some c, s) => s.csEnd 8 0x0713 c
  | (none, s) => s

/-! ## Checks, staging, boundaries -/

/-- A set that passed its checks is ready, and PK_CS_TAPPLY shows its time; too long a set is refused. Without a
partition and without QUIESCE it is applied at once (R349). A LOAD whose boundary will be usable marks its final
frame (R355). -/
def State.csReady (s : State) : State :=
  let set := s.pk.set
  let t := s.applyTime set
  let s := { (s.setFld Fld.PK_CS_TAPPLY_NS (min t (2 ^ 20 - 1))).setFld Fld.PK_CS_STATUS_STATE 4 with
    pk := { s.pk with readyAt := s.localNs } }
  if csQuiesce set then s
  else match maskParts (csMask set) with
    | [] => s.csApply
    | p :: _ =>
      if s.framePeriodNs p < t + 100000 then s.csEnd 8 0x0711 0
      else match s.pk.staged with
        | none => s
        | some (_, k) => if !s.alwaysUsable p && s.gapFits p then s.markFinal p (s.carriesTo p k) else s

/-- Check the resulting configuration of a set, and make it ready; of a set that reloads packages, what does not depend on
them (R348). -/
def State.csConfigCheck (s : State) : State :=
  let set := s.pk.set
  let loads := (csLoads set).map (·.1)
  let t := s.csTrial set
  let t := { t with pk := { t.pk with enabled := 0 } }
  match if loads.isEmpty then t.csCfgCode set [] else t.csPxCode set loads with
  | some c => s.csEnd 8 0x0713 c
  | none => s.csReady

/-- CS_CHECK_DONE: format and R346; a set with a LOAD then stages its package. -/
def State.csCheckDone (s : State) : State :=
  if s.csState ≠ 2 then s
  else
    let set := s.pk.set
    let s := s.setFld Fld.PK_CS_TAG_TAG (le set 0xA 2)
    if !s.csFormatOk set then s.csEnd 8 0x0710 0
    else match (csLoads set).find? (fun l => !l.2.2) with
      | some l => (s.setFld Fld.PK_CS_STATUS_STATE 3).setFld (Fld.PK_PART_STATUS_STATE l.1)
          (if (s.partition l.1).pkg.isSome then 2 else 0)
      | none => s.csConfigCheck

/-- Check a package against the configuration that the set will leave (Table 11.4). -/
def State.csSlot (s : State) (p n : Nat) (m : List (Nat × Word)) (io : Option Nat) : Except (Nat × Nat) Package :=
  let t := s.csTrial s.pk.set
  { t with px := { t.px with inForce := t.csPx s.pk.set } }.smpSlot p n m io

/-- PACKAGE_LOAD while a LOAD stages: the package is checked, and its banks are declared to the partition while the old package
runs; or the set is refused (R354). It waits for an SP apply that waits. -/
def State.stagePackage (s : State) (p n : Nat) (io : Option Nat) : State :=
  if s.csState ≠ 3 ∨ s.pk.staged.isSome ∨ s.sp.captured.isSome ∨ !(csLoads s.pk.set).contains (p, n, false) then s
  else match s.csSlot p n (clearPart s.spShadow p) io with
    | .error e => ((s.raisePk e.1 s.csOwnerNow).setFld (Fld.PK_PART_CODE_CODE p) e.1).csEnd 8 0x0713 e.1
    | .ok k =>
      if !s.stageOk p k then s.csEnd 8 0x070F 0x070F
      else
        let fresh := k.banks.filter (fun b => !bankDeclared s.sp.inForce b)
        let m := declareBanks s.spShadow p k fresh
        let s := { s with pk := { s.pk with staged := some (p, k), stagedBanks := fresh } }
        if fresh.isEmpty then s else (s.putShadow m).spCapture m

/-- CS_STAGING_DONE: the staged banks are declared and the package's rows are written; the configuration with the package is
checked, and the set becomes ready. -/
def State.csStagingDone (s : State) : State :=
  match s.pk.staged with
  | none => s
  | some (p, k) =>
    if s.csState ≠ 3 ∨ !s.pk.stagedBanks.all (bankDeclared s.sp.inForce) then s
    else
      let s := { s.writeRows p k with pk := { s.pk with staged := some (p, k.placed) } }
      match (s.csTrial s.pk.set).csCfgCode s.pk.set [p] with
      | some c => s.csEnd 8 0x0713 c
      | none => s.csReady

/-- A usable boundary with the partition's frame closed: the set is applied; a LOAD of a running partition first marks its final
frame and waits for it (R355, R357). -/
def State.csTakeBoundary (s : State) (p : Nat) : State :=
  match s.pk.staged with
  | none => s.csApply
  | some (q, k) => if s.alwaysUsable p || s.finalClosed p then s.csApply else s.markFinal q (s.carriesTo q k)

/-- A boundary after the 1 s of R351 that is not usable: the next start instant is suppressed once, and the set is applied from
the close; a LOAD first needs its final frame. -/
def State.csDrop (s : State) (p : Nat) : State :=
  let needs := match s.pk.staged with
    | none => none
    | some (q, k) => if s.finalRuns q then none else some (q, k)
  match needs with
  | some (q, k) => s.markFinal q (s.carriesTo q k)
  | none =>
    let s := if s.pk.dropped then s
      else { s.setPart p { s.partition p with suppress := true } with
        pk := { s.pk with dropped := true } }.raisePk 0x0714 s.csOwnerNow
    if (s.partition p).frame.isSome then s else s.csApply

/-- Under DEFER a LOAD marks its final frame once the boundary after the next frame begins beyond the 1 s of R351. -/
def State.csDefer (s : State) (p : Nat) : State :=
  match s.pk.staged with
  | some (q, k) => if oneSecond < (s.localNs - s.pk.readyAt).toNat + s.framePeriodNs p then s.markFinal q (s.carriesTo q k) else s
  | none => s

/-- Does the engine hold a ready set of partition `p` without QUIESCE? -/
def State.csWaits (s : State) (p : Nat) : Bool := s.csState == 4 && !csQuiesce s.pk.set && csMask s.pk.set == 2 ^ p

/-- CS_BOUNDARY of a partition (R351); an apply that has begun goes on. A LOAD whose partition stopped before its final frame
closed is refused (R357). -/
def State.csBoundary (s : State) (p : Nat) : State :=
  if s.pk.begun && s.pk.quiesce == 0 then s.csFinish
  else if s.csState = 4 ∧ csMask s.pk.set = 0 ∧ !csQuiesce s.pk.set then s.csApply
  else if !s.csWaits p then s
  else if s.pk.finals.contains p ∧ s.fld (Fld.SV_STATUS_STATE p) = svStopped then s.csEnd 8 0x0713 0x0605
  else if s.alwaysUsable p || s.gapFits p then (if (s.partition p).frame.isSome then s else s.csTakeBoundary p)
  else if tstBit (s.reg Reg.SV_CFGPOLICY) p then s.csEnd 9 0x0712 0
  else if s.pk.late then s.csDrop p
  else s.csDefer p

/-- CS_DEFER_TIMEOUT: the first boundary after the 1 s of R351 begins, and it is not usable. -/
def State.csDeferTimeout (s : State) (p : Nat) : State :=
  if s.csWaits p then { s with pk := { s.pk with late := true } }.csBoundary p else s

/-! ## Interrupted change (R358, R359) -/

/-- Check every RELOAD image without writing anything, each on the set that its predecessors leave: the first failing code, or
the loads to do with the SP set at their end. `io`: the read of a partition's image fails at a byte. -/
def State.reloadChecks (s : State) (io : Option (Fin 4 × Nat)) :
    List (Nat × Nat × Bool) → List (Nat × Word) → Except (Nat × Nat) (List Reload × List (Nat × Word))
  | [], m => .ok ([], m)
  | (p, n, _) :: ls, m =>
    match s.csSlot p n (clearPart m p) ((io.filter (fun (x : Fin 4 × Nat) => x.1.val == p)).map (·.2)) with
    | .error e => .error e
    | .ok k =>
      match s.reloadChecks io ls (addPackage (clearPart m p) p k) with
      | .error e => .error e
      | .ok r => .ok (⟨p, n, some k.placed, (s.slotImage p n).map (·.1)⟩ :: r.1, r.2)

/-- The first step of a QUIESCE set: its images are read and checked with the configuration they leave, and final frames
marked. -/
def State.quiesceBegin (s : State) (io : Option (Fin 4 × Nat)) : State :=
  let set := s.pk.set
  match s.reloadChecks io (csLoads set) s.spShadow with
  | .error e => s.csEnd 8 0x0713 e.1
  | .ok (ks, m) =>
    let t := ks.foldl (fun (t : State) r => match r.pkg with | some k => t.packageRegs r.part k | none => t) (s.putShadow m)
    let t := { t with pk := { t.pk with enabled := (s.reg Reg.SV_CTRL).toNat % 16 } }
    match (t.csTrial set).csCfgCode set (ks.map (·.part)) with
    | some c => s.csEnd 8 0x0713 c
    | none =>
      let s := ks.foldl (fun (s : State) r => match r.pkg with
        | some k => if s.alwaysUsable r.part then s else s.markFinal r.part (s.carriesTo r.part k)
        | none => s) s
      { s.setFld Fld.PK_CS_STATUS_STATE 5 with
        pk := { s.pk with quiesce := 1, enabled := (s.reg Reg.SV_CTRL).toNat % 16, reloads := ks } }

/-- Clear EN of each enabled partition at its boundary, or after its final frame (R358 item 2); a stopped one has no further
frame. -/
def State.quiesceDisable (s : State) : State :=
  (List.range 4).foldl (fun s p =>
    if s.svEnabled p && (s.partition p).frame.isNone &&
      (!s.pk.finals.contains p || s.finalClosed p || s.alwaysUsable p) then s.svDisable p else s) s

/-- A QUIESCE set fails: the packages it replaced are put back, and it then ends with its result (R352, R359). -/
def State.quiesceFail (s : State) (code detail : Nat) : State :=
  { s with pk := { s.pk with
    quiesce := 2, failed := some (code, detail), previous := []
    reloads := s.pk.previous.map (fun x => ⟨x.1, (x.2.map Package.slot).getD 0, x.2, none⟩) } }

/-- Step 2 of the interrupted change: the SP apply of the next RELOAD, which undeclares the old package's banks but the kept
ones and declares the new one's; with none left, the entries, or the end of a set that failed. -/
def State.quiesceNext (s : State) : State :=
  match s.pk.reloads with
  | r :: _ =>
    if s.sp.captured.isSome then s
    else
      let m := clearPart s.spShadow r.part
      let m := match r.pkg with
        | none => m
        | some k => addPackage m r.part k
      { (s.putShadow m).spCapture m with pk := { s.pk with
          quiesce := 3
          previous := if s.pk.failed.isSome then s.pk.previous else (r.part, (s.partition r.part).pkg) :: s.pk.previous } }.spTakeEffect
  | [] =>
    match s.pk.failed with
    | some e => s.reEnable.csEnd 8 e.1 e.2
    | none =>
      let t : State := { s with pk := { s.pk with quiesce := 4 } }
      match t.csBegin (s.pk.previous.map (·.1)) with
      | (some c, s) => s.quiesceFail 0x0713 c
      | (none, s) => if s.pk.begun || s.pk.quiesce == 0 then s else { s with pk := { s.pk with quiesce := 2 } }

/-- The code with which a loading read fails, or its package: an image that differs from the checked one and passes every check
itself gives PK_NVM (log entry 14). -/
def State.reloadRead (s : State) (r : Reload) (io : Option (Fin 4 × Nat)) : Except Nat Package :=
  match s.csSlot r.part r.slot (clearPart s.spShadow r.part) ((io.filter (fun (x : Fin 4 × Nat) => x.1.val == r.part)).map (·.2)) with
  | .error e => .error e.1
  | .ok k => if r.img.isNone || r.img == (s.slotImage r.part r.slot).map (·.1) then .ok k else .error 0x070E

/-- Step 3 of the interrupted change: the load of the RELOAD in progress, once its SP apply has taken effect. A failing read
puts the previous packages back; where one of those cannot be read, the partition is left empty (R359). -/
def State.quiesceLoad (s : State) (io : Option (Fin 4 × Nat)) : State :=
  match s.pk.reloads with
  | [] => s
  | r :: rs =>
    if s.sp.captured.isSome then s
    else
      let next := { s with pk := { s.pk with quiesce := 2, reloads := rs } }
      match r.pkg with
      | none => next.emptyPart r.part
      | some k =>
        match s.reloadRead r io with
        | .ok k => (next.packageRegs r.part k).takePackage r.part k (s.carriesTo r.part k)
        | .error c =>
          if s.pk.failed.isSome then
            let next := (next.emptyPart r.part).refusePackage r.part c s.csOwnerNow
            { next with pk := { next.pk with undeclare := next.pk.undeclare ++ k.banks } }.undeclareDue
          else ((s.raisePk c s.csOwnerNow).setFld (Fld.PK_PART_CODE_CODE r.part) c).quiesceFail c 0

/-- CS_QUIESCE: the next step of R358 that nothing holds up. -/
def State.csQuiesceStep (s : State) (io : Option (Fin 4 × Nat)) : State :=
  match s.pk.quiesce with
  | 0 => if s.csState = 4 ∧ csQuiesce s.pk.set then s.quiesceBegin io else s
  | 1 =>
    let s := s.quiesceDisable
    if (List.range 4).any (fun p => s.svEnabled p || (s.partition p).frame.isSome) || !s.holdsClear then s
    else { s with pk := { s.pk with quiesce := 2 } }.quiesceNext
  | 2 => s.quiesceNext
  | 3 => s.quiesceLoad io
  | _ => s.csFinish

/-- CS_OPEN_TIMEOUT: a set held open by a host path for 10 s is aborted (R415). -/
def State.csOpenTimeout (s : State) : State :=
  if s.csState = 1 ∧ 3 ≤ s.csOwnerNow then s.csEnd 10 0 0 else s

/-- Does a set that is staging, ready or applying name the slot of a partition (R359)? -/
def State.csNames (s : State) (p n : Nat) : Bool :=
  decide (3 ≤ s.csState) && decide (s.csState ≤ 5) && (csLoads s.pk.set).any (fun l => l.1 == p && l.2.1 == n)

/-! ## Meanings -/

def execCsCheckDone (s : State) : Host.Outcome State Fault Refusal := .next s.csCheckDone
def execCsStagingDone (s : State) : Host.Outcome State Fault Refusal := .next s.csStagingDone
def execCsBoundary (p : Fin 4) (s : State) : Host.Outcome State Fault Refusal := .next (s.csBoundary p)
def execCsDeferTimeout (p : Fin 4) (s : State) : Host.Outcome State Fault Refusal := .next (s.csDeferTimeout p)
def execCsQuiesce (io : Option (Fin 4 × Nat)) (s : State) : Host.Outcome State Fault Refusal := .next (s.csQuiesceStep io)
def execCsOpenTimeout (s : State) : Host.Outcome State Fault Refusal := .next s.csOpenTimeout

end Sys2Proof.Machine
end

