-- ==== Sys2Proof/Machine/Layout.lean ====
section
/-! DEFINITION. The Layout Table as shipped, filled with the fused values of the unit (R115 to R119, R123, R125 to
R127, R133, Tables 4.1 to 4.11). -/

namespace Sys2Proof.Machine

/-- An entry of TYPE with its body; LENGTH counts the head (R117). -/
def layoutEntry (type : Nat) (body : List Byte) : List Byte := toLe 1 type ++ toLe 1 1 ++ toLe 2 (4 + body.length) ++ body

/-- IDENTITY (Table 4.3). -/
def State.layoutIdentity (s : State) : List Byte :=
  layoutEntry 1 (toLe 4 0x4816 ++ toLe 1 s.fuses.grade ++ toLe 1 s.lifecycle ++ toLe 1 s.fuses.pixelRev ++
    toLe 1 s.fuses.logicRev ++ toLe 1 s.fuses.memoryRev ++ toLe 3 0 ++ s.uidBytes)

/-- TOPOLOGY (Table 4.4). -/
def layoutTopology : List Byte :=
  layoutEntry 6 (toLe 1 4 ++ toLe 1 4 ++ toLe 2 512 ++ toLe 4 65536 ++ toLe 1 32 ++ toLe 1 64 ++ toLe 2 64 ++
    toLe 4 4194304 ++ toLe 1 4 ++ toLe 3 0)

/-- Owner slots programmed and revoked as four bits each. -/
def Fuses.keyBits (f : Fuses) : Nat :=
  ((List.range 4).map (fun k => 2 ^ k * bit (f.programmed k) + 2 ^ (4 + k) * bit (f.isRevoked k))).sum

/-- POLICY (Table 4.5). -/
def State.layoutPolicy (s : State) : List Byte :=
  layoutEntry 7 (toLe 2 s.fuses.frameBudget ++ toLe 2 0 ++ toLe 4 s.fuses.rateBudget ++ toLe 1 (s.fuses.schemaForbid % 64) ++
    toLe 1 (bit s.fuses.auxAllTagged) ++ toLe 1 s.fuses.arb ++ toLe 1 s.fuses.keyBits)

/-- The regions of Table 4.10: ORDER, ATTR (Table 4.7), base and size. -/
def layoutRegions : List (Nat × Nat × Nat × Nat) :=
  [(0, 0x0F09, 0x00000000, 0x1000), (0, 0x0B1D, 0x00010000, 0x20000), (0, 0x0A07, 0x00040000, 0x40000),
   (3, 0x0B03, 0x10000000, 0x1000000), (0, 0x0F37, 0x20000000, 0x2000000), (0, 0x0F37, 0x40000000, 0x10000000),
   (0, 0x0B5F, 0x60000000, 0x100000), (0, 0x0B83, 0x80000000, 0x20000000)]

/-- REGION entry (Table 4.6). -/
def layoutRegion (e : (Nat × Nat × Nat × Nat) × Nat) : List Byte :=
  layoutEntry 4 (toLe 1 e.2 ++ toLe 1 e.1.1 ++ toLe 2 e.1.2.1 ++ toLe 4 e.1.2.2.1 ++ toLe 4 e.1.2.2.2)

/-- The blocks of Table 4.11: source byte, ORDER, prefix and base. -/
def layoutBlocks : List (Nat × Nat × String × Nat) :=
  [(0x00, 1, "SYS", 0x10000000), (0x01, 2, "DS", 0x10010000), (0x02, 1, "PX", 0x10020000), (0x03, 1, "TF", 0x10030000),
   (0x04, 1, "SP", 0x10040000), (0x05, 1, "CC", 0x10050000), (0x06, 1, "SV", 0x10060000), (0x07, 1, "PK", 0x10070000),
   (0x08, 1, "EG", 0x10080000), (0x09, 1, "LK", 0x10090000), (0x0A, 1, "HP", 0x100A0000), (0x0B, 1, "TM", 0x100B0000),
   (0x0C, 1, "AX", 0x100C0000), (0x0D, 2, "PW", 0x100D0000), (0x0E, 1, "MG", 0x100E0000), (0x10, 2, "FZ", 0x100F0000)]

/-- BLOCK entry (Table 4.8): every block is version 1.0. -/
def layoutBlock (e : Nat × Nat × String × Nat) : List Byte :=
  layoutEntry 2 (toLe 1 e.1 ++ toLe 1 e.2.1 ++ toLe 1 0 ++ toLe 1 1 ++ (asciiBytes e.2.2.1 ++ [0, 0, 0, 0]).take 4 ++
    toLe 4 e.2.2.2 ++ toLe 4 0x10000)

/-- The one SUBRANGE entry: the MG mailbox is strict (R126). -/
def layoutSubrange : List Byte := layoutEntry 3 (toLe 1 0x0E ++ toLe 1 2 ++ toLe 2 0 ++ toLe 4 0x8000 ++ toLe 4 0x1000)

/-- TILE entry (Table 4.9, R127). -/
def layoutTile (t : Nat) : List Byte :=
  layoutEntry 5 (toLe 1 t ++ toLe 1 (t % 4) ++ toLe 1 (t / 4) ++ toLe 1 (bit (!isCTile t)) ++ toLe 1 1 ++ toLe 1 32 ++
    toLe 1 (4 * t) ++ toLe 1 4 ++ toLe 2 (if isCTile t then 2048 else 256) ++
    toLe 1 ((List.range 4).map (fun d => 2 ^ d * bit (neighbour t d).isSome)).sum ++ toLe 1 0 ++
    toLe 4 (0x20000000 + 0x200000 * t))

/-- The whole table, in the order R128's section gives. -/
def State.layoutTable (s : State) : List Byte :=
  let entries := s.layoutIdentity ++ layoutTopology ++ s.layoutPolicy ++ layoutRegions.zipIdx.flatMap layoutRegion ++
    layoutBlocks.flatMap layoutBlock ++ layoutSubrange ++ (List.range 16).flatMap layoutTile ++ layoutEntry 0 []
  let head := toLe 4 0x544C4743 ++ toLe 1 0 ++ toLe 1 1 ++ toLe 2 0x20 ++ toLe 2 (32 + entries.length) ++ toLe 2 45 ++
    toLe 4 0x4816 ++ toLe 2 0x0100 ++ toLe 6 0 ++ toLe 4 (crc32 entries).toNat
  head ++ toLe 4 (crc32 head).toNat ++ entries

end Sys2Proof.Machine
end

