-- ==== Sys2Proof/Machine/Primer.lean ====
section
/-! DEFINITION. The checks of a Primer image and of a firmware image (R92, R94 to R101, R532, Tables 3.3 to 3.8 and
17.6). -/

namespace Sys2Proof.Machine

/-! ## The Primer -/

/-- The rules of a valid header but for PART and TABLE_CRC (R92, Table 3.3). An image too short for its sections fails the
placement rules of R94 instead. -/
def primerHeaderRest (img : List Byte) : Bool :=
  let len := le img 8 4
  let n := le img 0xC 2
  headerFrame img 0x52504743 && len % 8 == 0 && decide (len ≤ 65536) && decide (4 ≤ n) && decide (n ≤ 32) &&
    decide (le img 0xE 2 < 2) && le img 0x20 4 + 96 == len && allZero img 0x16 2 && allZero img 0x24 24

/-- The code of an invalid header, or none for a valid one (R92, Table 3.9). Where several rules fail, PRIMER_HEADER goes
before PRIMER_PART and that before PRIMER_TABLE (DESIGN CHOICE, log entry 41). -/
def primerHeaderCode (img : List Byte) : Option Nat :=
  if !primerHeaderRest img then some 0x0F08
  else if !headerPart img then some 0x0F0E
  else if !tableCrcOk img (le img 0xC 2) then some 0x0F09
  else none

/-- Is the header valid (R92)? -/
def primerHeaderOk (img : List Byte) : Bool := (primerHeaderCode img).isNone

/-- GENERATION. -/
def primerGeneration (img : List Byte) : Nat := le img 0x10 4

/-- The sections of a type, VERSION 1, in table order. -/
def sectionsOf (img : List Byte) (t : Nat) : List ImgEntry := segsOf (imgEntries img (le img 0xC 2)) t

/-- An entry of a register list (Table 3.6). -/
structure RegEntry where
  block : Nat
  flags : Nat
  off : Nat
  value : Word
deriving DecidableEq, Repr

/-- The register-list entries of a body. -/
def regEntries (b : List Byte) : List RegEntry := (List.range (b.length / 8)).map (fun i =>
  let e := slice b (8 * i) 8
  ⟨le e 0 1, le e 1 1, le e 2 2, word (le e 4 4)⟩)

/-- A PACKAGE_LOC body (Table 3.7). -/
def locatorOf (b : List Byte) : Locator :=
  ⟨le b 0 1, le b 1 1, le b 2 1 % 2 == 1, le b 4 4, le b 8 4, le b 0xC 4, le b 0x10 4⟩

/-- The rules of one locator (R99). -/
def State.locatorOk (s : State) (b : List Byte) : Bool :=
  let l := locatorOf b
  b.length == 24 && decide (l.kind ≤ 2) && decide (l.part < 4) && (l.kind == 0 || l.part == 0) && decide (le b 2 1 < 2) &&
    allZero b 3 1 && allZero b 0x14 4 && s.slotUsable l.aOff l.aLen &&
    (if l.hasB then s.slotUsable l.bOff l.bLen else l.bOff == 0 && l.bLen == 0)

/-- A POLICY body (Table 3.8). -/
def policyOk (b : List Byte) : Bool :=
  b.length == 32 && decide (le b 0 4 < 2 ^ 14) && decide (le b 4 4 < 2 ^ 17) && decide (le b 8 1 ≤ 1) &&
    decide (le b 9 1 ≤ 1) && decide (le b 0xA 1 < 4) && allZero b 0xB 21

/-- The locators of an image, and the partitions it declares. -/
def primerLocators (img : List Byte) : List Locator := (sectionsOf img 8).map (fun e => locatorOf (e.body img))
def primerParts (img : List Byte) : List Nat := (sectionsOf img 7).map (fun e => le (e.body img) 0 1)

/-- The section rules of R97 and R99; `recovery` is the flag. -/
def State.primerSectionsOk (s : State) (img : List Byte) (recovery : Bool) : Bool :=
  let es := imgEntries img (le img 0xC 2)
  let count := fun t => (sectionsOf img t).length
  let parts := primerParts img
  let locs := primerLocators img
  let once := fun (l : List Nat) => (List.range 4).all (fun p => decide ((l.filter (· == p)).length ≤ 1))
  es.all (fun e => decide (e.flags < 2) && ((decide (1 ≤ e.type) && decide (e.type ≤ 8) && e.version == 1) || e.isOptional)) &&
    count 1 == 1 && count 2 == 1 && decide (count 3 ≤ 1) && decide (count 4 ≤ 1) && count 5 == 1 && count 6 == 1 &&
    (sectionsOf img 6).all (fun e => policyOk (e.body img)) &&
    (sectionsOf img 7).all (fun e => let b := e.body img
      decide (8 ≤ b.length) && decide (le b 0 1 < 4) && allZero b 1 7) && once parts &&
    (sectionsOf img 8).all (fun e => s.locatorOk (e.body img)) &&
    locs.all (fun l => decide ((locs.filter (fun k => k.kind == l.kind && k.part == l.part)).length ≤ 1)) &&
    parts.all (fun p => locs.any (fun l => l.kind == 0 && l.part == p)) &&
    (parts.isEmpty || locs.any (fun l => l.kind == 1)) &&
    (!recovery || (parts.isEmpty && locs.all (fun l => l.kind == 2)))

/-- The full check of R101 on the image of a slot (0 A, 1 B, 2 recovery) with a valid header: the code of the first
failure in the order in which R101 lists the checks (DEDUCED, log entry 41), or none. An image that could not be read whole
fails its section CRCs. -/
def State.primerCode (s : State) (img : List Byte) (slot : Nat) (io : Bool) : Option Nat :=
  let n := le img 0xC 2
  let len := le img 8 4
  let img := img.take len
  let es := imgEntries img n
  let sigOff := len - 96
  let recovery := le img 0xE 2 % 2 == 1
  if io || !crcsMatch img es then some 0x0F0A
  else if !placedOk (0x40 + 16 * n) sigOff es || !gapsZero img es then some 0x0F09
  else if !s.signatureOk img (le img 0x15 1) sigOff then some 0x0F0B
  else if le img 0x14 1 < s.fuses.arb then some 0x0F0C
  else if recovery != decide (slot = 2) || !s.primerSectionsOk img recovery then some 0x0F0D
  else none

/-- The 64 KiB of a Primer slot (Table 3.2). -/
def State.primerImage (s : State) (slot : Nat) : List Byte := s.nvmBytes (0x10000 * slot) 0x10000

/-! ## Firmware (R532, Table 17.6) -/

/-- Where firmware of a KIND may lie: first address and the end. -/
def fwRegion (kind : Nat) : Nat × Nat := if kind = 1 then (0x60000000, 0x60100000) else (0x40000, 0x78000)

/-- Check a firmware image against the locator's KIND; `room` is what the slot holds. The code of the first failure. -/
def State.fwCode (s : State) (img : List Byte) (kind room : Nat) (io : Bool) : Option Nat :=
  let len := le img 8 4
  let sigOff := le img 0x20 4
  let load := le img 0x1C 4
  let body := slice img 0x40 (sigOff - 0x40)
  let r := fwRegion kind
  let entry := fun i => le img (0x24 + 4 * i) 4
  if io || !headerCommon img 0x57464743 || len % 8 != 0 || decide (len < 0xA0) || decide (room < len) || sigOff != len - 96 ||
      !allZero img 0xD 3 || !allZero img 0x16 2 || !allZero img 0x38 4 || (crc32 body).toNat != le img 0x34 4 then some 0x0E01
  else if !s.signatureOk (img.take len) (le img 0x15 1) sigOff then some 0x0E02
  else if le img 0x14 1 < s.fuses.arb then some 0x0E03
  else if le img 0xC 1 != kind || load % 8 != 0 || decide (load < r.1) || decide (r.2 < load + body.length) ||
      !(List.range 4).all (fun i => entry i == 0 || (decide (load ≤ entry i) && decide (entry i < load + body.length))) ||
      (kind == 2 && (entry 0 == 0 || entry 1 != 0 || entry 2 != 0 || entry 3 != 0)) then some 0x0E04
  else none

end Sys2Proof.Machine
end

