-- ==== Sys2Proof/Machine/Snag.lean ====
section
/-! DEFINITION. The Snag Log in NVM and the NVM writer: the entry format, the search for the write point, programs
and erases with their read-back, and their precedence (R528 to R531, R541 to R543, Tables 17.4 and 17.5). -/

namespace Sys2Proof.Machine

/-! ## Entries (Table 17.4) -/

/-- NVM address of entry `i`. -/
def snagAddr (i : Nat) : Nat := 0x30000 + 32 * i

/-- The bytes of an entry in pass `c`. -/
def snagBytes (c : Nat) (e : SnagEntry) : List Byte :=
  let body := toLe 1 e.kind ++ toLe 1 e.src ++ toLe 2 e.code ++ toLe 8 e.plumb.toNat ++ toLe 4 e.uptime ++ toLe 2 e.count ++
    toLe 2 0 ++ toLe 4 e.arg.toNat
  toLe 2 c ++ toLe 2 (0xFFFF - c) ++ body ++ toLe 4 (crc32 body).toNat

/-- The bytes of entry `i`. -/
def State.snagEntry (s : State) (i : Nat) : List Byte := s.nvmBytes (snagAddr i) 32

/-- The pass of a valid OVW word. -/
def ovw (e : List Byte) : Option Nat := if le e 2 2 = 0xFFFF - le e 0 2 then some (le e 0 2) else none

/-- Erased, and good (R528). -/
def snagErased (e : List Byte) : Bool := e.all (· == 0xFF#8)
def snagGood (e : List Byte) : Bool := (ovw e).isSome && (crc32 (slice e 4 24)).toNat == le e 0x1C 4

/-! ## Programs and erases -/

/-- A program only clears bits (R530). -/
def State.nvmProgram (s : State) (a : Nat) (bs : List Byte) : State :=
  let old := s.nvmBytes a bs.length
  { s with nvm := Sparse.puts nvmDefault a ((old.zip bs).map (fun p => p.1 &&& p.2)) s.nvm }

/-- An erase sets every byte to 0xFF. -/
def State.nvmErase (s : State) (a n : Nat) : State := { s with nvm := Sparse.clear a (a + n) s.nvm }

/-- Carry out an operation. -/
def State.nvmDo (s : State) (o : NvmOp) : State :=
  if o.erase ≠ 0 then s.nvmErase o.addr o.erase else s.nvmProgram o.addr o.data

/-- The read-back of an operation. -/
def State.nvmOpOk (s : State) (o : NvmOp) : Bool :=
  if o.erase ≠ 0 then (s.nvmBytes o.addr o.erase).all (· == 0xFF#8) else s.nvmBytes o.addr o.data.length == o.data

/-- The write point: index and pass of the next entry. -/
def State.setWp (s : State) (w c : Nat) : State :=
  (s.setFld Fld.MG_SNAG_WP_WP w).setFld Fld.MG_SNAG_WP_PASS c

/-- The write point past an entry; a new pass starts after entry 4,095 (R529). -/
def State.advanceWp (s : State) : State :=
  let w := s.fld Fld.MG_SNAG_WP_WP
  let c := s.fld Fld.MG_SNAG_WP_PASS
  if w = 4095 then s.setWp 0 (c + 1) else s.setWp (w + 1) c

/-- Program the OVW word of entry `i` with pass `c`; an entry that stays torn raises MG_SNAG_TORN (R530). -/
def State.repairOvw (s : State) (i c : Nat) : State :=
  let s := s.nvmProgram (snagAddr i) (toLe 2 c ++ toLe 2 (0xFFFF - c))
  if snagGood (s.snagEntry i) then s
  else (s.raiseMgLog 0x0E0C (word i)).incSat Fld.MG_SNAG_TORN_COUNT 1

/-- The binary search of R530 between `lo` and `hi` for the first entry that does not carry pass `c`. -/
def State.snagSearch (s : State) (c : Nat) : Nat → Nat → Nat → Nat
  | 0, _, hi => hi
  | n + 1, lo, hi =>
    if hi - lo ≤ 1 then hi
    else
      let mid := (lo + hi) / 2
      if ovw (s.snagEntry mid) = some c then s.snagSearch c n mid hi else s.snagSearch c n lo mid

/-- Step 10 of Table 3.1: find the write point (R530). -/
def State.findWritePoint (s : State) : State :=
  let e0 := s.snagEntry 0
  match ovw e0 with
  | none =>
    let c := match ovw (s.snagEntry 4095) with
      | some c => (c + 1) % 65536
      | none => 1
    if snagErased e0 then s.setWp 0 c else (s.repairOvw 0 c).setWp 1 c
  | some c =>
    let w := s.snagSearch c 13 0 4096
    if w = 4096 then s.setWp 0 (c + 1)
    else if w % 128 ≠ 0 ∧ !snagErased (s.snagEntry w) then
      (s.repairOvw w c).setWp ((w + 1) % 4096) (if w = 4095 then c + 1 else c)
    else s.setWp w c

/-! ## The queue and the NVM (R529, R531, R541) -/

/-- Start the next operation when none is in progress: the Snag Log's first (R531). -/
def State.nvmNext (s : State) : State :=
  if s.mg.current.isSome then s
  else
    let next := if !s.mg.snagOps.isEmpty then some true else if !s.mg.updOps.isEmpty then some false else none
    { s with mg := { s.mg with current := next } }.setFlag Fld.MG_STATUS_NVM_BUSY next.isSome

/-- SNAG_ENTRY_WRITE: the oldest queued entry, after an erase of its sector when it starts one. -/
def State.snagWrite (s : State) : State :=
  match s.snagQueue with
  | [] => s
  | e :: _ =>
    if !s.mg.snagOps.isEmpty then s
    else
      let w := s.fld Fld.MG_SNAG_WP_WP
      let prog : NvmOp := { addr := snagAddr w, data := snagBytes (s.fld Fld.MG_SNAG_WP_PASS) e }
      let ops := if w % 128 = 0 then [{ addr := snagAddr w, erase := 4096 }, prog] else [prog]
      { s with mg := { s.mg with snagOps := ops } }.nvmNext

/-- The queue without its oldest entry; a KIND 3 entry reports entries lost as soon as there is room (R531). -/
def State.snagPop (s : State) : State :=
  let s := { s with snagQueue := s.snagQueue.drop 1 }
  let s := s.setFld Fld.MG_SNAG_QUEUE_COUNT s.snagQueue.length
  if s.mg.lostDue = 0 then s
  else
    let n := s.mg.lostDue
    { s with mg := { s.mg with lostDue := 0 } }.queueSnag (s.mkSnag 3 0 0x0E0B 1 (word n))

/-- An entry written in full. -/
def State.snagWritten (s : State) : State := s.snagPop.advanceWp

/-- An entry whose program or erase failed is lost and counted; the write point passes a place that a program may
have torn. -/
def State.snagLost (s : State) (wasErase : Bool) : State :=
  let s := { s with mg := { s.mg with snagOps := [], lostDue := s.mg.lostDue + 1 } }
  let s := ((s.incSat Fld.MG_SNAG_LOST_COUNT 1).raiseMg 0x0E0B).snagPop
  if wasErase then s else s.advanceWp

/-! ## Entries the boot ROM writes itself (R40, R85, R101, R114) -/

/-- Write the oldest queued entry to its end, with the erase of its sector when it starts one, and read it back. -/
def State.snagNow (s : State) : State :=
  match s.snagQueue with
  | [] => s
  | e :: _ =>
    let w := s.fld Fld.MG_SNAG_WP_WP
    let prog : NvmOp := { addr := snagAddr w, data := snagBytes (s.fld Fld.MG_SNAG_WP_PASS) e }
    let s := (if w % 128 = 0 then s.nvmErase (snagAddr w) 4096 else s).nvmDo prog
    if s.nvmOpOk prog then s.snagWritten else (s.raiseMg 0x0E09).snagLost false

/-- Write `n` queued entries. -/
def State.snagFlush (s : State) : Nat → State
  | 0 => s
  | n + 1 => s.snagNow.snagFlush n

/-- Write the entries that wait, unless an entry is on its way already. -/
def State.bootFlush (s : State) : State := if s.mg.current.isSome then s else s.snagFlush s.snagQueue.length

end Sys2Proof.Machine
end

