-- ==== Sys2Proof/Machine/Manage.lean ====
section
/-! DEFINITION. The management subsystem: the mailbox and its commands, updates, fuse programs, lifecycle commands
and the management watchdog (R523 to R546, Tables 17.1 to 17.3, 17.8, 17.10 to 17.14). -/

namespace Sys2Proof.Machine

/-! ## The mailbox (R524, R525) -/

/-- What an unwritten mailbox byte reads as (DESIGN CHOICE, log entry 5). -/
def mboxDefault (_ : Nat) : Byte := 0#8

/-- MG_MB_STATE in the mailbox window (Table 17.13). -/
def mbStateReg : Nat := 0x100E8FF4
def mbState : RegField := ⟨mbStateReg, 1, 0⟩
def mbOwner : RegField := ⟨mbStateReg, 6, 4⟩
def mbCore : RegField := ⟨mbStateReg, 9, 8⟩

/-- OWNER of a requester: 1 core, 3 Lath head, 4 host SPI, 5 debug port. -/
def mbOwnerOf : Requester → Nat × Nat
  | .core n => (1, n)
  | .dpLath => (3, 0)
  | .dpHost => (4, 0)
  | .debug => (5, 0)
  | _ => (0, 0)

/-- Mailbox bytes, and a little-endian field of them. -/
def State.mbBytes (s : State) (o n : Nat) : List Byte := Sparse.gets mboxDefault s.mg.mbox o n
def State.mb (s : State) (o n : Nat) : Nat := le (s.mbBytes o n) 0 n

/-- Does the requester own the mailbox? -/
def State.mbOwns (s : State) (r : Requester) : Bool :=
  (mbOwnerOf r).1 != 0 && (mbOwnerOf r).1 == s.fld mbOwner && (mbOwnerOf r).2 == s.fld mbCore

/-- Store mailbox bytes below DOORBELL. -/
def State.mbStore (s : State) (o : Nat) (bs : List Byte) : State :=
  { s with mg := { s.mg with mbox := Sparse.puts mboxDefault o (bs.take (0xFF0 - o)) s.mg.mbox } }

/-- The owner's write of DOORBELL.GO moves FILLING to BUSY. -/
def State.mbDoorbell (s : State) (r : Requester) (v : Word) : State :=
  if s.mbOwns r && s.fld mbState == 1 then (if tstBit v 0 then s.setFld mbState 2 else s)
  else s.raiseMg 0x0E05

/-- A write of mailbox bytes at an offset below DOORBELL (R525). -/
def State.mbWriteArea (s : State) (r : Requester) (o : Nat) (bs : List Byte) : State :=
  let st := s.fld mbState
  if st = 2 then s.raiseMg 0x0E05
  else if st = 1 then (if s.mbOwns r then s.mbStore o bs else s.raiseMg 0x0E05)
  else if (mbOwnerOf r).1 = 0 then s.raiseMg 0x0E05
  else if o < 0x800 then
    (((s.setFld mbState 1).setFld mbOwner (mbOwnerOf r).1).setFld mbCore (mbOwnerOf r).2).mbStore o bs
  else s.mbStore o bs

/-- A write to the mailbox by a requester: bytes up to DOORBELL, and DOORBELL itself; STATE ignores writes. -/
def State.mbWrite (s : State) (r : Requester) (o : Nat) (bs : List Byte) : State :=
  let s := if o < 0xFF0 then s.mbWriteArea r o bs else s
  if o ≤ 0xFF0 ∧ 0xFF0 < o + bs.length then s.mbDoorbell r (word (le bs (0xFF0 - o) 4)) else s

/-- A read of mailbox bytes; any requester may read at any time. -/
def State.mbRead (s : State) (o n : Nat) : List Byte := (List.range n).map (fun i =>
  let a := o + i
  if a < 0xFF0 then Sparse.get mboxDefault s.mg.mbox a
  else if a < 0xFF4 then 0
  else if a < 0xFF8 then BitVec.ofNat 8 ((s.reg mbStateReg).toNat / 2 ^ (8 * (a - 0xFF4)))
  else 0)

/-- MBOX_FILL_TIMEOUT: FILLING without a doorbell for 10 s. -/
def State.mbTimeout (s : State) : State :=
  if s.fld mbState = 1 then s.setReg mbStateReg 0 else s

/-- The supervisor writes its response and the state becomes DONE: MBOX on both paths and CC_IRQ_PEND.BLOCK[8]. -/
def State.mbAnswer (s : State) (status res0 res1 : Nat) (payload : List Byte) : State :=
  let head := toLe 2 status ++ toLe 2 payload.length ++ toLe 2 (s.mb 4 2) ++ toLe 2 0 ++ toLe 4 res0 ++ toLe 4 res1
  let s := { s with mg := { s.mg with mbox := Sparse.puts mboxDefault 0x800 (head ++ payload) s.mg.mbox } }
  ((s.setFld mbState 3).bothEvents 2).pend 8

/-- An answer of a code alone. -/
def State.mbCode (s : State) (code : Nat) : State := s.mbAnswer code 0 0 []

/-- A command ends with an MG code, which is raised. -/
def State.mbFail (s : State) (code : Nat) : State := (s.raiseMgLog code 0).mbCode code

/-- A command that is not served (Table 17.10): MG_MBOX_CMD writes no Snag Log entry. -/
def State.mbBadCmd (s : State) : State := (s.raiseMg 0x0E06).mbCode 0x0E06

/-- CMD, LEN and the arguments. -/
def State.mbCmd (s : State) : Nat := s.mb 0 2
def State.mbLen (s : State) : Nat := s.mb 2 2
def State.mbArg (s : State) (k : Nat) : Nat := s.mb (8 + 4 * k) 4
def State.mbData (s : State) : List Byte := s.mbBytes 0x10 s.mbLen

/-- Is the device in Safe Halt? -/
def State.safeHalt (s : State) : Bool := s.fld Fld.SYS_BOOT_STATUS_PHASE == 3

/-- Serve command `cmd` when it is the one the mailbox holds: refused outside its LEN or arguments, and, unless it is
served there, in Safe Halt (R526). -/
def State.serve (s : State) (cmd : Nat) (inHalt limits : Bool) (f : State → State) : State :=
  if s.fld mbState ≠ 2 ∨ s.mbCmd ≠ cmd then s
  else if (s.safeHalt && !inHalt) || !limits then s.mbBadCmd
  else f s

/-! ## INFO, SNAG_READ, RESET -/

/-- FZ_KEY_STATE from the fuses. -/
def State.keyState (s : State) : Nat :=
  s.fuses.keyBits + ((List.range 4).map (fun k => 2 ^ (8 + k) * bit (s.fuses.keyBad.getD k false))).sum

/-- INFO (Table 17.3). -/
def State.mboxInfo (s : State) : State := s.serve 0x0001 true (s.mbLen == 0) (fun s =>
  s.mbAnswer 0 0 0 (toLe 4 (s.reg Reg.MG_STATUS).toNat ++ toLe 4 (s.reg Reg.MG_FW_VERSION).toNat ++
    toLe 4 s.boot.clusterVersion ++ toLe 4 (s.reg Reg.SYS_BOOT_STATUS).toNat ++ toLe 4 (s.reg Reg.SYS_BOOT_SLOTS).toNat ++
    toLe 1 s.lifecycle ++ toLe 1 s.fuses.arb ++ toLe 2 s.keyState ++ toLe 4 (s.reg Reg.MG_SNAG_WP).toNat ++
    toLe 4 (s.reg Reg.MG_UPD_STATUS).toNat))

/-- Entries from `back` before the newest on, newest first, as far as they are written. -/
def State.snagsBack (s : State) (back n : Nat) : List (List Byte) :=
  ((List.range (min n (4096 - back))).map (fun i =>
    s.snagEntry ((s.fld Fld.MG_SNAG_WP_WP + 4095 - back + (4096 - i)) % 4096))).takeWhile (fun e => !snagErased e)

/-- SNAG_READ. -/
def State.snagRead (s : State) : State :=
  let ok := s.mbLen == 0 && decide (s.mbArg 0 < 4096) && decide (1 ≤ s.mbArg 1) && decide (s.mbArg 1 ≤ 63)
  s.serve 0x0010 true ok (fun s =>
    let es := s.snagsBack (s.mbArg 0) (s.mbArg 1)
    s.mbAnswer 0 es.length (s.reg Reg.MG_SNAG_WP).toNat es.flatten)

/-- RESET: the response, then a system reset. -/
def State.mboxReset (s : State) : State :=
  s.serve 0x0050 true (s.mbLen == 0 && s.mbArg 0 == 0x5352) (fun s => (s.mbCode 0).resetAndBoot causeSoftware)

/-- MBOX_FIRMWARE_CMD: firmware answers a command from 0x8000 on, and the supervisor every unknown one. -/
def State.mboxFirmware (s : State) (status res0 res1 : Nat) (payload : List Byte) : State :=
  let known := [0x0001, 0x0010, 0x0020, 0x0021, 0x0022, 0x0023, 0x0024, 0x0030, 0x0031, 0x0032, 0x0040, 0x0050]
  if s.fld mbState ≠ 2 ∨ known.contains s.mbCmd then s
  else if 0x8000 ≤ s.mbCmd ∧ s.flag Fld.MG_STATUS_FW ∧ !s.safeHalt then
    s.mbAnswer status res0 res1 (payload.take 2016)
  else s.mbBadCmd

/-! ## Update (R533 to R535) -/

/-- The in-use ranges (R533). -/
def State.inUse (s : State) : List (Nat × Nat) :=
  if s.safeHalt then []
  else
    let primer := s.fld Fld.SYS_BOOT_STATUS_PRIMER
    let slots := fun kind part n => match s.locator kind part with
      | none => []
      | some l => (l.slot n).toList
    let fw := fun kind (f : RegField) => if s.fld f = 1 ∨ s.fld f = 2 then slots kind 0 (s.fld f) else []
    (if primer < 3 then [(0x10000 * primer, 0x10000)] else []) ++ fw 2 Fld.SYS_BOOT_SLOTS_MGMT_FW ++
      fw 1 Fld.SYS_BOOT_SLOTS_CLUSTER_FW ++
      (List.range 4).flatMap (fun p =>
        (if s.fld (Fld.PK_PART_STATUS_SLOT p) = 0 then [] else slots 0 p (s.fld (Fld.PK_PART_STATUS_SLOT p))) ++
        [1, 2].flatMap (fun n => (if s.csNames p n then slots 0 p n else []) ++
          (if s.fld ⟨Reg.SYS_BOOT_SLOTS, 5 + 2 * p, 4 + 2 * p⟩ = n then slots 0 p n else [])))

/-- Is a slot a whole Primer region? -/
def primerRegion (off len : Nat) : Bool := len == 0x10000 && (off == 0 || off == 0x10000 || off == 0x20000)

/-- The slot rules of R533. -/
def State.updSlotOk (s : State) (off len : Nat) : Bool :=
  off % 4096 == 0 && len % 4096 == 0 && len != 0 && decide (off + len ≤ s.boot.nvmSize) &&
    (primerRegion off len || decide (0x50000 ≤ off)) && s.inUse.all (fun r => !overlap off len r.1 r.2)

/-- The erases of a slot: 64 KiB blocks where aligned, 4 KiB sectors for the rest. -/
def eraseOps : Nat → Nat → Nat → List NvmOp
  | 0, _, _ => []
  | n + 1, off, len =>
    if len = 0 then []
    else
      let k := if off % 0x10000 = 0 ∧ 0x10000 ≤ len then 0x10000 else 0x1000
      { addr := off, erase := k } :: eraseOps n (off + k) (len - k)

/-- A KIND 5 entry (Table 17.5). -/
def State.updLog (s : State) (code : Nat) : State :=
  s.queueSnag (s.mkSnag 5 0 code 1 (s.reg Reg.MG_UPD_OFFSET))

/-- An update refused for its slot or owner. -/
def State.updRefuse (s : State) : State := (s.raiseMgLog 0x0E07 0).mbCode 0x0E07

/-- Is an update open, and does the mailbox's owner hold it? -/
def State.updMine (s : State) (states : List Nat) : Bool :=
  states.contains (s.fld Fld.MG_UPD_STATUS_STATE) && s.fld Fld.MG_UPD_STATUS_OWNER == s.fld mbOwner

/-- The NVM operation an aborted update left in progress (R535). -/
def State.updInProgress (s : State) : List NvmOp := if s.mg.current = some false then s.mg.updOps.take 1 else []

/-- UPD_BEGIN. -/
def State.updBegin (s : State) : State := s.serve 0x0020 true (s.mbLen == 0) (fun s =>
  let off := s.mbArg 0
  let len := s.mbArg 1
  if [1, 2, 3].contains (s.fld Fld.MG_UPD_STATUS_STATE) || !s.updSlotOk off len then s.updRefuse
  else
    let s := ((s.setReg Reg.MG_UPD_OFFSET (word off)).setReg Reg.MG_UPD_LEN (word len)).setFld Fld.MG_UPD_STATUS_STATE 1
    let s := s.setFld Fld.MG_UPD_STATUS_OWNER (s.fld mbOwner)
    { s with mg := { s.mg with updOps := s.updInProgress ++ eraseOps (len / 4096) off len, programmed := [] } }.nvmNext)

/-- The page programs of a payload (256-byte pages). -/
def pageOps : Nat → Nat → List Byte → List NvmOp
  | 0, _, _ => []
  | n + 1, a, bs =>
    if bs.isEmpty then []
    else
      let k := 256 - a % 256
      { addr := a, data := bs.take k } :: pageOps n (a + k) (bs.drop k)

/-- UPD_DATA. -/
def State.updData (s : State) : State :=
  let len := s.mbLen
  let o := s.mbArg 0
  let ok := decide (16 ≤ len) && decide (len ≤ 2032) && len % 16 == 0 && o % 16 == 0
  s.serve 0x0021 true ok (fun s =>
    let slotLen := (s.reg Reg.MG_UPD_LEN).toNat
    if !s.updMine [2] then s.updRefuse
    else if slotLen < o + len then s.mbBadCmd
    else if s.mg.programmed.any (fun r => overlap o len r.1 r.2) then s.updRefuse
    else
      let ops := pageOps 10 ((s.reg Reg.MG_UPD_OFFSET).toNat + o) s.mbData
      { s with mg := { s.mg with updOps := s.updInProgress ++ ops, programmed := s.mg.programmed ++ [(o, len)] } }.nvmNext)

/-- Checks 1, 2, 10 and 11 of Table 11.4 on an image. -/
def State.smpVerify (s : State) (img : List Byte) : Option Nat :=
  let p := smpParts img
  let sigOff := le img 0x20 4
  if !smpHeaderOk img img.length then some 0x0701
  else if !smpSegmentsOk img p then some 0x0702
  else if !crcsMatch img p.entries || !gapsZero img p.entries then some 0x0702
  else if !Config.kernelHeld (Config.sha256 (bodyOf img p.entries 2)) then some 0x0705
  else if !s.signatureOk (img.take (le img 8 4)) (le img 0x15 1) sigOff then some 0x0703
  else if p.pkg.arb < s.fuses.arb then some 0x0704
  else none

/-- The check of R534 by MAGIC: the image kind, and the image's own code when it fails; 0 without one. -/
def State.updVerify (s : State) (off slotLen n : Nat) : Nat × Option Nat :=
  let img := s.nvmBytes off n
  match le img 0 4 with
  | 0x52504743 => (1,
      if !primerRegion off slotLen then some 0
      else match primerHeaderCode img with
        | some c => some c
        | none => s.primerCode img (off / 0x10000) false)
  | 0x57464743 => (2, s.fwCode img (le img 0xC 1) n false)
  | 0x4D534743 => (3, s.smpVerify img)
  | _ => (0, some 0)

/-- UPD_FINISH: the image length is ARG1 (R534). -/
def State.updFinish (s : State) : State := s.serve 0x0022 true (s.mbLen == 0) (fun s =>
  let off := (s.reg Reg.MG_UPD_OFFSET).toNat
  let slotLen := (s.reg Reg.MG_UPD_LEN).toNat
  let n := s.mbArg 1
  if !s.updMine [2] then s.updRefuse
  else if slotLen < n then s.mbBadCmd
  else
    let s := { s with mg := { s.mg with programmed := [] } }
    match s.updVerify off slotLen n with
    | (k, none) => ((s.setFld Fld.MG_UPD_STATUS_STATE 4).updLog 0).mbAnswer 0 k 0 []
    | (_, some c) =>
      let s := ((s.setFld Fld.MG_UPD_STATUS_STATE 5).raiseMg 0x0E08).updLog (if c = 0 then 0x0E08 else c)
      s.mbAnswer 0x0E08 0 c [])

/-- UPD_ABORT. -/
def State.updAbort (s : State) : State := s.serve 0x0023 true (s.mbLen == 0) (fun s =>
  if s.updMine [1, 2, 3] then s.abortUpdate.mbCode 0 else s.updRefuse)

/-- Abort the update that is open; a command of it that waited for an operation not yet begun is answered. -/
def State.updStop (s : State) : State :=
  let waits := s.fld mbState == 2 && (s.mbCmd == 0x0020 || s.mbCmd == 0x0021) && !s.mg.updOps.isEmpty
  let s := s.abortUpdate
  if waits && s.mg.updOps.isEmpty then s.mbCode 0 else s

/-- UPD_TIMEOUT. -/
def State.updTimeout (s : State) : State := s.updStop

/-- The update command in progress ends well. -/
def State.updOpDone (s : State) : State :=
  let st := s.fld Fld.MG_UPD_STATUS_STATE
  let s := if st = 1 then s.setFld Fld.MG_UPD_STATUS_STATE 2 else s
  if s.fld mbState = 2 ∧ (s.mbCmd = 0x0020 ∨ s.mbCmd = 0x0021) then s.mbCode 0 else s

/-- The update command in progress fails with MG_NVM_PROG: the update ends. -/
def State.updOpFail (s : State) : State :=
  let s := { s with mg := { s.mg with updOps := [], programmed := [] } }
  let s := if [1, 2, 3].contains (s.fld Fld.MG_UPD_STATUS_STATE) then s.setFld Fld.MG_UPD_STATUS_STATE 5 else s
  let s := s.updLog 0x0E09
  if s.fld mbState = 2 ∧ (s.mbCmd = 0x0020 ∨ s.mbCmd = 0x0021) then s.mbCode 0x0E09 else s

/-- WRITE_IN_PROGRESS_CLEAR: the operation in progress has done its work and is read back; a read-back that differs
fails as MG_NVM_PROG. -/
def State.nvmOpEnd (s : State) : State :=
  match s.mg.current with
  | none => s
  | some true =>
    match s.mg.snagOps with
    | [] => s
    | o :: rest =>
      let s := { s.nvmDo o with mg := { s.mg with current := none } }
      if s.nvmOpOk o then
        let s := { s with mg := { s.mg with snagOps := rest } }
        (if rest.isEmpty then s.snagWritten else s).nvmNext
      else ((s.raiseMgLog 0x0E09 (word o.addr)).snagLost (o.erase != 0)).nvmNext
  | some false =>
    match s.mg.updOps with
    | [] => s
    | o :: rest =>
      let s := { s.nvmDo o with mg := { s.mg with current := none } }
      if s.nvmOpOk o then
        let s := { s with mg := { s.mg with updOps := rest } }
        (if rest.isEmpty then s.updOpDone else s).nvmNext
      else (s.raiseMg 0x0E09).updOpFail.nvmNext

/-- MG_NVM_PROG: the operation in progress exceeds its timeout or fails its read-back; `left` is what the NVM holds
where it wrote. -/
def State.nvmProgFail (s : State) (left : List Byte) : State :=
  match s.mg.current with
  | none => s
  | some b =>
    match (if b then s.mg.snagOps else s.mg.updOps) with
    | [] => s
    | o :: _ =>
      let n := if o.erase ≠ 0 then o.erase else o.data.length
      let s := { s with
        nvm := Sparse.puts nvmDefault o.addr (left.take n) s.nvm
        mg := { s.mg with current := none } }
      if b then ((s.raiseMgLog 0x0E09 (word o.addr)).snagLost (o.erase != 0)).nvmNext
      else (s.raiseMg 0x0E09).updOpFail.nvmNext

/-! ## Fuse programs (R527, R536, R538, Table 17.8) -/

/-- The message of an authorisation (R527). -/
def State.authMsg (s : State) (name : String) (args : List Byte) : List Byte := s.uidBytes ++ asciiBytes name ++ args

/-- KIND 6: a fuse program done or refused. -/
def State.fuseLog (s : State) (code op slot value : Nat) : State :=
  s.queueSnag (s.mkSnag 6 0 code 1 (word (op + 256 * slot + 65536 * (value % 65536))))

/-- ARB of every image R536 asks: the booted Primer, the recovery Primer with a valid header, firmware and packages. -/
def State.loadedArbs (s : State) : List Nat :=
  let rec_ := s.primerImage 2
  [s.boot.primerArb] ++ (if primerHeaderOk rec_ then [le rec_ 0x14 1] else []) ++
    (s.boot.arbs.filter (fun a => 16 ≤ a.1)).map (·.2) ++
    (List.range 4).filterMap (fun p => ((s.partition p).pkg).map (·.arb))

/-- The conditions of R536 on a new count. -/
def State.arbOk (s : State) (n : Nat) : Bool :=
  decide (s.fuses.arb < n) && decide (n ≤ 64) && s.loadedArbs.all (fun a => decide (n ≤ a)) &&
    !(decide (3 ≤ s.csState) && decide (s.csState ≤ 5)) && s.inService

/-- Does a policy value only add bits to the fused ones, in the fields of DS_FUSE_POLICY? -/
def State.policyReach (s : State) (v : Word) : Bool :=
  v &&& s.fuses.policy == s.fuses.policy && v &&& ~~~0x017F7F7F#32 == 0

/-- The code a fuse program is refused with, or none (Table 17.8). -/
def State.fuseCode (s : State) (op slot : Nat) (value : BitVec 256) (auth : List Byte) : Option Nat :=
  let lc := s.lifecycle
  if s.mg.job.isSome then some 0x1001
  else match op with
  | 1 =>
    if ¬(lc = 0 ∨ lc = 1) ∨ s.fuses.programmed slot then some 0x1001
    else if lc = 1 ∧ !s.authOk (some slot) (s.authMsg "KEY" (toLe 1 slot ++ toLe 32 value.toNat)) auth then some 0x1003
    else none
  | 2 =>
    if !s.inService || !s.fuses.programmed slot then some 0x1001
    else if !(List.range 4).any (fun k => k != slot && s.fuses.usable k) then some 0x1004
    else if !s.authOk (some slot) (s.authMsg "REVOKE" (toLe 1 slot)) auth then some 0x1003
    else none
  | 3 => if !s.inService then some 0x1001 else if s.arbOk value.toNat then none else some 0x0E0A
  | 4 => if ¬(lc = 0 ∨ lc = 1) then some 0x1001 else if s.policyReach (value.setWidth 32) then none else some 0x1004
  | 5 => if ¬(lc = 0 ∨ lc = 1) ∨ s.fuses.pseudo.isSome then some 0x1001 else none
  | _ => some 0x1001

/-- Refuse a fuse program: its code is raised, logged as KIND 6, and shown in FZ_PROG_STATUS. -/
def State.fuseRefuse (s : State) (op slot : Nat) (value : BitVec 256) (code : Nat) : State :=
  let s := (if code / 256 = 0x0E then s.raiseMg code else s.raiseFz code).fuseLog code op slot value.toNat
  (s.setFlag Fld.FZ_PROG_STATUS_FAIL true).setFld Fld.FZ_PROG_STATUS_CODE code

/-- Start a fuse program, or refuse it. PSEUDO_GEN draws its secret now. -/
def State.fuseStart (s : State) (op slot : Nat) (value : BitVec 256) (auth : List Byte) (mailbox : Bool) : State :=
  match s.fuseCode op slot value auth with
  | some c => let s := s.fuseRefuse op slot value c; if mailbox then s.mbCode c else s
  | none =>
    let v := if op = 5 then Config.entropy s.freeIdx else value
    let s := if op = 5 then s.nextFree else s
    { s with mg := { s.mg with job := some ⟨op, slot, v, mailbox⟩ } }.setFlag Fld.FZ_PROG_STATUS_BUSY true

/-- FZ_PROG_DATA words as a digest and as an authorisation. -/
def State.fzDigest (s : State) : BitVec 256 :=
  BitVec.ofNat 256 (le ((List.range 8).flatMap (fun k => toLe 4 (s.reg (Reg.FZ_PROG_DATA k)).toNat)) 0 32)
def State.fzAuth (s : State) : List Byte := (List.range 16).flatMap (fun k => toLe 4 (s.reg (Reg.FZ_PROG_DATA (8 + k))).toNat)

/-- May the requester write FZ_PROG_CMD: the management core, and the debug port in Blank (Tables 17.9, 17.14)? -/
def State.fzWriter (s : State) (r : Requester) : Bool := r == .mgmt || (r == .debug && s.lifecycle == 0)

/-- A write to FZ_PROG_CMD (R538); a requester that may not write it is ignored, and the debug port refused. -/
def State.fzCmd (s : State) (r : Requester) (op slot : Nat) : State :=
  if !s.fzWriter r then (if r = .debug then s.raiseMgLog 0x0E0D 0 else s)
  else
    let arg := s.reg Reg.FZ_PROG_ARG
    s.fuseStart op slot (match op with | 1 => s.fzDigest | 3 => arg.setWidth 256 | 4 => arg.setWidth 256 | _ => 0) s.fzAuth false

/-- ARB_ADVANCE. -/
def State.arbAdvance (s : State) : State := s.serve 0x0024 false (s.mbLen == 0) (fun s =>
  if s.arbOk (s.mbArg 0) && s.mg.job.isNone then s.fuseStart 3 0 (BitVec.ofNat 256 (s.mbArg 0)) [] true
  else (s.raiseMgLog 0x0E0A 0).mbAnswer 0x0E0A s.fuses.arb 0 [])

/-- KEY_PROGRAM: a digest, with an authorisation in Provisioned. -/
def State.keyProgram (s : State) : State :=
  let n := if s.lifecycle = 1 then 96 else 32
  s.serve 0x0030 false (s.mbLen == n && decide (s.mbArg 0 < 4)) (fun s =>
    s.fuseStart 1 (s.mbArg 0) (BitVec.ofNat 256 (le s.mbData 0 32)) (slice s.mbData 32 64) true)

/-- KEY_REVOKE. -/
def State.keyRevoke (s : State) : State := s.serve 0x0031 false (s.mbLen == 64 && decide (s.mbArg 0 < 4)) (fun s =>
  s.fuseStart 2 (s.mbArg 0) 0 s.mbData true)

/-- POLICY_PROGRAM. -/
def State.policyProgram (s : State) : State := s.serve 0x0032 false (s.mbLen == 0) (fun s =>
  s.fuseStart 4 0 (BitVec.ofNat 256 (s.mbArg 0)) [] true)

/-! ## Lifecycle (R539) -/

/-- Issue DS_LC_CMD for the mailbox; a refusal answers at once. -/
def State.mbLifecycle (s : State) (cmd : Nat) : State :=
  let s := s.lcWrite .mgmt (lcWord cmd 0x5EA1)
  match s.mg.job with
  | some j => { s with mg := { s.mg with job := some { j with mailbox := true } } }
  | none => s.mbCode (s.fld Fld.DS_LC_STATUS_CODE)

/-- LIFECYCLE; while a digest run is in progress it is carried out after the run (R49). -/
def State.mboxLifecycle (s : State) : State :=
  let cmd := s.mbArg 0
  let len := if cmd = 1 then 0 else 64
  if s.flag Fld.DS_DIG_STATUS_BUSY then s
  else s.serve 0x0040 (cmd == 3) (decide (1 ≤ cmd) && decide (cmd ≤ 3) && s.mbLen == len) (fun s =>
    match cmd with
    | 1 => if s.fuses.pseudo.isNone then s.fuseStart 5 0 0 [] true else s.mbLifecycle 1
    | 2 =>
      if s.authOk none (s.authMsg "SEAL" []) s.mbData then s.mbLifecycle 2
      else (s.raiseFzLog 0x1003).mbCode 0x1003
    | _ => (s.abortUpdate.setRegs (Reg.DS_LC_TOKEN 0) (wordsOf s.mbData)).mbLifecycle 3)

/-! ## The end of a fuse program -/

/-- The fuses after a program: all of it, or the part that read back (R536, R538): anti-rollback steps, or policy
bits. A key, a revocation or K that failed counts as not programmed. -/
def fusesAfter (f : Fuses) (j : FuseJob) (ok : Bool) (part : Nat) : Fuses :=
  let policy := fun (v : Nat) => { f with
    frameCut := (f.frameCut ||| v % 128), rateCut := (f.rateCut ||| v / 256 % 128)
    schemaForbid := (f.schemaForbid ||| v / 65536 % 128), auxAllTagged := f.auxAllTagged || v / 2 ^ 24 % 2 == 1 }
  match j.op with
  | 1 => if ok then { f with keys := f.keys.set j.slot (some j.value) } else f
  | 2 => if ok then { f with revoked := f.revoked.set j.slot true } else f
  | 3 => { f with arb := if ok then j.value.toNat else min j.value.toNat (f.arb + part) }
  | 4 => policy (if ok then j.value.toNat else (j.value.toNat &&& part))
  | 5 => if ok then { f with pseudo := some j.value } else f
  | 6 => if ok then f.setLc 1 else f
  | 7 => if ok then f.setLc 3 else f
  | _ => if ok then f.setLc 7 else f

/-- A KIND 4 entry: the new state, or 0x10 + command for a pending one. -/
def State.lcLog (s : State) (arg : Nat) : State := s.queueSnag (s.mkSnag 4 0 0 1 (word arg))

/-- Answer the mailbox when it waits for the program. -/
def State.answerIf (s : State) (mailbox : Bool) (code res0 : Nat) : State :=
  if mailbox ∧ s.fld mbState = 2 then s.mbAnswer code res0 0 [] else s

/-- Step 6 and 7 of Table 1.4: every row is scrubbed, and the device resets. -/
def State.returned (s : State) : State :=
  let s := (s.zeroRows 0x100000 0x110000).zeroRows 0x200000 0x280000
  (s.lcLog 7).resetAndBoot causeLifecycle

/-- The end of a lifecycle program (R41, Table 1.4 step 5). -/
def State.lcDone (s : State) (j : FuseJob) (ok : Bool) : State :=
  let s := s.setFlag Fld.DS_LC_STATUS_BUSY false
  if !ok then (s.lcDenied .mgmt).answerIf j.mailbox 0x010A 0
  else
    let s := s.setFlag Fld.DS_LC_STATUS_DONE true
    if j.op = 8 then (s.answerIf j.mailbox 0 0).returned
    else ((s.setFlag Fld.DS_LC_PENDING true).lcLog (0x10 + (j.op - 5))).answerIf j.mailbox 0 0

/-- FUSE_PROGRAM_DONE: the program has ended with its read-back; `part` says what read back when it failed. PSEUDO_GEN
run for a PROVISION is followed by it (R539). -/
def State.fuseDone (s : State) (ok : Bool) (part : Nat) : State :=
  match s.mg.job with
  | none => s
  | some j =>
    let s := { s with mg := { s.mg with job := none }, fuses := fusesAfter s.fuses j ok part }
    if 6 ≤ j.op then s.lcDone j ok
    else
      let s := s.setFlag Fld.FZ_PROG_STATUS_BUSY false
      let shown := if j.op = 3 then s.fuses.arb else if j.op = 4 then s.fuses.policy.toNat else 0
      if ok then
        let s := (s.setFlag Fld.FZ_PROG_STATUS_DONE true).fuseLog 0 j.op j.slot shown
        if j.op = 5 ∧ j.mailbox then s.mbLifecycle 1 else s.answerIf j.mailbox 0 (if j.op = 3 then s.fuses.arb else 0)
      else
        let s := (((s.setFlag Fld.FZ_PROG_STATUS_FAIL true).setFld Fld.FZ_PROG_STATUS_CODE 0x1002).raiseFz 0x1002).fuseLog
          0x1002 j.op j.slot shown
        s.answerIf j.mailbox 0x1002 (if j.op = 3 then s.fuses.arb else 0)

/-! ## The management watchdog (R523) -/

/-- A write to MG_WDT_KICK, by the management core only. -/
def State.mgWdtKick (s : State) (r : Requester) (v : Word) : State :=
  if r = .mgmt ∧ bits v 15 0 = 0x4D47 then { s with boot := { s.boot with mgWdtFrom := s.localNs } } else s

/-- MG_WDT: with firmware running, outside Doze and Off, the reset follows; the supervisor serves it otherwise. -/
def State.mgWdt (s : State) : State :=
  if s.flag Fld.MG_STATUS_FW && s.power < 3 then ((s.raiseMg 0x0E0E).holdCode 0x0E0E 0).resetAndBoot causeWatchdog else s

/-! ## Meanings -/

def execMboxDoorbell (r : Requester) (v : Word) (s : State) : Host.Outcome State Fault Refusal := .next (s.mbDoorbell r v)
def execMboxFillTimeout (s : State) : Host.Outcome State Fault Refusal := .next s.mbTimeout
def execMboxInfo (s : State) : Host.Outcome State Fault Refusal := .next s.mboxInfo
def execSnagRead (s : State) : Host.Outcome State Fault Refusal := .next s.snagRead
def execUpdBegin (s : State) : Host.Outcome State Fault Refusal := .next s.updBegin
def execUpdData (s : State) : Host.Outcome State Fault Refusal := .next s.updData
def execUpdFinish (s : State) : Host.Outcome State Fault Refusal := .next s.updFinish
def execUpdAbort (s : State) : Host.Outcome State Fault Refusal := .next s.updAbort
def execUpdTimeout (s : State) : Host.Outcome State Fault Refusal := .next s.updTimeout
def execArbAdvance (s : State) : Host.Outcome State Fault Refusal := .next s.arbAdvance
def execKeyProgram (s : State) : Host.Outcome State Fault Refusal := .next s.keyProgram
def execKeyRevoke (s : State) : Host.Outcome State Fault Refusal := .next s.keyRevoke
def execPolicyProgram (s : State) : Host.Outcome State Fault Refusal := .next s.policyProgram
def execLifecycle (s : State) : Host.Outcome State Fault Refusal := .next s.mboxLifecycle
def execReset (s : State) : Host.Outcome State Fault Refusal := .next s.mboxReset
def execMboxFirmwareCmd (status res0 res1 : Nat) (payload : List Byte) (s : State) : Host.Outcome State Fault Refusal :=
  .next (s.mboxFirmware status res0 res1 payload)
def execFzProgKey (r : Requester) (slot : Fin 4) (s : State) : Host.Outcome State Fault Refusal := .next (s.fzCmd r 1 slot)
def execFzProgRevoke (r : Requester) (slot : Fin 4) (s : State) : Host.Outcome State Fault Refusal := .next (s.fzCmd r 2 slot)
def execFzProgArb (r : Requester) (s : State) : Host.Outcome State Fault Refusal := .next (s.fzCmd r 3 0)
def execFzProgPolicy (r : Requester) (s : State) : Host.Outcome State Fault Refusal := .next (s.fzCmd r 4 0)
def execPseudoGen (r : Requester) (s : State) : Host.Outcome State Fault Refusal := .next (s.fzCmd r 5 0)
def execSnagEntryWrite (s : State) : Host.Outcome State Fault Refusal := .next s.snagWrite
def execMgNvmProg (left : List Byte) (s : State) : Host.Outcome State Fault Refusal := .next (s.nvmProgFail left)
def execWriteInProgressClear (s : State) : Host.Outcome State Fault Refusal := .next s.nvmOpEnd
def execFuseProgramDone (ok : Bool) (part : Nat) (s : State) : Host.Outcome State Fault Refusal := .next (s.fuseDone ok part)
def execMgWdtKick (r : Requester) (v : Word) (s : State) : Host.Outcome State Fault Refusal := .next (s.mgWdtKick r v)
def execMgWdt (s : State) : Host.Outcome State Fault Refusal := .next s.mgWdt

end Sys2Proof.Machine
end

