-- ==== Sys2Proof/Machine/Time.lean ====
section
/-! DEFINITION. The calendar clock, local time, Plumb time and the Plumb servo (chapter 14). -/

namespace Sys2Proof.Machine

/-! ## The calendar (R435 to R439) -/

/-- Is the year with this offset from 2000 a leap year (R435)? -/
def leapYear (y : Nat) : Bool := y % 4 == 0 && y != 100

/-- Days of a month, 1 to 12. -/
def monthDays (y m : Nat) : Nat :=
  if m = 2 then (if leapYear y then 29 else 28)
  else if m = 4 ∨ m = 6 ∨ m = 9 ∨ m = 11 then 30 else 31

/-- Days of a year. -/
def yearDays (y : Nat) : Nat := if leapYear y then 366 else 365

/-- Days from 2000-01-01 to a date. -/
def daysOfDate (y m d : Nat) : Nat :=
  ((List.range y).map yearDays).sum + ((List.range (m - 1)).map (fun k => monthDays y (k + 1))).sum + (d - 1)

/-- Year offset and day of the year after `n` days from year `y`, with fuel. -/
def yearOfDays : Nat → Nat → Nat → Nat × Nat
  | 0, y, n => (y, n)
  | fuel + 1, y, n => if n < yearDays y then (y, n) else yearOfDays fuel (y + 1) (n - yearDays y)

/-- Month and day after `n` days from month `m` of year `y`, with fuel. -/
def monthOfDays (y : Nat) : Nat → Nat → Nat → Nat × Nat
  | 0, m, n => (m, n + 1)
  | fuel + 1, m, n => if n < monthDays y m then (m, n + 1) else monthOfDays y fuel (m + 1) (n - monthDays y m)

/-- The weekday of a date: 0 Monday to 6 Sunday; 2000-01-01 is a Saturday. -/
def weekday (y m d : Nat) : Nat := (daysOfDate y m d + 5) % 7

/-- Words of the time and date registers (Table 14.6). -/
def timeWord (sec min hour wday : Nat) : Word := word (sec + 256 * min + 65536 * hour + 16777216 * wday)
def dateWord (day month year : Nat) : Word := word (day + 256 * month + 65536 * year)

/-- Load the live calendar; the weekday is computed by the device (R435). -/
def State.setCalendar (s : State) (year month day hour min sec : Nat) : State :=
  (s.setReg Reg.TM_RTC_TIME (timeWord sec min hour (weekday year month day))).setReg Reg.TM_RTC_DATE
    (dateWord day month year)

/-- Calendar seconds since 2000-01-01 00:00:00. -/
def State.calSeconds (s : State) : Nat :=
  daysOfDate (s.fld Fld.TM_RTC_DATE_YEAR) (s.fld Fld.TM_RTC_DATE_MONTH) (s.fld Fld.TM_RTC_DATE_DAY) * 86400
    + s.fld Fld.TM_RTC_TIME_HOUR * 3600 + s.fld Fld.TM_RTC_TIME_MIN * 60 + s.fld Fld.TM_RTC_TIME_SEC

/-- The calendar seconds of 200 years. -/
def calSpan : Nat := daysOfDate 200 1 1 * 86400

/-- Load the calendar with a count of seconds since 2000-01-01 00:00:00. -/
def State.setCalSeconds (s : State) (n : Nat) : State :=
  let yd := yearOfDays 200 0 (n / 86400)
  let md := monthOfDays yd.1 12 1 yd.2
  s.setCalendar yd.1 md.1 md.2 (n % 86400 / 3600) (n % 3600 / 60) (n % 60)

/-- Do the live fields equal the alarm's (R439)? -/
def State.alarmMatch (s : State) : Bool :=
  bits (s.reg Reg.TM_RTC_TIME) 20 0 == bits (s.reg Reg.TM_ALARM_TIME) 20 0 &&
    s.reg Reg.TM_RTC_DATE == s.reg Reg.TM_ALARM_DATE

/-- CALENDAR_ROLLOVER: the second completes and the fields roll over; past 2199 the calendar wraps and
CAL_WRAP is set (R435); the alarm fires on a match while ALARM_EN is 1, OSC_STOP is 0 and VDD_AON is present (R437, R439),
and wakes the device where it is enabled (R504). A rollover that was due in the tick of an RTC_SET is discarded (R451). -/
def State.calRollover (s : State) : State :=
  if s.time.rolloverLost then { s with time := { s.time with rolloverLost := false } }
  else
  let s := { s with time := { s.time with calSub := s.time.calSub - 32768 } }
  let n := s.calSeconds + 1
  let s := if n = calSpan then (s.setCalSeconds 0).setFlag Fld.TM_STATUS_CAL_WRAP true else s.setCalSeconds n
  if s.pins.vddAon && s.flag Fld.TM_CFG_ALARM_EN && !s.flag Fld.TM_STATUS_OSC_STOP && s.alarmMatch
  then (s.tmEvent Fld.TM_EVENT_ALARM).wakeFrom 5 0 else s

/-- Are the set fields a calendar time (R438)? -/
def State.setFieldsValid (s : State) : Bool :=
  let y := s.fld Fld.TM_SET_DATE_YEAR
  let m := s.fld Fld.TM_SET_DATE_MONTH
  let d := s.fld Fld.TM_SET_DATE_DAY
  decide (s.fld Fld.TM_SET_TIME_SEC ≤ 59) && decide (s.fld Fld.TM_SET_TIME_MIN ≤ 59) &&
    decide (s.fld Fld.TM_SET_TIME_HOUR ≤ 23) && decide (1 ≤ m) && decide (m ≤ 12) && decide (1 ≤ d) &&
    decide (d ≤ monthDays y m) && decide (y ≤ 199)

/-- What a valid set does beside loading the fields: the sub-second count restarts, a rollover due in its tick is lost (R451),
and OSC_STOP and CAL_WRAP clear (R438, Table 14.6). -/
def State.afterSet (s : State) : State :=
  (({ s with time := { s.time with calSub := 0, rolloverLost := decide (32768 ≤ s.time.calSub) } }).setFlag Fld.TM_STATUS_OSC_STOP
    false).setFlag Fld.TM_STATUS_CAL_WRAP false

/-- RTC_SET (R438). -/
def State.rtcSet (s : State) : State :=
  if s.setFieldsValid then
    (s.setCalendar (s.fld Fld.TM_SET_DATE_YEAR) (s.fld Fld.TM_SET_DATE_MONTH) (s.fld Fld.TM_SET_DATE_DAY)
      (s.fld Fld.TM_SET_TIME_HOUR) (s.fld Fld.TM_SET_TIME_MIN) (s.fld Fld.TM_SET_TIME_SEC)).afterSet
  else s.raiseTm 0x0B05

/-- Low and high words of a 64-bit time. -/
def loWord (t : BitVec 64) : Word := t.extractLsb' 0 32
def hiWord (t : BitVec 64) : Word := t.extractLsb' 32 32

/-- The live sub-second count (TM_RTC_SUBSEC). -/
def State.subsec (s : State) : Word := word (s.time.calSub % 32768)

/-- CAPTURE: the calendar, Plumb time and local time into the capture registers (R438). -/
def State.capture (s : State) : State :=
  ((((((s.setReg Reg.TM_CAP_TIME (s.reg Reg.TM_RTC_TIME)).setReg Reg.TM_CAP_DATE (s.reg Reg.TM_RTC_DATE)).setReg
    Reg.TM_CAP_SUBSEC s.subsec).setReg Reg.TM_CAP_PLUMB_LO (loWord s.plumbNs)).setReg Reg.TM_CAP_PLUMB_HI
    (hiWord s.plumbNs)).setReg Reg.TM_CAP_LOCAL_LO (loWord s.localNs)).setReg Reg.TM_CAP_LOCAL_HI
    (hiWord s.localNs)

/-- The device's own calendar oscillator has stopped (R437). -/
def State.oscStop (s : State) : State := (s.setFlag Fld.TM_STATUS_OSC_STOP true).raiseTm 0x0B01

/-- VBAT_SAMPLE with VBAT in millivolts (R437): while VDD_AON is present VBAT_LOW follows it, below 1.80 V. -/
def State.vbatSample (s : State) (mv : Nat) : State :=
  if !s.pins.vddAon then s
  else
  let s := s.setFlag Fld.TM_STATUS_VBAT_LOW (decide (mv < 1800))
  if mv < 1800 then s.raiseTm 0x0B06 else s

/-! ## The servo (R441 to R449) -/

/-- Servo states as TM_STATUS.STATE encodes them (Table 14.6). -/
def servoFree : Nat := 0
def servoAcquiring : Nat := 1
def servoLocked : Nat := 2
def servoHoldover : Nat := 3

/-- Enter a servo state; LOCKED is 1 exactly in state LOCKED, and a change of LOCKED is an event (R446). -/
def State.setServo (s : State) (n : Nat) : State :=
  let before := s.flag Fld.TM_STATUS_LOCKED
  let s := (s.setFld Fld.TM_STATUS_STATE n).setFlag Fld.TM_STATUS_LOCKED (n == servoLocked)
  if before != (n == servoLocked) then s.tmEvent Fld.TM_EVENT_LOCK_CHANGE else s

/-- Is the node LOCKED (R446)? -/
def State.locked (s : State) : Bool := s.flag Fld.TM_STATUS_LOCKED

/-- The frequency term F in ppb (TM_RATE). -/
def State.freq (s : State) : Int := signed 32 (s.fld Fld.TM_RATE_PPB)

/-- The rate r in ppb, within ±500 ppm (R442). -/
def State.rate (s : State) : Int :=
  clampInt (-500000) 500000 (s.freq + if s.time.slewLeft = 0 then 0 else s.time.slew)

/-- Plumb time set to a count of whole nanoseconds. -/
def State.setPlumb (s : State) (t : BitVec 64) : State :=
  { s with time := { s.time with plumbT := t.setWidth 96 <<< 32 } }

/-- Step Plumb time to `t` (R446): ACQUIRING, TM_STEP raised and counted; F is kept (R453). -/
def State.stepPlumb (s : State) (t : BitVec 64) : State :=
  let s := s.setPlumb t
  let s := { s with time := { s.time with slew := 0, slewLeft := 0, good := 0, outlier := false } }
  (((s.setServo servoAcquiring).raiseTm 0x0B03).incSat Fld.TM_STEP_CNT_COUNT 1).tmEvent Fld.TM_EVENT_STEP

/-- Set the slew term to `ppb` for `ns` of local time; a new slew replaces what remains (R446). -/
def State.setSlew (s : State) (ppb : Int) (ns : Nat) : State :=
  { s with time := { s.time with slew := ppb, slewLeft := ns } }

/-- Bring F by the phase error (R446 item 2), and slew `e` out over J = `j` ms within the limit of R442. -/
def State.steer (s : State) (e : Int) (since : Option Nat) (j : Nat) : State :=
  let f := match since with
    | none => s.freq
    | some i => if i = 0 then s.freq
        else clampInt (-200000) 200000 (s.freq + Int.tdiv (e * 1000000000) (8 * (i : Int)))
  let s := s.setReg Reg.TM_RATE (word (unsigned 32 f))
  s.setSlew (clampInt (-500000 - f) (500000 - f) (Int.tdiv (e * 1000) (j : Int))) (j * 1000000)

/-- HOLDOVER (R447): F is kept, the slew ends and TM_SYNC_LOST is raised. -/
def State.holdover (s : State) : State := ((s.setSlew 0 0).setServo servoHoldover).raiseTm 0x0B02

/-- The timeout of R447 in nanoseconds after a SYNC with INTERVAL `j` ms. -/
def syncTimeout (j : Nat) : Nat := max (3 * j) 100 * 1000000

/-- The lock state after a valid SYNC with |e| = `a` (R446). -/
def State.lockAfter (s : State) (a : Nat) : State :=
  let good := if a ≤ 100 then s.time.good + 1 else 0
  let s := { s with time := { s.time with good := good } }
  if 4 ≤ good then s.setServo servoLocked
  else if s.locked && decide (200 < a) then s.setServo servoAcquiring
  else if s.fld Fld.TM_STATUS_STATE = servoHoldover then s.setServo servoAcquiring
  else s

/-- A valid SYNC drives the servo (R446), `elapsed` ns of local time after its SOF arrived. At a second outlier in a row
with NO_BACKSTEP and e < 0 a slew at the limit takes the place of the step. -/
def State.servo (s : State) (y : RxSync) (path : Nat) : State :=
  let target := y.tTx + BitVec.ofNat 64 path
  let elapsed := s.localNs - y.localAt
  let e : Int := (target - y.plumbAt).toInt
  let since := match s.time.lastSync with
    | none => none
    | some t =>
      let i := (y.localAt - t).toNat
      if i ≤ syncTimeout s.time.interval then some i else none
  let wasOutlier := s.time.outlier
  let s := (s.incWrap Fld.TM_SYNC_CNT_COUNT 1).setReg Reg.TM_OFFSET
    (word (unsigned 32 (clampInt (-2147483648) 2147483647 e)))
  let s := { s with time := { s.time with lastSync := some y.localAt, interval := y.interval, outlier := false } }
  if s.fld Fld.TM_STATUS_STATE = servoFree then s.stepPlumb (target + elapsed)
  else if e.natAbs ≤ s.fld Fld.TM_CFG_STEP_NS then (s.steer e since y.interval).lockAfter e.natAbs
  else if wasOutlier && !(s.flag Fld.TM_CFG_NO_BACKSTEP && decide (e < 0)) then s.stepPlumb (target + elapsed)
  else
    let s := if wasOutlier then s.setSlew (-500000 - s.freq) (e.natAbs * 2000) else s
    ({ s with time := { s.time with outlier := true, delayDue := true } }).lockAfter e.natAbs

/-- SYNC: the SYNC taken last is handled; it is valid only with SYNC_EN = 1, an INTERVAL in range and
PATH_VALID at its arrival; the others are counted (R445). -/
def State.handleSync (s : State) : State :=
  match s.time.rxSync with
  | none => s
  | some y =>
    let s := { s with time := { s.time with rxSync := none } }
    match y.path with
    | some path =>
      if s.flag Fld.TM_CFG_SYNC_EN && decide (10 ≤ y.interval) && decide (y.interval ≤ 1000) then s.servo y path
      else s.incSat Fld.TM_SYNC_MISS_COUNT 1
    | none => s.incSat Fld.TM_SYNC_MISS_COUNT 1

/-- SYNC_TIMEOUT: no valid SYNC within 3 × J (R447). -/
def State.syncTimedOut (s : State) : State :=
  if s.time.lastSync.isSome && s.fld Fld.TM_STATUS_STATE != servoHoldover then s.holdover else s

/-- The calendar as nanoseconds since 2000-01-01 00:00:00, in 2^-7 ns to hold the tick exactly. -/
def State.calFine (s : State) : Nat := s.calSeconds * 128000000000 + s.time.calSub * 3906250

/-- RTC_FOLLOW_CHECK at a multiple of 60 s of Plumb time (R449, R455). -/
def State.rtcFollowCheck (s : State) : State :=
  if s.locked && s.flag Fld.TM_CFG_RTC_FOLLOW then
    let sec := s.plumbNs.toNat / 1000000000
    let off := ((s.calFine : Int) - (sec * 128000000000 : Nat)).natAbs
    if off ≤ 2000000 * 128 then s
    else if calSpan ≤ sec + 1 then s.raiseTm 0x0B05
    else { s with time := { s.time with followAt := some (sec + 1) } }
  else s

/-- Set the calendar when Plumb time reaches the second RTC_FOLLOW waits for (R449). -/
def State.followNow (s : State) : State :=
  match s.time.followAt with
  | none => s
  | some n =>
    if n ≤ s.plumbNs.toNat / 1000000000 then
      (({ s with time := { s.time with followAt := none } }).setCalSeconds n).afterSet
    else s

/-- Plumb time at step 3 after VDD_AON rose (R441). -/
def State.plumbStart (s : State) : State :=
  if s.flag Fld.TM_STATUS_OSC_STOP then (s.setPlumb 0).raiseTm 0x0B01
  else
    { s with time := { s.time with plumbT := BitVec.ofNat 96 (s.calFine * 2 ^ 25) } }

/-- The reference stops in a power state: the node enters HOLDOVER, if it is not in it (R447). -/
def State.refStop (s : State) : State :=
  let s := { s with time := { s.time with refRuns := false } }
  if s.fld Fld.TM_STATUS_STATE = servoHoldover then s else s.holdover

/-! ## The passing of time -/

/-- One D8 tick of the calendar's sub-second count, with the trim of R436. -/
def State.calTick (s : State) : Nat × State :=
  let t := signed 9 (s.fld Fld.TM_RTC_TRIM_PPM)
  let span := 2 ^ 20 / t.natAbs
  let k := s.time.trimPhase
  let hit := decide (t ≠ 0) && decide (k % span = span - 1) && decide (k / span < t.natAbs)
  let n := if hit then (if 0 < t then 2 else 0) else 1
  (n, { s with time := { s.time with
    calSub := s.time.calSub + n, trimPhase := (k + 1) % 2 ^ 20, rolloverLost := false } })

/-- 30,517.578125 ns in 2^-32 ns, and in 2^-7 ns. -/
def d8Fine : Nat := 3906250 * 2 ^ 25
def d8Units : Nat := 3906250

/-- One D8 tick while the reference is stopped: both counters advance by the trimmed tick (R440). -/
def State.tickStopped (s : State) : State :=
  let r := s.calTick
  let inc := BitVec.ofNat 96 (r.1 * d8Fine)
  { r.2 with time := { r.2.time with localT := r.2.time.localT + inc, plumbT := r.2.time.plumbT + inc } }

/-- One reference cycle: local time by 40 ns, Plumb time by 40 ns × (1 + r) (R440); a D8 tick falls
whenever its period has passed. -/
def State.tickRunning (s : State) : State :=
  let plumbInc := BitVec.ofInt 96 (40 * 2 ^ 32 + Int.fdiv (40 * 2 ^ 32 * s.rate) 1000000000)
  let acc := s.time.d8Acc + 40 * 128
  let s := { s with time := { s.time with
    localT := s.time.localT + BitVec.ofNat 96 (40 * 2 ^ 32)
    plumbT := s.time.plumbT + plumbInc
    slewLeft := s.time.slewLeft - 40
    d8Acc := if d8Units ≤ acc then acc - d8Units else acc } }
  if d8Units ≤ acc then s.calTick.2 else s

/-! ## Meanings -/

def execCalendarRollover (s : State) : Host.Outcome State Fault Refusal := .next s.calRollover
def execOscStop (s : State) : Host.Outcome State Fault Refusal := .next s.oscStop
def execVbatSample (mv : Nat) (s : State) : Host.Outcome State Fault Refusal := .next (s.vbatSample mv)
def execRtcSet (s : State) : Host.Outcome State Fault Refusal := .next s.rtcSet
def execCapture (s : State) : Host.Outcome State Fault Refusal := .next s.capture

/-- DELAY_NOW: a path-delay measurement is due (R444). -/
def execDelayNow (s : State) : Host.Outcome State Fault Refusal :=
  .next { s with time := { s.time with delayDue := true } }

def execSyncTimeout (s : State) : Host.Outcome State Fault Refusal := .next s.syncTimedOut
def execRtcFollowCheck (s : State) : Host.Outcome State Fault Refusal := .next s.rtcFollowCheck
def execSync (s : State) : Host.Outcome State Fault Refusal := .next s.handleSync

end Sys2Proof.Machine
end

