-- ==== Sys2Proof/Machine/Boot.lean ====
section
/-! DEFINITION. Start-up: the steps of Table 3.1, the choice of a Primer and its sections, the images of step 15, the
entry into Run, and boot failures (chapter 3, R134). -/

namespace Sys2Proof.Machine

/-! ## Boot codes (R85, R106, R114) -/

/-- Record a boot code: in SYS_BOOT_CODE, and in the Snag Log, where the boot ROM writes it before it goes on (R101); before
step 10 it is held in the always-on domain (R106), and after step 17 it takes its turn in the queue. -/
def State.bootCode (s : State) (c detail : Nat) : State :=
  let s := s.setReg Reg.SYS_BOOT_CODE (word (c + 65536 * (detail % 65536)))
  if s.boot.step < 10 then s.holdCode c detail
  else
    let s := s.queueSnag (s.mkSnag 1 0 c 1 (word detail))
    if s.boot.step < 17 then s.bootFlush else s

/-- The boot ROM stops for good, once the Snag Log entries that wait are written (R40, Table 1.6; that the write point is
looked for first where step 10 was not reached is DEDUCED, log entry 41). -/
def State.bootStop (s : State) : State :=
  let s := (if s.boot.step < 10 then s.findWritePoint else s).bootFlush
  { s with boot := { s.boot with stopped := true } }

/-- Does the boot go on: not failed, not stopped, and not past step 17? -/
def State.booting (s : State) : Bool := s.boot.failed.isNone && !s.boot.stopped && decide (s.boot.step < 17)

/-- A failure that ends in a boot retry (R106). -/
def State.bootFail (s : State) (c : Nat) : State :=
  { s.bootCode c 0 with boot := { (s.bootCode c 0).boot with failed := some c } }

/-- VCORE_EN driven high or low. -/
def State.setVcore (s : State) (on : Bool) : State := { s with pins := { s.pins with vcoreEn := on } }

/-- A step of Table 3.1 has ended. -/
def State.bootStep (s : State) (n : Nat) : State := { s with boot := { s.boot with step := n } }

/-- Set or clear an undervoltage bit of PW_MON_STATUS (R512). -/
def State.setUv (s : State) (k : Nat) (b : Bool) : State :=
  s.setReg Reg.PW_MON_STATUS (setBits (s.reg Reg.PW_MON_STATUS) k k (bit b))

/-! ## Steps 1 to 7 -/

/-- Load the registers that show fuses (the F column of the register maps), at step 4. -/
def State.senseFuses (s : State) : State :=
  let f := s.fuses
  let s := [(Reg.SYS_UID_LO, loWord f.uid), (Reg.SYS_UID_HI, hiWord f.uid), (Reg.DS_FUSE_POLICY, f.policy),
    (Reg.DS_BUDGET_FRAME, word f.frameBudget), (Reg.DS_BUDGET_RATE, word f.rateBudget),
    (Reg.DS_CAP_FRAME, word f.frameBudget), (Reg.DS_CAP_RATE, word f.rateBudget), (Reg.PX_DCG_RATIO, word (f.dcgRatio % 65536)),
    (Reg.TF_SUP_VFUSE, word (f.vfuse % 1024)), (Reg.PW_TEMP_WARN, if f.grade = 0 then 105 else 120)].foldl
      (fun (s : State) e => s.setReg e.1 e.2) s
  let s := s.setFld Fld.DS_LC_STATE f.lifecycle
  let s := { s with ds := { s.ds with capFrame := f.frameBudget, capRate := f.rateBudget, pixelStopped := f.pixOff } }
  if f.pseudoBad || (List.range 4).any (fun k => f.keyBad.getD k false) then s.raiseFzLog 0x1005 else s

/-- Step 5, once VDDIO is good: VCORE_EN is driven high. -/
def State.bootVddio (s : State) : State :=
  if s.booting ∧ s.boot.step = 4 ∧ s.pins.vddioGood then (s.setVcore true).bootStep 5 else s

/-- Steps 2 to 4: the reference is stable, the boot ROM starts, Plumb time is set when VDD_AON rose, fuses are sensed
and the Layout Table is readable; in Blank TEST_EN selects internal scan (R80). An Invalid lifecycle stops the boot (R40),
with SRC 0x10 and address 0 in its code (DESIGN CHOICE, log entry 40). -/
def State.bootReference (s : State) : State :=
  if s.booting ∧ s.boot.step = 1 then
    let s := { s with time := { s.time with refRuns := true } }
    let s := if s.boot.aonRose then { s.plumbStart with boot := { s.boot with aonRose := false, brownout := false } }
      else s
    let s := s.senseFuses
    let s := { s with
      layout := s.layoutTable
      boot := { s.boot with step := 4 }
      pins := { s.pins with scan := s.pins.testEn && s.lifecycle == 0 } }
    if s.lifecycle = 6 then (s.raiseDs 0x0109 .mgmt 0).bootStop
    else s.bootVddio
  else s

/-- Step 6: the regulator is up, and 0.80 V is requested on rail 0. -/
def State.bootVcore (s : State) : State :=
  if s.booting ∧ s.boot.step = 5 then (s.bootStep 6).avsIssue (800, false) else s

/-- Step 7: the boot request has been acknowledged. -/
def State.bootAvs (s : State) : State :=
  if s.booting ∧ s.boot.step = 6 ∧ s.pw.avs.current.isNone ∧ s.pw.avs.acked = 800 then s.bootStep 7 else s

/-! ## Steps 8 to 10 -/

/-- Step 8: every bank is powered, every row zeroed and untagged (R87). -/
def State.bootScrub (s : State) : State :=
  let s := s.zeroRows 0x100000 0x280000
  let s := (List.range 2).foldl (fun (s : State) k => s.setReg (Reg.SP_FAR_PWR k) 0xFFFFFFFF) s
  let s := (List.range 16).foldl (fun (s : State) t => s.setReg (Reg.SP_NEAR_PWR t) 0xFFFFFFFF) s
  (s.setFlag Fld.SP_STATUS_BOOT_MAP true).bootStep 8

/-- Is every byte of a list the same? -/
def allEqual : List Byte → Bool
  | [] => true
  | b :: bs => bs.all (· == b)

/-- Step 9: address mode and read command (R89, R90). The part gives its answers; the test blocks are in the NVM. -/
def State.nvmDiscover (s : State) (p : NvmPart) : State :=
  let usable := p.sfdp && (decide (p.size ≤ 0x1000000) || p.method4)
  let size := if p.sfdp then (if usable then p.size else 0x1000000) else 0x1000000
  let test := [0, 0x10000, 0x20000].any (fun a => !allEqual (s.nvmBytes a 64))
  let cmd := if !p.sfdp then 0x03 else if p.quad144 && test && p.quadAgrees then 0xEB else 0x0B
  { s with boot := { s.boot with
      nvmSize := size, nvmCmd := cmd, addr4 := usable && decide (0x1000000 < p.size) } }.bootStep 9

/-- Step 10: the write point, then the entries that resets and failures before it left are written (R85, R106). -/
def State.bootSnag (s : State) : State :=
  let s := (s.findWritePoint).bootStep 10
  let s := s.boot.held.foldl (fun (s : State) (h : HeldCode) => s.queueSnag (s.mkSnag h.kind 0 h.code 1 (word h.arg))) s
  { s.bootFlush with boot := { s.boot with held := [], ldoOvl := false } }

/-! ## Safe Halt (R107) -/

/-- Enter Safe Halt: the fabric banks power down. -/
def State.safeHaltEnter (s : State) : State :=
  let s := s.bootCode 0x0F11 0
  let s := allBanks.foldl (fun (s : State) b => s.setBankPower b false) (s.zeroRows 0x100000 0x280000)
  let s := (s.setFld Fld.SYS_BOOT_STATUS_PHASE 3).setFld Fld.SYS_BOOT_STATUS_PRIMER 3
  { s.bothEvents 3 with boot := { s.boot with stopped := true } }

/-! ## Sections (R97 to R100) -/

/-- Is a register-list entry legal in a section (R98)? -/
def regEntryOk (sect : Nat) (e : RegEntry) : Bool :=
  let a := blockAddr e.block e.off
  e.flags == 0 && e.off % 4 == 0 && primerSettable sect e.block e.off && reservedZero a e.value &&
    (match RegMap.find a with | none => false | some r => r.rw != 0)

/-- One entry's write: PX_CTRL's APPLY takes effect at once and its RUN is checked at step 17 (R158); SV_CTRL is kept until
step 16 (log entry 30). -/
def State.bootWrite (s : State) (e : RegEntry) : State :=
  let a := blockAddr e.block e.off
  if a = Reg.SV_CTRL then { s with boot := { s.boot with svCtrl := e.value } }
  else if a = Reg.PX_CTRL then
    let s := if tstBit e.value 1 then s.pxApply.pxTakeEffect else s
    s.setFld Fld.PX_CTRL_RUN (bits e.value 0 0)
  else if a = Reg.LK_CFG then s.lkCfgWrite e.value
  else if a = Reg.HP_CFG then s.hpCfgWrite e.value
  else s.cfgWrite a e.value

/-- Apply the entries of a section in order; none when one is illegal. -/
def State.applyList (s : State) (sect : Nat) : List RegEntry → Option State
  | [] => some s
  | e :: es => if regEntryOk sect e then (s.bootWrite e).applyList sect es else none

/-- Apply a list of sections of one type, with the bytes before the list skipped. -/
def State.applySections (s : State) (img : List Byte) (skip : Nat) : List ImgEntry → Option State
  | [] => some s
  | e :: es =>
    match s.applyList e.type (regEntries ((e.body img).drop skip)) with
    | none => none
    | some s' => s'.applySections img skip es

/-- The POLICY section (Table 3.8). -/
def State.applyPolicy (s : State) (b : List Byte) : State :=
  let s := if le b 0 4 = 0 then s else s.capFrameWrite (word (le b 0 4))
  let s := if le b 4 4 = 0 then s else s.capRateWrite (word (le b 4 4))
  { s with boot := { s.boot with
      startSkim := le b 8 1 == 1, failRecovery := le b 9 1 == 1, hostCfg := le b 0xA 1 } }

/-- The PARTITION sections in ascending partition index. -/
def partSections (img : List Byte) : List ImgEntry :=
  (List.range 4).flatMap (fun p => (sectionsOf img 7).filter (fun e => le (e.body img) 0 1 == p))

/-- The order in which images are read at step 15 (R102). -/
def loadOrder (ls : List Locator) : List Locator :=
  ls.filter (·.kind == 2) ++ ls.filter (·.kind == 1) ++
    (List.range 4).flatMap (fun p => ls.filter (fun l => l.kind == 0 && l.part == p))

/-- Step 14: apply the sections of a Primer in the order of R97; none for an illegal entry. A set point other than
0.80 V is requested once POWER is applied; one of 0.80 V is in force already, and a new rail select alone causes no AVSBus
write (DESIGN CHOICE, log entry 41). -/
def State.applyPrimer (s : State) (img : List Byte) : Option State :=
  (s.applySections img 0 (sectionsOf img 1)).bind fun s =>
    let s := if s.setPoint = 800 then s else s.request s.setPoint false
    ((([2, 3, 4, 5] : List Nat).foldl (fun (o : Option State) t => o.bind fun s => s.applySections img 0 (sectionsOf img t))
      (some s)).bind fun s =>
        let s := (sectionsOf img 6).foldl (fun (s : State) e => s.applyPolicy (e.body img)) s
        s.applySections img 8 (partSections img))

/-- Boot a Primer that passed its full check: step 14, or a reset with the slot excluded (R101). The cause of that reset is
boot retry, and it counts toward no three failures in a row: Table 4.15 has no cause of its own for it, and R106 does not
name it (DESIGN CHOICE, log entry 41). The self-calibration of step 15 begins (R477). -/
def State.bootPrimer (s : State) (slot : Nat) : State :=
  let img := s.primerImage slot
  let s := s.setFld Fld.SYS_BOOT_STATUS_PRIMER slot
  let s := if slot = 2 then s.bootCode 0x0F10 0 else s
  match s.applyPrimer img with
  | none =>
    let s := s.bootCode 0x0F0D 0
    let s := s.setReg Reg.SYS_BOOT_STATUS (setBits (s.reg Reg.SYS_BOOT_STATUS) (8 + slot) (8 + slot) 1)
    s.resetAndBoot causeRetry
  | some s =>
    let ls := primerLocators img
    let s := (s.bootStep 14).axSelfcal
    { s with boot := { s.boot with
        locators := ls, toLoad := loadOrder ls, declared := primerParts img, imageFailed := false
        primerArb := le img 0x14 1 } }

/-- Is a slot excluded (R101)? -/
def State.slotExcluded (s : State) (slot : Nat) : Bool := tstBit (s.reg Reg.SYS_BOOT_STATUS) (8 + slot)

/-- Check the candidates in order; the first that passes, with the codes of those that failed logged. -/
def State.tryPrimers (s : State) (bad : List Nat) : List Nat → Option Nat × State
  | [] => (none, s)
  | k :: ks =>
    match s.primerCode (s.primerImage k) k (bad.contains k) with
    | none => (some k, s)
    | some c => (s.bootCode c 0).tryPrimers bad ks

/-- A slot whose header is valid, or none with the reason logged. -/
def State.headerCheck (s : State) (slot : Nat) : Bool × State :=
  if s.slotExcluded slot then (false, s)
  else match primerHeaderCode (s.primerImage slot) with
    | none => (true, s)
    | some c => (false, s.bootCode c 0)

/-- Steps 11 to 14: choose a Primer (R101). `bad` lists slots whose bytes cannot be read whole. -/
def State.choosePrimer (s : State) (bad : List Nat) : State :=
  let a := s.headerCheck 0
  let b := a.2.headerCheck 1
  let s := b.2
  let newerB := decide (primerGeneration (s.primerImage 0) < primerGeneration (s.primerImage 1))
  let order := if newerB then [1, 0] else [0, 1]
  let cands := order.filter (fun k => if k = 0 then a.1 else b.1)
  match s.tryPrimers bad cands with
  | (some k, s) => s.bootPrimer k
  | (none, s) =>
    let r := s.headerCheck 2
    if r.1 then
      match r.2.tryPrimers bad [2] with
      | (some k, s) => s.bootPrimer k
      | (none, s) => s.safeHaltEnter
    else r.2.safeHaltEnter

/-- BOOT_SCRUB_DONE: step 8 ends, and the boot ROM goes on to the end of step 14. `clean`: the verification of Table
1.4 step 8 found every tag and row zero; TEST_EN then selects internal scan (R80). -/
def State.bootScrubDone (s : State) (part : NvmPart) (clean : Bool) (bad : List Nat) : State :=
  if !s.booting ∨ s.boot.step ≠ 7 ∨ !s.pins.vddMemGood then s
  else
    let s := s.bootScrub
    if s.lifecycle = 7 ∧ !clean then
      (s.raiseDs 0x010B .verifier 0).bootStop
    else
      let s := if s.lifecycle = 7 then
          { s with
            ds := { s.ds with eraseVerified := true, pixelStopped := true }
            fuses := { s.fuses with pixOff := true }
            pins := { s.pins with scan := s.pins.testEn } }
        else s
      if !part.responds then s.bootFail 0x0F06
      else
        let s := (s.nvmDiscover part).bootSnag
        let s := if part.sfdp && (decide (part.size ≤ 0x1000000) || part.method4) then s else s.bootCode 0x0F07 0
        s.choosePrimer bad

/-! ## Step 15 (R99, R102, R105) -/

/-- The order in which the slots of a locator are tried: the higher image version first, A when equal (R102). -/
def State.slotOrder (s : State) (l : Locator) : List Nat :=
  if l.hasB then
    if le (s.nvmBytes (l.aOff + 0x10) 4) 0 4 < le (s.nvmBytes (l.bOff + 0x10) 4) 0 4 then [2, 1] else [1, 2]
  else [1]

/-- The field of SYS_BOOT_SLOTS of an image. -/
def bootSlotFld (kind part : Nat) : RegField :=
  let lo := if kind = 2 then 0 else if kind = 1 then 2 else 4 + 2 * part
  ⟨Reg.SYS_BOOT_SLOTS, lo + 1, lo⟩

/-- Load firmware of a KIND from an image: its body, entries, version and ARB. -/
def State.placeFirmware (s : State) (kind : Nat) (img : List Byte) : State :=
  let s := s.writeBytes (le img 0x1C 4) (slice img 0x40 (le img 0x20 4 - 0x40))
  let arbs := Sparse.put (fun _ => 256) (16 * kind) (le img 0x14 1) s.boot.arbs
  if kind = 1 then
    { s with boot := { s.boot with
        clusterVersion := le img 0x10 4, arbs := arbs
        clusterEntries := (List.range 4).map (fun i => word (le img (0x24 + 4 * i) 4)) } }
  else
    { s with boot := { s.boot with mgmtEntry := le img 0x24 4, arbs := arbs } }.setReg Reg.MG_FW_VERSION (word (le img 0x10 4))

/-- Try one slot of an image: none when it is loaded, else the code it was refused with. -/
def State.trySlot (s : State) (kind part n : Nat) (io : Option Nat) : Option Nat × State :=
  if kind = 0 then
    let r := s.loadSlot part n 0 io
    (r.1.map (·.1), r.2)
  else
    match (s.locator kind 0).bind (fun l => l.slot n) with
    | none => (some 0x0E01, s)
    | some (off, len) =>
      let img := s.nvmBytes off (min len (le (s.nvmBytes off 64) 8 4))
      match s.fwCode img kind len (io.any (fun a => decide (a < img.length))) with
      | some c => (some c, s.raiseMg c)
      | none => (none, s.placeFirmware kind img)

/-- Try the slots in order: the slot loaded, or the code of the last refusal. -/
def State.trySlots (s : State) (kind part : Nat) (io : Nat → Option Nat) : List Nat → Nat → Except Nat Nat × State
  | [], c => (.error c, s)
  | n :: ns, _ =>
    match s.trySlot kind part n (io n) with
    | (none, s) => (.ok n, s)
    | (some c, s) => s.trySlots kind part io ns c

/-- Load the image of a locator, or record its refusal in every slot. -/
def State.loadImage (s : State) (l : Locator) (ioA ioB : Option Nat) : State :=
  match s.trySlots l.kind l.part (fun n => if n = 1 then ioA else ioB) (s.slotOrder l) 0 with
  | (.ok n, s) => s.setFld (bootSlotFld l.kind l.part) n
  | (.error c, s) =>
    let s := (s.setFld (bootSlotFld l.kind l.part) 3).bootCode 0x0F0F c
    { s with boot := { s.boot with
        imageFailed := true
        toLoad := if l.kind = 1 then s.boot.toLoad.filter (·.kind != 0) else s.boot.toLoad } }

/-- PACKAGE_LOAD at step 15: the image whose turn it is. -/
def State.bootLoad (s : State) (kind part : Nat) (ioA ioB : Option Nat) : State :=
  match s.boot.toLoad with
  | [] => s
  | l :: ls =>
    if l.kind = kind ∧ l.part = part then ({ s with boot := { s.boot with toLoad := ls } }).loadImage l ioA ioB else s

/-! ## Steps 16 and 17 -/

/-- Is recovery Run the outcome: the recovery Primer, or a refused image under PKG_FAIL = 1 (R105)? -/
def State.recoveryDue (s : State) : Bool :=
  s.fld Fld.SYS_BOOT_STATUS_PRIMER == 2 || (s.boot.failRecovery && s.boot.imageFailed)

/-- No partition is declared (R105): all four leave the set, shadow and in force, with their packages (log entry 30). -/
def State.undeclareAll (s : State) : State :=
  let ps := List.range 4
  let s := (s.putShadow (ps.foldl clearPart s.spShadow)).declareSet (ps.foldl clearPart s.sp.inForce)
  ps.foldl (fun (s : State) p => s.emptyPart p) s

/-- The first APPLY, by the boot ROM (R205, R207): refused with SP_GEOM, it leaves every partition empty. -/
def State.firstApply (s : State) : State :=
  let m := s.spShadow
  if s.spCheck m then
    ((({ s with sp := { s.sp with inForce := m } }.setFlag Fld.SP_STATUS_BOOT_MAP false).settlePower m)).pend 6
  else (List.range 4).foldl (fun (s : State) p => s.emptyPart p) ((s.raiseSp 0x0406 .mgmt 0).pend 6)

/-- Step 16: the partition banks' set is applied, unless recovery Run is due (log entry 30), and the cores are released at the
start addresses of their firmware. -/
def State.bootConfigure (s : State) : State :=
  let s := if s.recoveryDue then s.undeclareAll else s.firstApply
  let s := s.boot.clusterEntries.zipIdx.foldl (fun (s : State) e => s.setReg (Reg.CC_BOOT_ADDR e.2) e.1) s
  s.startCluster.bootStep 16

/-- The partitions that start: declared, loaded and enabled by their sections. -/
def State.enableDeclared (s : State) : State :=
  (List.range 4).foldl (fun (s : State) p =>
    if s.boot.declared.contains p && (s.partition p).pkg.isSome && tstBit s.boot.svCtrl p then s.svEnable p else s) s

/-- In fixed mode the node takes its address at step 17 (R410). -/
def State.takeFixed (s : State) : State :=
  if s.flag Fld.LK_CFG_ADDR_MODE then (s.setFld Fld.LK_STATUS_ADDR (s.fld Fld.LK_CFG_FIXED_ADDR)).lathEvent 13 else s

/-- Start the management firmware, where one is loaded (R523). -/
def State.startMgmt (s : State) : State :=
  if s.boot.mgmtEntry = 0 then s
  else
    let s := s.setCore 4 ((s.core 4).start (word s.boot.mgmtEntry))
    { s.setFlag Fld.MG_STATUS_FW true with boot := { s.boot with mgWdtFrom := s.localNs } }

/-- Step 17 in recovery Run: no partition is declared, the pixel stays stopped and the outputs off (R105); the edge
detectors are armed as in Run (R104). -/
def State.recoveryRun (s : State) : State :=
  let s := ({ s with boot := { s.boot with declared := [], step := 17 } }.armInput 0).armInput 1
  let s := (s.setFld Fld.SYS_BOOT_STATUS_PHASE 2).setFlag Fld.SYS_BOOT_STATUS_BOOT_DONE true
  ((((s.setFld Fld.SYS_BOOT_STATUS_RETRIES 0).takeFixed.openDue).startMgmt).bothEvents 3)

/-- RUN as the TIME section left it is checked as a write of 1 at step 17 (R158). -/
def State.checkRun (s : State) : State :=
  if s.flag Fld.PX_CTRL_RUN then (s.setFlag Fld.PX_CTRL_RUN false).runStart else s

/-- Step 17 into Run (R103, R104): the outcome but for the power state. -/
def State.runEntry (s : State) : State :=
  let s := s.bootStep 17
  let s := ((s.setFld Fld.SYS_BOOT_STATUS_PHASE 1).setFlag Fld.SYS_BOOT_STATUS_BOOT_DONE true).setFld
    Fld.SYS_BOOT_STATUS_RETRIES 0
  let s := s.setReg Reg.SYS_BOOT_STATUS (setBits (s.reg Reg.SYS_BOOT_STATUS) 10 8 0)
  let s := ((s.armInput 0).armInput 1).startOuts
  let s := (s.checkOutCfg 0).checkOutCfg 1
  let s := s.gateRec ⟨4, s.fld Fld.SYS_RESET_CAUSE_CAUSE, (s.reg Reg.SYS_BOOT_SLOTS).toNat % 4096,
    s.fld Fld.SYS_BOOT_CODE_CODE, 0, false⟩
  let s := s.enableDeclared
  let s := s.checkRun.axResume
  (((s.takeFixed).openDue).startMgmt).bothEvents 3

/-! ## Failures and resets (R106, R134) -/

/-- BOOT_RETRY_RESET: the 1 s wait ends: a reset with cause boot retry, or Safe Halt at the third failure. -/
def State.bootRetry (s : State) : State :=
  match s.boot.failed with
  | none => s
  | some _ =>
    let n := s.fld Fld.SYS_BOOT_STATUS_RETRIES + 1
    let s := s.setFld Fld.SYS_BOOT_STATUS_RETRIES n
    if 3 ≤ n then { s with boot := { s.boot with failed := none } }.safeHaltEnter else s.resetAndBoot causeRetry

/-- BOOT_NO_REF, BOOT_VDDIO, BOOT_VCORE_PG, BOOT_AVS, BOOT_VMEM and BOOT_TIMEOUT, where the wait they end stands, in a boot or
in a Doze exit (R106, R502). -/
def State.bootNoRef (s : State) : State :=
  if (s.booting ∧ s.boot.step = 1) ∨ (s.power = 3 ∧ s.pw.exitStep = 1) then s.bootFail 0x0F01 else s
def State.bootNoVddio (s : State) : State := if s.booting ∧ s.boot.step = 4 then s.bootFail 0x0F02 else s
def State.bootNoVcore (s : State) : State :=
  if (s.booting ∧ s.boot.step = 5) ∨ (s.power = 3 ∧ s.pw.exitStep = 3) then (s.setVcore false).bootFail 0x0F03 else s
def State.bootNoAvs (s : State) : State :=
  if (s.booting ∧ (s.boot.step = 6 ∨ (s.boot.step = 14 ∧ s.pw.avs.current.isSome))) ∨ (s.power = 3 ∧ s.pw.exitStep = 4) then
    (s.setVcore false).bootFail 0x0F04 else s
def State.bootNoVmem (s : State) : State :=
  if s.booting ∧ s.boot.step = 7 ∧ !s.pins.vddMemGood then s.bootFail 0x0F05 else s
def State.bootTimeout (s : State) : State := if s.booting ∧ 3 ≤ s.boot.step then s.bootFail 0x0F12 else s

/-- Did a reset of a cause begin at this very instant (R134)? -/
def State.resetNow (s : State) (cause : Nat) : Bool :=
  decide (s.boot.step ≤ 1) && s.boot.lastReset.any (fun r => r.1 == cause && r.2.1 == s.localNs)

/-- A write to SYS_SWRESET by a requester (Table 4.17); with a watchdog expiry of the same instant it is one reset (R134). -/
def State.softReset (s : State) (r : Requester) (v : Word) : State :=
  if bits v 31 16 = 0x5352 then (if s.resetNow causeWatchdog then s else s.resetAndBoot causeSoftware)
  else s.raiseSys 0x0005 r Reg.SYS_SWRESET

/-- A write to SYS_WDT_CTRL: TIMEOUT, then EN, while EN is 0 (Table 4.17). -/
def State.wdtWrite (s : State) (v : Word) : State :=
  if s.flag Fld.SYS_WDT_CTRL_EN then s
  else
    let s := s.setFld Fld.SYS_WDT_CTRL_TIMEOUT (bits v 31 16)
    if tstBit v 0 && s.fld Fld.SYS_WDT_CTRL_TIMEOUT != 0 then
      { s.setFlag Fld.SYS_WDT_CTRL_EN true with boot := { s.boot with wdtFrom := s.localNs } }
    else s

/-- A write to SYS_WDT_KICK. -/
def State.wdtKick (s : State) (v : Word) : State :=
  if bits v 15 0 = 0xA55A then { s with boot := { s.boot with wdtFrom := s.localNs } } else s

/-- The held entries with the last software reset's turned into the watchdog's. -/
def wdtHeld (held : List HeldCode) : List HeldCode :=
  let l := held.reverse
  let i := l.findIdx (fun h => h.kind == 2 && h.arg == causeSoftware)
  (l.modify i (fun h => { h with arg := causeWatchdog })).reverse

/-- SYS_WDT: the watchdog, which counts in Run and Trim, expires; a software reset of the same instant becomes the watchdog's
(R134). -/
def State.wdtExpire (s : State) : State :=
  if s.flag Fld.SYS_WDT_CTRL_EN && decide (s.power < 2) then
    ((s.raiseSys 0x0006 .mgmt 0).holdCode 0x0006 0).resetAndBoot causeWatchdog
  else if s.resetNow causeSoftware && s.boot.lastReset.any (·.2.2) then
    { s.setFld Fld.SYS_RESET_CAUSE_CAUSE causeWatchdog with boot := { s.boot with
        held := ⟨1, 0x0006, 0⟩ :: wdtHeld s.boot.held
        lastReset := s.boot.lastReset.map (fun r => (causeWatchdog, r.2)) } }
  else s

/-! ## Pins -/

/-- VDDIO_MODE_LATCH: the I/O mode latches for this rise of VDDIO (R57). -/
def State.vddioLatch (s : State) (v33 : Bool) : State :=
  if s.pins.vddioMode = 0 then { s with pins := { s.pins with vddioMode := if v33 then 2 else 1 } } else s

/-- VDDIO_FALL: below 1.5 V the mode is released. -/
def State.vddioFall (s : State) : State :=
  { s with pins := { s.pins with vddioMode := 0, vddioGood := false } }.setUv 4 true

/-- VDDIO_GOOD: not before the mode has latched; boot step 5 may follow. -/
def State.vddioRise (s : State) : State :=
  if s.pins.vddioMode = 0 then s
  else ({ s with pins := { s.pins with vddioGood := true } }.setUv 4 false).bootVddio

/-- LHOLD_N_FALL: the bypass closes and both ports close (R69, R412). -/
def State.lholdFall (s : State) : State := { s with pins := { s.pins with lholdN := false } }.closePorts

/-- LHOLD_N_RISE: the ports are opened when nothing else holds the bypass closed (R110). -/
def State.lholdRise (s : State) : State := { s with pins := { s.pins with lholdN := true } }.openDue

/-! ## Meanings -/

def execVddioModeLatch (v33 : Bool) (s : State) : Host.Outcome State Fault Refusal := .next (s.vddioLatch v33)
def execVddioGood (s : State) : Host.Outcome State Fault Refusal := .next s.vddioRise
def execVddioFall (s : State) : Host.Outcome State Fault Refusal := .next s.vddioFall
def execLholdNFall (s : State) : Host.Outcome State Fault Refusal := .next s.lholdFall
def execLholdNRise (s : State) : Host.Outcome State Fault Refusal := .next s.lholdRise
def execBootNoRef (s : State) : Host.Outcome State Fault Refusal := .next s.bootNoRef
def execBootVddio (s : State) : Host.Outcome State Fault Refusal := .next s.bootNoVddio
def execBootVcorePg (s : State) : Host.Outcome State Fault Refusal := .next s.bootNoVcore
def execBootAvs (s : State) : Host.Outcome State Fault Refusal := .next s.bootNoAvs
def execBootVmem (s : State) : Host.Outcome State Fault Refusal := .next s.bootNoVmem
def execBootScrubDone (part : NvmPart) (clean : Bool) (bad : List Nat) (s : State) : Host.Outcome State Fault Refusal :=
  .next (s.bootScrubDone part clean bad)
def execBootTimeout (s : State) : Host.Outcome State Fault Refusal := .next s.bootTimeout
def execBootRetryReset (s : State) : Host.Outcome State Fault Refusal := .next s.bootRetry
def execSoftwareReset (r : Requester) (v : Word) (s : State) : Host.Outcome State Fault Refusal := .next (s.softReset r v)
def execWdtStart (v : Word) (s : State) : Host.Outcome State Fault Refusal := .next (s.wdtWrite v)
def execWdtKick (v : Word) (s : State) : Host.Outcome State Fault Refusal := .next (s.wdtKick v)
def execSysWdt (s : State) : Host.Outcome State Fault Refusal := .next s.wdtExpire

end Sys2Proof.Machine
end

