-- ==== Sys2Proof/Machine/Power.lean ====
section
/-! DEFINITION. Power states: requests and refusers, entries and exits, the monitors and the supply restart, and the
end of a boot in a power state (chapter 16, R103). -/

namespace Sys2Proof.Machine

/-! ## Requests (R492, R515) -/

/-- Raise a PW code that the Snag Log keeps (R521). -/
def State.raisePwLog (s : State) (code : Nat) : State := (s.raisePw code).logDefault 0 code 0

/-- Is a request permitted from the present state (Table 16.2)? -/
def State.permitted (s : State) (target : Nat) : Bool :=
  match s.power with
  | 0 | 1 | 2 => target != s.power
  | _ => false

/-! ## Refusers (R493, R494, Table 16.3) -/

/-- Does a waiting or running request or frame make the link busy (R429)? -/
def State.linkBusy (s : State) : Bool :=
  s.link.req.isSome || s.link.enumReq.isSome || !s.link.waiting.isEmpty || !s.link.up.isEmpty || s.link.downBusy != 0 ||
    s.spi.req.any (fun r => r.type == 0x09 || r.type == 0x0A)

/-- The first refuser that holds for a target: its cause and its unit. -/
def State.refuser (s : State) (target : Nat) : Option (Nat × Nat) :=
  let veto := (List.range 4).find? (fun n => tstBit (s.reg Reg.PW_VETO) n && (s.core n).running)
  let pin := (List.range 4).find? (fun p => s.svEnabled p && tstBit (s.reg Reg.PW_PIN) p &&
    !(target == 2 && s.flag (Fld.SV_CFG_SKIM p)))
  if 2 ≤ target ∧ target ≤ 4 ∧ veto.isSome then some (1, veto.getD 0)
  else if 2 ≤ target ∧ target ≤ 4 ∧ pin.isSome then some (2, pin.getD 0)
  else if 3 ≤ target ∧ s.flag Fld.AX_STATUS_CAL_BUSY then some (3, 0)
  else if 3 ≤ target ∧ s.linkBusy then some (4, 0)
  else if 1 ≤ target ∧ (s.pw.avs.current.isSome ∨ s.flag Fld.PW_AVS_STATUS_LOST) then some (5, 0)
  else if 3 ≤ target ∧ !s.eg.queue.isEmpty then some (6, 0)
  else none

/-- The refusal counter of a target. -/
def refuseCnt (target : Nat) : RegField :=
  match target with
  | 1 => Fld.PW_REFUSE_CNT_A_TRIM
  | 2 => Fld.PW_REFUSE_CNT_A_SKIM
  | 3 => Fld.PW_REFUSE_CNT_B_DOZE
  | _ => Fld.PW_REFUSE_CNT_B_OFF

/-- Raise PW_REFUSED at most once per second (R494); the code is never logged (R521), so its slot only keeps the
time. -/
def State.raiseRefused (s : State) : State :=
  let slot := Sparse.get LogSlot.unused s.logSlots 0x0D02
  let due := match slot.last with
    | none => true
    | some t => decide (oneSecond ≤ (s.localNs - t).toNat)
  if due then
    { s with logSlots := Sparse.put LogSlot.unused 0x0D02 ⟨some s.localNs, 0⟩ s.logSlots }.raisePw 0x0D02
  else s

/-- A request is refused (R494). -/
def State.refuse (s : State) (target source cause unit : Nat) : State :=
  let s := s.incSat (refuseCnt target) 1
  let s := s.setReg Reg.PW_LAST_REFUSER (word (target + 16 * cause + 256 * unit + 4096 * source))
  (s.bothEvents 5).raiseRefused

/-- A state request reaches the power controller; sources as PW_LAST_REFUSER numbers them. A request to leave Skim for
Run or Trim that no refuser blocks is a wake; any other waits for its decision (R492, R493, R504). One that coincides with a
wake from Skim loses to the wake (R515). -/
def State.powerReq (s : State) (target source : Nat) : State :=
  if 4 < target ∨ s.flag Fld.PW_STATE_BUSY ∨ s.pw.request.isSome ∨ (s.power = 2 ∧ s.pw.wake) then s.raisePw 0x0D01
  else if target = s.power then s
  else if !s.permitted target ∨ (target = 1 ∧ s.fld Fld.PW_TRIM_CEIL_MV < s.vFloor) then s.raisePw 0x0D01
  else if s.power = 2 ∧ target < 2 then
    match s.refuser target with
    | some (cause, unit) => s.refuse target source cause unit
    | none => s.wakeFrom (if source = 3 then 4 else 3) 0
  else { s with pw := { s.pw with request := some (target, source) } }

/-! ## Common to the entries -/

/-- A transition is complete: PW_STATE shows the state (R491, R521). -/
def State.arrive (s : State) (n : Nat) : State :=
  let s := (s.setReg Reg.PW_STATE (word (n + 16 * n))).pend 15
  { s.bothEvents 5 with pw := { s.pw with entering := false, exitStep := 0 } }

/-- A transition to a state begins. -/
def State.depart (s : State) (target : Nat) (entering : Bool) : State :=
  let s := (s.setFld Fld.PW_STATE_TARGET target).setFlag Fld.PW_STATE_BUSY true
  { s with pw := { s.pw with entering := entering } }

/-- A target that replaces every waiting one (R516). -/
def State.forceTarget (s : State) (mv : Nat) : State :=
  (s.setAvs { s.pw.avs with waiting := none, reissue := none }).request mv false

/-- A cap comes into force: a request above it is lowered with one transaction, and so is a ceiling request that waits behind
the one outstanding (R496, R508, R516). -/
def State.capRequest (s : State) (mv : Nat) : State :=
  if s.fld Fld.TF_SUP_STATUS_REQ ≤ mv then s
  else s.request mv (s.pw.avs.waiting.any (·.2))

/-- Trim: the ceiling is capped (R496). -/
def State.trimArrive (s : State) : State :=
  let s := s.setFlag Fld.PW_STATUS_CEIL_TRIM true
  (s.capRequest s.ceiling).arrive 1

/-- Leaving Trim for Run removes the cap. -/
def State.runArrive (s : State) : State := (s.setFlag Fld.PW_STATUS_CEIL_TRIM false).arrive 0

/-- Suspend the running partitions that `p` picks, each at its next epoch boundary (R331). -/
def State.suspendParts (s : State) (pick : Nat → Bool) : State :=
  (List.range 4).foldl (fun (s : State) p =>
    if s.svEnabled p && s.fld (Fld.SV_STATUS_STATE p) == svRunning && pick p then
      (s.setPart p { s.partition p with toSuspend := true }).suspendNow p
    else s) s

/-- Have the control cores completed their outstanding accesses and drained their buffers (R295)? -/
def State.coresDrained (s : State) : Bool := (List.range 4).all s.drained && s.sp.narrowWrites.isEmpty

/-- No partition still waits for its epoch boundary, and no change set is being applied (R362). -/
def State.quiet (s : State) : Bool :=
  !s.pk.begun && s.pk.quiesce == 0 && (List.range 4).all (fun p => !(s.partition p).toSuspend)

/-- Every reservation is cleared, and the stores that were held back are performed (R288, R295). -/
def State.dropReservations (s : State) : State :=
  { s with cores := s.cores.map (fun (x : Core) => { x with reserved := none, holding := false }) }.performHeld

/-- The LDO mode (R506). -/
def State.setLdo (s : State) (normal : Bool) : State := s.setFlag Fld.PW_STATUS_LDO_NORMAL normal

/-! ## Skim (R497) -/

/-- Does some partition have SKIM set? -/
def State.anySkim (s : State) : Bool := (List.range 4).any (fun p => s.flag (Fld.SV_CFG_SKIM p))

/-- Steps 1 to 3 begin. -/
def State.skimBegin (s : State) : State :=
  let s := (s.csPowerEntry.depart 2 true).suspendParts (fun p => !s.flag (Fld.SV_CFG_SKIM p))
  if s.anySkim then { s with px := { s.px with skimNext := some true } } else s.sensorHalt

/-- Steps 4 to 7, once steps 1 to 3 and the drains are done. -/
def State.skimGo (s : State) : State :=
  let s := if s.anySkim && s.sensorStopped then s.pxTakeEffect else s
  let front := if s.anySkim then s.px.skimNext.isNone else s.sensorStopped
  if s.quiet && front && s.coresDrained then
    let s := s.dropReservations
    let s := { s with pw := { s.pw with heldRequest := s.fld Fld.TF_SUP_STATUS_REQ } }
    let s := (s.forceTarget s.vFloor).setLdo false
    (s.setFlag Fld.PW_STATUS_CEIL_TRIM false).arrive 2
  else s

/-! ## Doze and Off (R500, R503) -/

/-- Steps 1 to 3 begin: the aux sequencer starts no further pass. -/
def State.dozeBegin (s : State) (target : Nat) : State :=
  let s := ((s.csPowerEntry.depart target true).suspendParts (fun _ => true)).sensorHalt
  { s with ax := { s.ax with running := false, trig := false, calNext := false } }

/-- What VDD_CORE and the memory die lose (Table 16.1): every row, tile and core state, caches and cluster SRAM; the
streams of every partition end; ring slots are free. -/
def State.fabricOff (s : State) : State :=
  let s := (s.endTasks (List.range 16)).clusterDown
  let s := allBanks.foldl (fun (s : State) b => s.setBankPower b false) (s.zeroRows 0x100000 0x280000)
  let s := (s.setReg Reg.PX_RING_HOLD_LO 0).setReg Reg.PX_RING_HOLD_HI 0
  let parts := s.parts.map (fun (x : PartState) => { x with
    releases := [], toSuspend := false, gap := true
    kernel := { streams := List.replicate ((x.pkg.map Package.maxStreams).getD 0) {} } })
  { s with
    tiles := Vector.replicate 16 {}
    inFlight := []
    sp := { s.sp with
      requests := [], writes := [], narrowWrites := [], sweep := none, sweepLate := false
      toScrub := [], toReady := [], ringRelease := [] }
    parts := parts
    eg := { s.eg with liveStreams := [], skimWake := false }
    px := { s.px with skim := false, skimNext := none, frames := [], fifo := [], exposing := false, lastSlot := none } }

/-- Steps 4 to 6 of R500: the cluster and the tiles power down, the ports close, VCORE_EN goes low, an update is
aborted (R535), and the reference stops unless the wake decoder needs it. -/
def State.coreOff (s : State) (keepRef : Bool) : State :=
  let s := ((s.fabricOff.closePorts).setVcore false).updStop
  let s := (s.axSuspend.setFld Fld.PX_STATUS_STATE 0).setFlag Fld.PW_STATUS_CEIL_TRIM false
  if keepRef then s else s.refStop

/-- Step 7. -/
def State.dozeArrive (s : State) : State := ((s.coreOff (s.flag Fld.LK_WAKE_CFG_PATTERN)).setLdo false).arrive 3

/-- Off holds: the outputs release, and no wake is armed (R503). -/
def State.offArrive (s : State) : State := ((((s.coreOff false).makeSwitch 0 false).makeSwitch 1 false).setLdo false).arrive 4

/-- Has everything stopped that steps 1 to 4 of R500 wait for (R429, R482, R545)? -/
def State.dozeReady (s : State) : Bool :=
  s.quiet && s.sensorStopped && s.ax.passes.isEmpty && s.coresDrained && s.link.up.isEmpty && s.link.waiting.isEmpty &&
    s.link.downBusy == 0 && s.fld mbState != 2

/-- The entry goes on when nothing it waits for is left; Off also waits for the Snag Log (R503). -/
def State.dozeGo (s : State) (target : Nat) : State :=
  if !s.dozeReady then s
  else if target = 3 then s.dozeArrive
  else if s.snagQueue.isEmpty && s.mg.snagOps.isEmpty then s.offArrive
  else s

/-! ## Decisions (R493) -/

/-- A request for the target is decided, or an entry to it in progress goes on. While an exit is in progress nothing is
decided. -/
def State.enter (s : State) (target : Nat) : State :=
  let go := fun (s : State) => match target with
    | 2 => s.skimGo
    | _ => s.dozeGo target
  if s.pw.entering then (if s.fld Fld.PW_STATE_TARGET = target then go s else s)
  else if s.flag Fld.PW_STATE_BUSY then s
  else match s.pw.request with
    | none => s
    | some (t, source) =>
      if t ≠ target then s
      else
        let s := { s with pw := { s.pw with request := none } }
        match s.refuser target with
        | some (cause, unit) => s.refuse target source cause unit
        | none => match target with
          | 0 => s.runArrive
          | 1 => s.trimArrive
          | 2 => go s.skimBegin
          | _ => go (s.dozeBegin target)

/-! ## Leaving Skim (R498) -/

/-- The state an exit ends in; from Skim, RESUME 2 stands for Run. -/
def State.resumeState (s : State) : Nat :=
  let r := s.fld Fld.PW_CFG_RESUME
  if r = 1 then 1 else if r = 2 ∧ s.power = 3 then 2 else 0

/-- Step 1, and the request of step 2. A state request that is not decided yet loses to the wake (R515). -/
def State.skimWakeStart (s : State) : State :=
  let s := if s.pw.request.isSome then { s with pw := { s.pw with request := none } }.raisePw 0x0D01 else s
  let s := (s.depart s.resumeState false).setLdo true
  let s := { s with pw := { s.pw with wake := false, exitStep := 2 } }
  s.forceTarget s.pw.heldRequest

/-- The suspended partitions that are enabled start again, the first frame with GAP (R331). -/
def State.unsuspend (s : State) : State :=
  (List.range 4).foldl (fun (s : State) p =>
    if s.svEnabled p && s.suspended p then
      (s.setPart p { s.partition p with gap := true }).setFld (Fld.SV_STATUS_STATE p) svRunning
    else s) s

/-- Is a frame of the Skim partition open? -/
def State.skimFrameOpen (s : State) : Bool :=
  (List.range 4).any (fun p => s.flag (Fld.SV_CFG_SKIM p) && (s.partition p).frame.isSome)

/-- Arrival in Run or Trim, with the watchdog from its full timeout (R134). -/
def State.resumeArrive (s : State) : State :=
  let s := { s with boot := { s.boot with wdtFrom := s.localNs } }
  if s.fld Fld.PW_STATE_TARGET = 1 then s.trimArrive else s.runArrive

/-- Steps 2 to 5, as far as their conditions hold: the request has been answered or given up (R517), then the Skim
partition's frame is closed and the front end has taken PX_MODE. -/
def State.skimExit (s : State) : State :=
  let s := if s.pw.exitStep = 0 ∧ s.pw.wake ∧ !s.flag Fld.PW_STATE_BUSY then s.skimWakeStart else s
  let s := if s.pw.exitStep = 2 ∧ s.pw.avs.current.isNone then
      { s with pw := { s.pw with exitStep := 3 } }.pend 15
    else s
  let s := if s.pw.exitStep = 3 ∧ !s.skimFrameOpen then
      let s := if s.px.skim then { s with px := { s.px with skimNext := some false } }.pxTakeEffect else s
      if s.px.skimNext.isSome then s else { s with pw := { s.pw with exitStep := 4 } }
    else s
  if s.pw.exitStep = 4 then (s.unsuspend.resumeArrive).sensorStart else s

/-- WAKE_FROM_SKIM. -/
def State.wakeFromSkim (s : State) : State := if s.power = 2 ∧ !s.pw.entering then s.skimExit else s

/-! ## Leaving Doze (R501, R502) -/

/-- Step 3: VCORE_EN is driven high. -/
def State.dozeVcore (s : State) : State :=
  { (s.setVcore true) with pw := { s.pw with exitStep := 3 } }

/-- Step 1; with the reference running, step 3 follows at once. -/
def State.dozeWakeStart (s : State) : State :=
  let s := (s.depart s.resumeState false).setLdo true
  let s := { s with pw := { s.pw with wake := false, exitStep := 1 } }
  if s.time.refRuns then s.dozeVcore else s

/-- Step 5, after VCORE_PG rose: PW_SET_MV is requested (R511). -/
def State.dozePg (s : State) : State :=
  ({ s with pw := { s.pw with exitStep := 4 } }).forceTarget s.setPoint

/-- The images read again: the firmware slot of the last boot and the packages that are loaded. -/
def State.reloadList (s : State) : List Locator :=
  loadOrder (s.boot.locators.filter (fun l =>
    if l.kind = 1 then s.fld (bootSlotFld 1 0) == 1 || s.fld (bootSlotFld 1 0) == 2
    else l.kind == 0 && s.fld (Fld.PK_PART_STATUS_STATE l.part) == 1))

/-- Steps 6 and 7: declared banks and the ring's are powered and zeroed, and the image loads and a self-calibration
begin (R477). -/
def State.dozeAcked (s : State) : State :=
  if s.power = 3 ∧ s.pw.exitStep = 4 ∧ s.pw.avs.current.isNone ∧ s.pw.avs.acked = s.fld Fld.PW_AVS_STATUS_TARGET_MV then
    let s := allBanks.foldl (fun (s : State) b =>
      if bankDeclared s.sp.inForce b || s.ringBank b then s.setBankPower b true else s) s
    let s := { s with
      pw := { s.pw with exitStep := 6 }
      boot := { s.boot with toLoad := s.reloadList, imageFailed := false } }
    s.axSelfcal
  else s

/-- A package is placed again: its rows, its control table's budget, and a fresh kernel; every register was kept. -/
def State.replacePackage (s : State) (p : Nat) (k : Package) : State :=
  let s := (s.writeRows p k).packageTable p 0
  let ps := s.partition p
  s.setPart p { ps with pkg := some k.placed, kernel := k.freshKernel, frame := none, gap := true }

/-- A partition's package is read again from its slot, or the partition is left empty (R105, R502). -/
def State.reloadPackage (s : State) (p : Nat) (io : Option Nat) : State :=
  match s.smpSlot p (s.fld (Fld.PK_PART_STATUS_SLOT p)) (clearPart s.spShadow p) io with
  | .ok k => s.replacePackage p k
  | .error e =>
    let s := ((s.setPart p { s.partition p with pkg := none }).refusePackage p e.1 0).bootCode 0x0F0F e.1
    { s with boot := { s.boot with imageFailed := true } }

/-- The firmware of the control cluster is read again; when it is refused every partition is left empty (R105). -/
def State.reloadCluster (s : State) (io : Option Nat) : State :=
  match s.trySlot 1 0 (s.fld (bootSlotFld 1 0)) io with
  | (none, s) => s
  | (some c, s) =>
    let s := (s.setFld (bootSlotFld 1 0) 3).bootCode 0x0F0F c
    let s := (List.range 4).foldl (fun (s : State) p => s.emptyPart p) s
    { s with boot := { s.boot with imageFailed := true, toLoad := [] } }

/-- PACKAGE_LOAD at step 7 of a Doze exit: the image whose turn it is. -/
def State.dozeLoad (s : State) (kind part : Nat) (ioA ioB : Option Nat) : State :=
  match s.boot.toLoad with
  | [] => s
  | l :: ls =>
    if l.kind = kind ∧ l.part = part then
      let s := { s with boot := { s.boot with toLoad := ls } }
      let slot := s.fld (if kind = 1 then bootSlotFld 1 0 else Fld.PK_PART_STATUS_SLOT part)
      let io := if slot = 1 then ioA else ioB
      if kind = 1 then s.reloadCluster io else s.reloadPackage part io
    else s

/-- Steps 8 and 9: the cores start, the ports open, the partitions start with GAP, and RESUME is entered. With a refused
image and PKG_FAIL 1 the exit ends in recovery Run (R105). -/
def State.dozeFinish (s : State) : State :=
  let s := if s.fld (bootSlotFld 1 0) = 3 then s else s.startCluster
  let s := (List.range 4).foldl (fun (s : State) p =>
    if s.svEnabled p && (s.partition p).pkg.isNone then s.svDisable p else s) s
  let s := s.setFlag Fld.PW_STATUS_RESTART false
  let target := s.fld Fld.PW_STATE_TARGET
  let s := { s with boot := { s.boot with mgWdtFrom := s.localNs } }
  if s.boot.failRecovery && s.boot.imageFailed then ((s.resumeArrive).undeclareAll).recoveryRun
  else
    let s := (((s.unsuspend).resumeArrive).sensorStart).axResume.openDue
    if target = 2 then (s.skimBegin).skimGo else s

/-- WAKE_FROM_DOZE: the exit begins, or, every image read, ends. -/
def State.wakeFromDoze (s : State) : State :=
  if s.power ≠ 3 ∨ s.pw.entering ∨ s.boot.failed.isSome then s
  else if s.pw.exitStep = 0 ∧ s.pw.wake ∧ s.pw.restartEnd = 0 ∧ !s.flag Fld.PW_STATE_BUSY then s.dozeWakeStart
  else if s.pw.exitStep = 6 ∧ s.boot.toLoad.isEmpty then s.dozeFinish
  else s

/-! ## Steps that a boot and a Doze exit share -/

/-- REFERENCE_STABLE (steps 2 of Tables 3.1 and 16.5). -/
def State.referenceStable (s : State) : State :=
  if s.power = 3 ∧ s.pw.exitStep = 1 ∧ s.boot.failed.isNone then
    { s with time := { s.time with refRuns := true } }.dozeVcore
  else s.bootReference

/-- VCORE_PG_HIGH (step 6 of Table 3.1, step 4 of Table 16.5). -/
def State.vcorePg (s : State) : State :=
  if !s.pins.vcoreEn then s
  else
    let s := (s.setUv 0 false).setUv 3 false
    if s.power = 3 ∧ s.pw.exitStep = 3 ∧ s.boot.failed.isNone then s.dozePg else s.bootVcore

/-- VDD_MEM_GOOD: step 8 of Table 3.1 may follow. -/
def State.vddMemRise (s : State) : State :=
  { s with pins := { s.pins with vddMemGood := true } }.setUv 1 false

/-- AVS_READ_RESPONSE, with the steps that wait for an acknowledge. -/
def State.avsResponse (s : State) (mv : Nat) : State := ((s.avsRead mv).bootAvs).dozeAcked

/-- PACKAGE_LOAD: at boot step 15, at step 7 of a Doze exit, or while a change set stages; `ioA` and `ioB`: the read of
slot A, B fails at a byte of the image. -/
def State.packageLoad (s : State) (kind part : Nat) (ioA ioB : Option Nat) : State :=
  if s.booting && s.boot.step == 14 then s.bootLoad kind part ioA ioB
  else if s.power = 3 ∧ s.pw.exitStep = 6 ∧ s.boot.failed.isNone then s.dozeLoad kind part ioA ioB
  else if kind = 0 then
    match (csLoads s.pk.set).find? (fun l => l.1 == part) with
    | some l => s.stagePackage part l.2.1 (if l.2.1 = 1 then ioA else ioB)
    | none => s
  else s

/-- BOOT_RUN_ENTRY: steps 16 and 17, once every image has been read and the set point is answered (R88, R103). -/
def State.bootRunEntry (s : State) : State :=
  if !s.booting ∨ s.boot.step ≠ 14 ∨ !s.boot.toLoad.isEmpty ∨ s.pw.avs.current.isSome then s
  else
    let s := s.bootConfigure
    if s.recoveryDue then s.recoveryRun
    else
      let s := s.runEntry
      if s.boot.startSkim then s.skimBegin.skimGo else s

/-! ## Monitors and the supply restart (R512, R513, Table 16.8) -/

/-- Frames in progress are voided (R513); no fault limit applies. -/
def State.voidAll (s : State) : State :=
  (List.range 4).foldl (fun (s : State) p =>
    let ps := s.partition p
    let s := s.voidFrame p false
    let x := s.partition p
    s.setPart p { x with
      overruns := ps.overruns, voids := ps.voids, kernel := { x.kernel with overran := ps.kernel.overran } }) s

/-- A channel in MODE 1 or 2 goes to OCCUPIED with its switch released (R513). -/
def State.restartOut (s : State) (n : Nat) : State :=
  let mode := s.fld (Fld.EG_OUT_CFG_MODE n)
  if mode = 1 ∨ mode = 2 then
    (s.setOut n { s.out n with state := .occupied, timer := none, waiting := none }).makeSwitch n false
  else s

/-- A supply restart begins, or its end condition grows: 1 VCORE_PG, 2 VDD_MEM, 4 the dies. It comes after step 17 and
not in Off. -/
def State.restart (s : State) (cond : Nat) : State :=
  if s.boot.step ≠ 17 ∨ s.boot.stopped ∨ s.boot.failed.isSome ∨ s.power = 4 then s
  else
    let due := s.pw.restartEnd ||| cond
    if s.flag Fld.PW_STATUS_RESTART && s.pw.exitStep == 0 then { s with pw := { s.pw with restartEnd := due } }
    else
      let s := (s.csPowerEntry.voidAll.restartOut 0).restartOut 1
      let s := s.setAvs { acked := s.pw.avs.acked, fails := s.pw.avs.fails }
      let s := (s.setFlag Fld.PW_AVS_STATUS_OUTSTANDING false).setFlag Fld.TF_SUP_STATUS_AVS_WAIT false
      let s := (List.range 4).foldl (fun (s : State) p =>
        if s.svEnabled p && s.fld (Fld.SV_STATUS_STATE p) == svRunning then s.setFld (Fld.SV_STATUS_STATE p) svSuspended
        else s) s
      let s := { s with
        ax := { s.ax with running := false, trig := false, calNext := false, syscal := none }
        boot := { s.boot with toLoad := [] }
        pw := { s.pw with request := none, restartEnd := due } }
      let s := s.setFlag Fld.AX_STATUS_CAL_BUSY false
      s.dozeArrive.setFlag Fld.PW_STATUS_RESTART true

/-- SUPPLY_RESTART_END: an end condition of Table 16.8 holds; when none is left the exit of Table 16.5 begins. -/
def State.restartEnds (s : State) (cond : Nat) : State :=
  if !s.flag Fld.PW_STATUS_RESTART ∨ s.pw.restartEnd = 0 then s
  else
    let cool := s.pw.temps.all (fun t => decide (t + 10 < (s.fld Fld.PW_TEMP_WARN_DEGC : Int)))
    let holds := match cond with
      | 1 => true
      | 2 => s.pins.vddMemGood
      | 4 => cool
      | _ => false
    if !holds then s
    else
      let left := s.pw.restartEnd - (s.pw.restartEnd &&& cond)
      let s := { s with pw := { s.pw with restartEnd := left } }
      if left = 0 then { s with pw := { s.pw with wake := true } }.wakeFromDoze else s

/-- VDD_CORE_UV: an undervoltage of VDD_CORE (`pgLow` false), or VCORE_PG low for more than 10 µs. -/
def State.vcoreUv (s : State) (pgLow : Bool) : State :=
  let s := if s.power = 4 then s else s.setUv (if pgLow then 3 else 0) true
  if s.power < 3 ∧ s.boot.step = 17 then (s.raisePwLog 0x0D09).restart 1 else s

/-- VDD_MEM_UV. -/
def State.vmemUv (s : State) : State :=
  let s := { s with pins := { s.pins with vddMemGood := false } }
  if s.power = 4 then s else ((s.setUv 1 true).raisePwLog 0x0D08).restart 2

/-- VDD_PIXA_UV (R164, R487). -/
def State.vpixaUv (s : State) : State :=
  if s.power = 4 then s else ((s.setUv 2 true).raisePwLog 0x0D0A).pixaLost.axSupplyLost

/-- The thermal cap lowers a request above V_floor (Table 16.8). -/
def State.thermCap (s : State) : State := if s.power < 3 then s.capRequest s.vFloor else s

/-- TEMP_SAMPLE: the temperatures of the logic, pixel and memory dies in °C. -/
def State.tempSample (s : State) (temps : List Int) : State :=
  if s.power = 4 then s
  else
    let warn : Int := s.fld Fld.PW_TEMP_WARN_DEGC
    let hot := (List.range 3).map (fun k => decide (warn ≤ temps.getD k 0))
    let mask := (List.range 3).foldl (fun m k => m + 2 ^ k * bit (hot.getD k false)) 0
    let s := { s with pw := { s.pw with temps := temps } }.setFld Fld.PW_MON_STATUS_WARN mask
    let capped := s.flag Fld.PW_STATUS_CEIL_THERM
    let s := if mask ≠ 0 ∧ !capped then ((s.setFlag Fld.PW_STATUS_CEIL_THERM true).raisePwLog 0x0D0B).thermCap
      else if capped && temps.all (fun t => decide (t + 5 < warn)) then s.setFlag Fld.PW_STATUS_CEIL_THERM false
      else s
    let trip : Int := if s.fuses.grade = 0 then 118 else 133
    if temps.any (fun t => decide (trip ≤ t)) ∧ s.pw.restartEnd / 4 % 2 = 0 then (s.raisePwLog 0x0D0C).restart 4 else s

/-- LDO_HIGH: the low-power load exceeds 13 mA (R507). -/
def State.ldoHigh (s : State) : State :=
  if s.flag Fld.PW_STATUS_LDO_NORMAL then s else (s.setLdo true).raisePw 0x0D06

/-! ## Meanings -/

def execReferenceStable (s : State) : Host.Outcome State Fault Refusal := .next s.referenceStable
def execVcorePgHigh (s : State) : Host.Outcome State Fault Refusal := .next s.vcorePg
def execVddMemGood (s : State) : Host.Outcome State Fault Refusal := .next s.vddMemRise
def execPackageLoad (kind : Fin 3) (part : Fin 4) (ioA ioB : Option Nat) (s : State) : Host.Outcome State Fault Refusal :=
  .next (s.packageLoad kind part ioA ioB)
def execBootRunEntry (s : State) : Host.Outcome State Fault Refusal := .next s.bootRunEntry
def execEnterTrim (s : State) : Host.Outcome State Fault Refusal := .next (s.enter 1)
def execEnterSkim (s : State) : Host.Outcome State Fault Refusal := .next (s.enter 2)
def execEnterDoze (s : State) : Host.Outcome State Fault Refusal := .next (s.enter 3)
def execEnterOff (s : State) : Host.Outcome State Fault Refusal := .next (s.enter 4)
def execLeaveTrim (s : State) : Host.Outcome State Fault Refusal := .next (s.enter 0)
def execWakeFromSkim (s : State) : Host.Outcome State Fault Refusal := .next s.wakeFromSkim
def execWakeFromDoze (s : State) : Host.Outcome State Fault Refusal := .next s.wakeFromDoze
def execLdoHigh (s : State) : Host.Outcome State Fault Refusal := .next s.ldoHigh
def execAvsWriteAck (slaveAck : Fin 4) (s : State) : Host.Outcome State Fault Refusal := .next (s.avsWriteAck slaveAck)
def execAvsReadResponse (mv : Nat) (s : State) : Host.Outcome State Fault Refusal := .next (s.avsResponse mv)
def execTempSample (logic pixel memory : Int) (s : State) : Host.Outcome State Fault Refusal :=
  .next (s.tempSample [logic, pixel, memory])
def execVddCoreUv (pgLow : Bool) (s : State) : Host.Outcome State Fault Refusal := .next (s.vcoreUv pgLow)
def execVddMemUv (s : State) : Host.Outcome State Fault Refusal := .next s.vmemUv
def execVddPixaUv (s : State) : Host.Outcome State Fault Refusal := .next s.vpixaUv
def execSupplyRestartEnd (cond : Nat) (s : State) : Host.Outcome State Fault Refusal := .next (s.restartEnds cond)

end Sys2Proof.Machine
end

