-- ==== Sys2Proof/Machine/Live.lean ====
section
/-! DEFINITION. What a read of a register returns: registers whose value follows the state, write-only fields, the
mailbox and the change-set buffer (R6, R125, and the register tables). -/

namespace Sys2Proof.Machine

/-- Bit `k` of a register word. -/
def bitAt (k : Nat) (b : Bool) : Nat := 2 ^ k * bit b

/-- Has a path's cursor records it has not passed (Table 13.7, bit 0)? -/
def State.lathRecords (s : State) : Bool := s.flag Fld.LK_CFG_RECORDS && decide (max s.link.cursor s.eg.taken < s.cursorNow)
def State.hostRecords (s : State) : Bool := s.flag Fld.HP_CFG_RECORDS && decide (max s.spi.cursor s.eg.taken < s.cursorNow)

/-- The event words with their level bit (R420). -/
def State.lathWord (s : State) : Word := setBits (s.reg Reg.LK_EVENT) 0 0 (bit s.lathRecords)
def State.hostWord (s : State) : Word := setBits (s.reg Reg.HP_IRQ_STATUS) 0 0 (bit s.hostRecords)

/-- HP_STATUS.POWER (Table 13.12). -/
def State.powerCode (s : State) : Nat := match s.power with
  | 0 | 1 => 0
  | n => n - 1

/-- HP_STATUS. -/
def State.hpStatus (s : State) : Word :=
  word ((s.reg Reg.HP_STATUS).toNat / 32 % 8 * 32 + s.fld Fld.SYS_BOOT_STATUS_PHASE + 4 * s.powerCode +
    bitAt 4 s.spi.req.isSome + 256 * (s.hostWord.toNat % 32768))

/-- CC_STATUS. -/
def State.ccStatus (s : State) : Word :=
  word ((List.range 4).foldl (fun v n =>
    v + bitAt n (s.core n).running + bitAt (4 + n) (s.wfiStalled n) + bitAt (8 + n) (s.core n).halted) 0)

/-- TF_TILE_STATUSt: a tagged task reads running until its partition's next deadline instant (R197); a tile without a task
that debug holds reads halted (log entry 27). -/
def State.tileStatus (s : State) (t : Nat) : Word :=
  let x := s.tile t
  let run := if x.statusHeld || (x.tag && x.busy) then 1 else match x.run with
    | .idle => if x.haltAfter then 2 else 0
    | .running => 1
    | .halted => 2
    | .scrubbing => 3
  word (run + bitAt 2 (x.tag || x.statusHeld) + 16 * (x.task.part % 4) + 65536 * (x.task.taskId % 65536))

/-- TF_CNT_VAL of a counter: VALUE reads zero and VALID 0 while the tag is set (R197, Table 6.22). -/
def State.cntWord (s : State) (t k : Nat) : Word :=
  let c := s.counter t k
  if c.tag then word 65536 else word (c.value % 65536 + 131072)

/-- SP_STATUS. -/
def State.spStatus (s : State) : Word :=
  let scrub := !s.sp.toScrub.isEmpty || !s.sp.ringRelease.isEmpty || (List.range 16).any (fun t => (s.tile t).run == .scrubbing)
  word (bitAt 0 s.sp.captured.isSome + bitAt 1 scrub + bitAt 2 (!s.sp.toReady.isEmpty) + bitAt 3 (s.flag Fld.SP_STATUS_BOOT_MAP))

/-- SP_XS_STATUS: the sweep, the port clock, which follows the detected VDDIO mode (R219), and the request-table entries in
use. -/
def State.xsStatus (s : State) : Word :=
  setBits (setBits (s.reg Reg.SP_XS_STATUS) 2 1 (bit s.sp.sweep.isSome + 2 * bit (s.pins.vddioMode == 2))) 24 16 s.spillPending

/-- Word `j` of key slot `k`'s digest; free where its fuses cannot be corrected (R537). -/
def State.keyDigest (s : State) (k j : Nat) : Word :=
  if s.fuses.keyBad.getD k false then Config.badFuse k j
  else match s.fuses.keys.getD k none with
    | none => 0
    | some d => (d >>> (32 * j)).setWidth 32

/-- A register of the FZ block that shows fuses (Table 17.14). -/
def State.fzWord (s : State) (o : Nat) : Option Word :=
  let f := s.fuses
  if o = 0x04 then
    some (word (bitAt 0 f.pseudo.isSome + bitAt 1 f.pixOff +
      bitAt 2 (f.pseudoBad || (List.range 4).any (fun k => f.keyBad.getD k false))))
  else if o = 0x08 then some (word f.arb)
  else if o = 0x0C then some (word s.keyState)
  else if o = 0x10 then some f.policy
  else if 0x14 ≤ o ∧ o ≤ 0x20 then some (f.trims.getD ((o - 0x14) / 4) 0)
  else if 0x40 ≤ o ∧ o < 0xC0 then some (s.keyDigest ((o - 0x40) / 32) ((o - 0x40) % 32 / 4))
  else none

/-- A register whose value follows the state. -/
def State.liveReg (s : State) (a : Nat) : Option Word :=
  if a = Reg.DS_WIN_USED then some (word s.windowUsed)
  else if a = Reg.PX_STATUS then some (if s.inService then s.reg a else setBits (s.reg a) 1 0 3)
  else if a = Reg.TF_SUP_STATUS then some (setBits (s.reg a) 19 19 (bit (s.fld Fld.TF_SUP_STATUS_REQ == s.vFloor)))
  else if a = Reg.TF_CNT_VAL then some (s.cntWord (s.fld Fld.TF_CNT_SEL_TILE) (s.fld Fld.TF_CNT_SEL_COUNTER))
  else if Reg.TF_TILE_STATUS 0 ≤ a ∧ a < Reg.TF_TILE_STATUS 16 ∧ a % 4 = 0 then some (s.tileStatus ((a - Reg.TF_TILE_STATUS 0) / 4))
  else if a = Reg.SP_STATUS then some s.spStatus
  else if a = Reg.SP_XS_STATUS then some s.xsStatus
  else if a = Reg.CC_STATUS then some s.ccStatus
  else if a / 0x10000 = 0x1005 ∧ 0xC0 ≤ a % 0x10000 ∧ a % 0x10000 < 0xE0 ∧ a % 4 = 0 then
    let c := (s.core ((a % 0x10000 - 0xC0) / 8)).wrongPath
    some (if a % 8 = 0 then loWord c else hiWord c)
  else if a = Reg.EG_QUEUE_STATUS then some (word (queueBytes s.eg.queue + bitAt 20 (!s.eg.queue.isEmpty)))
  else if a = Reg.LK_EVENT then some s.lathWord
  else if a = Reg.HP_STATUS then some s.hpStatus
  else if a = Reg.HP_IRQ_STATUS then some s.hostWord
  else if a = Reg.TM_PLUMB_LO then some (loWord s.plumbNs)
  else if a = Reg.TM_PLUMB_HI then some (hiWord s.plumbNs)
  else if a = Reg.TM_LOCAL_LO then some (loWord s.localNs)
  else if a = Reg.TM_LOCAL_HI then some (hiWord s.localNs)
  else if a = Reg.TM_RTC_SUBSEC then some s.subsec
  else if 0x100E8000 ≤ a ∧ a < 0x100E9000 then some (word (le (s.mbRead (a - 0x100E8000) 4) 0 4))
  else if 0x10071000 ≤ a ∧ a < 0x10072000 then some (word (le (Sparse.gets csBufDefault s.pk.buf (a - 0x10071000) 4) 0 4))
  else if a / 0x10000 = 0x100F then s.fzWord (a % 0x10000)
  else none

/-- What a 32-bit read of a register returns; write-only fields read 0. -/
def State.readReg (s : State) (a : Nat) : Word :=
  match s.liveReg a with
  | some w => w
  | none => match RegMap.find a with
    | none => 0
    | some r => s.reg a &&& ~~~(word r.wo)

end Sys2Proof.Machine
end

