-- ==== Sys2Proof/Machine/Link.lean ====
section
/-! DEFINITION. The Lath link: frames, what a node takes, forwards and sends, its ports and neighbours, addressing,
path delay and wake (R397 to R414, R425 to R430, R443, R444). -/

namespace Sys2Proof.Machine

/-! ## Frames (R400, Table 13.4) -/

/-- FLAGS bits. -/
def flagRetry : Nat := 1
def flagAttn : Nat := 2
def flagResp : Nat := 4

/-- The bytes of a frame from header to CRC. -/
def frameOf (dst src type flags seq ack stat info : Nat) (payload : List Byte) : List Byte :=
  let b := toLe 1 dst ++ toLe 1 src ++ toLe 1 type ++ toLe 1 flags ++ toLe 2 seq ++ toLe 2 ack ++
    toLe 2 payload.length ++ toLe 2 stat ++ toLe 2 info ++ payload
  b ++ toLe 4 (crc32 b).toNat

/-- Payload bytes LEN announces. -/
def frameLen (b : List Byte) : Nat := le b 8 2

/-- The payload. -/
def framePayload (b : List Byte) : List Byte := slice b 14 (frameLen b)

/-- Does a frame arrive whole: length, CRC, no code error and EOF (R400)? -/
def rxGood (f : RxFrame) : Bool :=
  !f.codeError && !f.eofBad && decide (frameLen f.bytes ≤ 256) && f.bytes.length == 18 + frameLen f.bytes &&
    (crc32 (f.bytes.take (14 + frameLen f.bytes))).toNat == le f.bytes (14 + frameLen f.bytes) 4

/-- 40 ns ticks a frame lasts: each code group 80 ns, SOF and EOF beside its bytes. -/
def frameTicks (b : List Byte) : Nat := 2 * (b.length + 2)

/-- Is a field of a request that must be zero non-zero: FLAGS [7:3] and ATTN, ACK, STAT, INFO? -/
def requestReserved (b : List Byte) : Bool :=
  le b 3 1 / 8 != 0 || le b 3 1 / 2 % 2 != 0 || le b 6 2 != 0 || le b 10 2 != 0 || le b 12 2 != 0

/-- The node's address. -/
def State.addr (s : State) : Nat := s.fld Fld.LK_STATUS_ADDR

/-- FLAGS of a response. -/
def State.respFlags (s : State) : Nat := flagResp + (if s.lathWord &&& s.reg Reg.LK_ATTN_EN == 0 then 0 else flagAttn)

/-- The next SEQ of the node, used up. -/
def State.txSeq (s : State) : Nat × State := (s.fld Fld.LK_TX_SEQ_SEQ, s.incWrap Fld.LK_TX_SEQ_SEQ 1)

/-! ## The upward buffers (R404) -/

/-- Own frames move into the buffers while there is room. -/
def State.pumpUp (s : State) : State :=
  match s.link.waiting with
  | [] => s
  | w :: ws => if s.link.up.length < 2 then { s with link := { s.link with up := s.link.up ++ [w], waiting := ws } } else s

/-- Send an own frame upward; while the port is closed its drivers are off, and the frame is lost (R69). -/
def State.sendUp (s : State) (b : List Byte) (own : Bool) (power : Option Nat) : State :=
  if s.fld Fld.LK_STATUS_U_STATE = portClosed then s
  else
  let w : UpFrame := { bytes := b, ticks := frameTicks b, own := own, power := power }
  { s with link := { s.link with waiting := s.link.waiting ++ [w] } }.pumpUp

/-- Has the node a request in hand, or a response that has not left (R402, R429)? -/
def State.answering (s : State) : Bool :=
  s.link.req.isSome || s.link.waiting.any (·.own) || s.link.up.any (·.own)

/-- Send a response and keep a copy of it (R401). -/
def State.lathRespond (s : State) (r : HostReq) (stat info : Nat) (payload : List Byte) (power : Option Nat) : State :=
  let t := s.txSeq
  let b := frameOf 0 s.addr r.type s.respFlags t.1 r.seq stat info payload
  ({ t.2 with link := { t.2.link with req := none, stored := some (r.seq, b) } }).sendUp b true power

/-- Send the stored response again, with FLAGS.RETRY set. -/
def State.replay (s : State) (b : List Byte) : State :=
  let h := b.take 3 ++ [b.getD 3 0 ||| 1] ++ slice b 4 (10 + frameLen b)
  (s.incSat Fld.LK_REPLAY_CNT_COUNT 1).sendUp (h ++ toLe 4 (crc32 h).toNat) true none

/-- 40 ns of the upward buffers: the frame leaving ends, a state request goes to the power controller (R495), and the
next one starts. -/
def State.tickUp (s : State) : State :=
  match s.link.up with
  | [] => s
  | f :: fs =>
    if 1 < f.ticks then { s with link := { s.link with up := ({ f with ticks := f.ticks - 1 } : UpFrame) :: fs } }
    else
      let s := { s with link := { s.link with up := fs, lastU := some (.frame f.bytes f.bad) } }.pumpUp
      match f.power with
      | none => s
      | some n => s.powerReq n 1

/-- 40 ns of the D port: a forwarded frame ends, and a wake pattern that waits follows it (R430). -/
def State.tickDown (s : State) : State :=
  if s.link.downBusy = 0 then s
  else
    let s := { s with link := { s.link with downBusy := s.link.downBusy - 1 } }
    match s.link.wakeWaits with
    | none => s
    | some t =>
      if s.link.downBusy = 0 then { s with link := { s.link with wakeWaits := none, lastD := some (.wake t) } } else s

/-- 40 ns of the link. -/
def State.tickLink (s : State) : State := s.tickUp.tickDown

/-! ## Reception -/

/-- Raise a code at most once per second of local time, and keep when. -/
def State.lkDue (s : State) (last : Option (BitVec 64)) : Bool :=
  match last with
  | none => true
  | some t => decide (oneSecond ≤ (s.localNs - t).toNat)

/-- A frame that is not whole is counted at its port, and LK_CRC is raised (R400, R434). -/
def State.crcError (s : State) (p : Port) : State :=
  let s := s.incSat (match p with
    | .u => Fld.LK_CRC_CNT_U
    | .d => Fld.LK_CRC_CNT_D) 1
  if s.lkDue s.link.crcRaised then
    { s with link := { s.link with crcRaised := some s.localNs } }.raiseLk 0x0902
  else s

/-- Code errors are counted per port. -/
def State.codeErrors (s : State) (p : Port) (b : Bool) : State :=
  if b then s.incSat (match p with
    | .u => Fld.LK_CODE_CNT_U
    | .d => Fld.LK_CODE_CNT_D) 1
  else s

/-- Forward a frame on D (R403). -/
def State.forwardDown (s : State) (b : List Byte) (bad : Bool) : State :=
  if s.portUp .d then
    { s with link := { s.link with lastD := some (.frame b bad), downBusy := frameTicks b } }
  else s

/-- A SYNC is taken: Plumb and local time of its arrival and PATH as it is valid now; one that is malformed is counted
(R445, R452). -/
def State.takeSync (s : State) (p : List Byte) : State :=
  if p.length = 16 ∧ allZero p 10 6 then
    { s with time := { s.time with rxSync := some {
        tTx := BitVec.ofNat 64 (le p 0 8)
        interval := le p 8 2
        plumbAt := s.plumbNs
        localAt := s.localNs
        path := if s.flag Fld.TM_STATUS_PATH_VALID then some (s.fld Fld.TM_PATH_NS_NS) else none } } }
  else s.incSat Fld.TM_SYNC_MISS_COUNT 1

/-- A link-local frame on the U port: a DELAY response (R443). -/
def State.takeLocalU (s : State) (b : List Byte) : State :=
  let p := framePayload b
  if 0x40 < le b 1 1 ∨ le b 3 1 / 8 ≠ 0 then s.raiseLk 0x0905
  else if le b 2 1 = 0x13 ∧ le b 3 1 / 4 % 2 = 1 ∧ p.length = 16 ∧ le p 0 1 = 1 then
    { s with time := { s.time with rxDelay := some {
        flags := le p 1 1, fwd := le p 2 2, turn := le p 4 4, path := le p 8 4, t4 := s.localNs } } }
  else s

/-- A broadcast: SYNC and ENUMERATE; no other TYPE may be broadcast. -/
def State.takeBroadcast (s : State) (b : List Byte) : State :=
  let p := framePayload b
  match le b 2 1 with
  | 0x10 => s.takeSync p
  | 0x11 => if p.length = 2 then { s with link := { s.link with enumReq := some (le p 0 1, le p 1 1, le b 4 2) } }
      else s.raiseLk 0x0905
  | _ => s.raiseLk 0x0905

/-- Is TYPE an operation that a request may name (Table 13.5)? -/
def hostType (t : Nat) : Bool :=
  [0x01, 0x02, 0x03, 0x08, 0x09, 0x0A, 0x18, 0x20, 0x21, 0x22, 0x23, 0x28, 0x29, 0x30].contains t

/-- A request to the node (R401, R402): replayed, dropped while one is in hand, answered HP_FORMAT for an unknown TYPE, or
taken. -/
def State.takeRequest (s : State) (b : List Byte) : State :=
  let r : HostReq := { type := le b 2 1, seq := le b 4 2, retry := le b 3 1 % 2 == 1, payload := framePayload b }
  let again := match s.link.stored with
    | some (q, resp) => if r.retry && q == r.seq then some resp else none
    | none => none
  if s.answering then (s.incSat Fld.LK_DROP_CNT_RX_DROP 1).raiseLk 0x0906
  else match again with
    | some resp => s.replay resp
    | none =>
      if hostType r.type then { s with link := { s.link with req := some r } }
      else (s.raiseHp 0x0A02).lathRespond r 0x0A02 0 [] none

/-- A whole frame on the U port that the node takes, checked (R400). -/
def State.takeU (s : State) (b : List Byte) : State :=
  let dst := le b 0 1
  if dst = 0xFE then s.takeLocalU b
  else if 0x41 ≤ dst ∧ dst ≠ 0xFF then s.raiseLk 0x0905
  else if dst = 0xFF ∨ (dst = s.addr ∧ dst ≠ 0) then
    if le b 1 1 ≠ 0 ∨ le b 3 1 / 4 % 2 = 1 ∨ requestReserved b then s.raiseLk 0x0905
    else if dst = 0xFF then s.takeBroadcast b else s.takeRequest b
  else s

/-- LATH_FRAME_RX_U (R403, R405). -/
def State.frameU (s : State) (f : RxFrame) : State :=
  if !s.portUp .u then s
  else
    let s := s.codeErrors .u f.codeError
    let dst := le f.bytes 0 1
    let forwards := !(dst == s.addr && dst != 0) && dst != 0xFE && le f.bytes 2 1 != 0x11
    let s := if forwards then s.forwardDown f.bytes (!rxGood f) else s
    if rxGood f then s.takeU f.bytes else s.crcError .u

/-- A link-local frame on the D port: a DELAY request (R444). -/
def State.takeLocalD (s : State) (b : List Byte) : State :=
  let p := framePayload b
  if 0x40 < le b 1 1 ∨ le b 3 1 / 8 ≠ 0 ∨ (le b 3 1 / 4 % 2 = 0 ∧ requestReserved b) then s.raiseLk 0x0905
  else if le b 2 1 = 0x13 ∧ le b 3 1 / 4 % 2 = 0 ∧ p.length = 16 ∧ le p 0 1 = 0 then
    { s with link := { s.link with delayReq := some (le b 4 2) } }
  else s

/-- LATH_FRAME_RX_D (R404): forwarded through the two-frame buffer, or discarded with LK_FWD_OVF. -/
def State.frameD (s : State) (f : RxFrame) : State :=
  if !s.portUp .d then s
  else
    let s := s.codeErrors .d f.codeError
    let s := if rxGood f then s else s.crcError .d
    if le f.bytes 0 1 = 0xFE then (if rxGood f then s.takeLocalD f.bytes else s)
    else if !s.portUp .u then s
    else if s.link.up.length < 2 then
      { s with link := { s.link with
          up := s.link.up ++ [{ bytes := f.bytes, ticks := frameTicks f.bytes, bad := !rxGood f }] } }
    else
      let s := s.incSat Fld.LK_DROP_CNT_FWD_OVF 1
      if s.lkDue s.link.ovfRaised then
        { s with link := { s.link with ovfRaised := some s.localNs } }.raiseLk 0x0904
      else s

/-! ## Ports and heartbeats (R397 to R399, R410 to R412) -/

/-- PORT_OPEN with the measured LK_REXT in 10 Ω units: 4.50 to 5.50 kΩ is accepted (Table 2.13). -/
def State.portOpen (s : State) (ohms : Nat) : State :=
  if !(s.link.opening && s.mayOpen) then s
  else
    let s := ({ s with link := { s.link with opening := false } }).setFld Fld.LK_REXT_OHMS ohms
    if 450 ≤ ohms ∧ ohms ≤ 550 then
      ((s.setFlag Fld.LK_STATUS_REXT_FAIL false).setFld Fld.LK_STATUS_U_STATE portTraining).setFld
        Fld.LK_STATUS_D_STATE portTraining
    else (s.setFlag Fld.LK_STATUS_REXT_FAIL true).raiseLk 0x0901

/-- HEARTBEAT_SEND: an open port sends its address, while no frame occupies it (R397, R403). -/
def State.heartbeatSend (s : State) (p : Port) : State :=
  if s.fld (portFld p) = portClosed then s
  else match p with
    | .u => if s.link.up.isEmpty then { s with link := { s.link with lastU := some (.heartbeat s.addr) } } else s
    | .d => if s.link.downBusy = 0 then { s with link := { s.link with lastD := some (.heartbeat s.addr) } } else s

/-- The port's neighbour is another one. -/
def State.changed (s : State) (p : Port) : State :=
  match p with
  | .u => { (s.linkEvent 10).setFlag Fld.TM_STATUS_PATH_VALID false with time := { s.time with delayDue := true } }
  | .d => s.linkEvent 11

/-- Valid heartbeats in a row of a port in training, and the neighbour it had when it was lost. -/
def State.train (s : State) (p : Port) : Nat × Option Nat :=
  match p with
  | .u => (s.link.trainU, s.link.knownU)
  | .d => (s.link.trainD, s.link.knownD)
def State.setTrain (s : State) (p : Port) (n : Nat) (known : Option Nat) : State :=
  match p with
  | .u => { s with link := { s.link with trainU := n, knownU := known } }
  | .d => { s with link := { s.link with trainD := n, knownD := known } }

/-- The second valid heartbeat in a row brings a port up; the neighbour is another one than before a loss where the
address differs (R398, R411). -/
def State.comesUp (s : State) (p : Port) (a : Nat) : State :=
  let known := (s.train p).2
  let s := (s.setFld (portFld p) Machine.portUp).setTrain p 0 none
  let s := if p = .u then { s with time := { s.time with delayDue := true } } else s
  if known.isSome && known != some a then s.changed p else s

/-- A valid heartbeat with a neighbour address. -/
def State.heartbeat (s : State) (p : Port) (a : Nat) : State :=
  let t := s.train p
  let s := if s.portUp p then (if s.fld (nbrFld p) = a then s else s.changed p)
    else if 2 ≤ t.1 + 1 then s.comesUp p a
    else s.setTrain p (t.1 + 1) t.2
  let s := s.setFld (nbrFld p) a
  if p = .d ∧ a = 0 then s.linkEvent 12 else s

/-- HEARTBEAT_RECEIVE: the address byte and the byte that must be its complement (R398). -/
def State.heartbeatReceive (s : State) (p : Port) (a c : Byte) (codeError : Bool) : State :=
  if s.fld (portFld p) = portClosed then s
  else
    let s := s.codeErrors p codeError
    if !codeError && c == ~~~a then s.heartbeat p a.toNat
    else if s.portUp p then s else s.setTrain p 0 (s.train p).2

/-- PORT_LOST: an UP port without a valid heartbeat for 3.0 ms; it retrains at once. -/
def State.portLost (s : State) (p : Port) : State :=
  if !s.portUp p then s
  else
    let s := ((s.linkEvent (match p with
      | .u => 8
      | .d => 9)).setFld (portFld p) portTraining).raiseLk 0x0903
    let s := s.setTrain p 0 (some (s.fld (nbrFld p)))
    if p = .u then s.setFlag Fld.TM_STATUS_PATH_VALID false else s

/-! ## Enumeration (R408, R409) -/

/-- What a node makes of COUNT: its address, the new COUNT and FLAGS. -/
def State.enumOutcome (s : State) (count flags : Nat) : Nat × Nat × Nat :=
  let fixed := s.flag Fld.LK_CFG_ADDR_MODE
  let f := s.fld Fld.LK_CFG_FIXED_ADDR
  if 64 ≤ count then (0, count, flags ||| 2)
  else if fixed && decide (count < f) then (f, f, flags)
  else (count + 1, count + 1, if fixed then flags ||| 1 else flags)

/-- ENUMERATE. -/
def State.enumerate (s : State) : State :=
  match s.link.enumReq with
  | none => s
  | some (count, flags, seq) =>
    let o := s.enumOutcome count flags
    let s := { s with link := { s.link with enumReq := none } }.setFld Fld.LK_STATUS_ADDR o.1
    let s := if o.1 = 0 then s.raiseLk 0x0908 else s.linkEvent 13
    let s := if s.flag Fld.LK_CFG_ADDR_MODE && decide (s.fld Fld.LK_CFG_FIXED_ADDR ≤ count) && decide (count < 64) then
        (s.linkEvent 14).raiseLk 0x0907
      else s
    let p := toLe 1 o.2.1 ++ toLe 1 o.2.2
    if s.portUp .d then (s.setFlag Fld.LK_STATUS_CHAIN_END false).forwardDown (frameOf 0xFF 0 0x11 0 seq 0 0 0 p) false
    else
      let t := (s.setFlag Fld.LK_STATUS_CHAIN_END true).txSeq
      t.2.sendUp (frameOf 0 t.2.addr 0x12 t.2.respFlags t.1 seq 0 0 p) false none

/-! ## Path delay (R443, R444) -/

/-- DELAY: a request from the D port is answered there, with TURN and FWD as measured in ns. -/
def State.delayAnswer (s : State) (turn fwd : Nat) : State :=
  match s.link.delayReq with
  | none => s
  | some q =>
    if !s.portUp .d ∨ s.link.downBusy ≠ 0 then s
    else
      let t := s.txSeq
      let valid := bit (s.flag Fld.TM_STATUS_PATH_VALID)
      let p := toLe 1 1 ++ toLe 1 (2 * valid) ++ toLe 2 fwd ++ toLe 4 turn ++ toLe 4 (s.fld Fld.TM_PATH_NS_NS) ++ toLe 4 0
      { t.2 with link := { t.2.link with
          delayReq := none, lastD := some (.frame (frameOf 0xFE s.addr 0x13 flagResp t.1 q 0 0 p) false) } }

/-- DELAY_MEASURE_START: a request leaves on U, and t1 is taken. -/
def State.delayStart (s : State) : State :=
  if !s.portUp .u ∨ !s.link.up.isEmpty then s
  else
    let t := s.txSeq
    { t.2 with
      time := { t.2.time with delayDue := false, delayT1 := some s.localNs }
      link := { t.2.link with lastU := some (.frame (frameOf 0xFE s.addr 0x13 0 t.1 0 0 0 (toLe 16 0)) false) } }

/-- A measurement failed: it is due again, and the eighth failure in a row raises TM_PATH. -/
def State.delayFailed (s : State) : State :=
  let n := s.time.delayFails + 1
  let s := { s with time := { s.time with delayT1 := none, rxDelay := none, delayDue := true, delayFails := if n = 8 then 0 else n } }
  if n = 8 then s.raiseTm 0x0B04 else s

/-- DELAY_RESPONSE: d and PATH from the response taken, or a failure. -/
def State.delayResponse (s : State) : State :=
  match s.time.rxDelay, s.time.delayT1 with
  | some r, some t1 =>
    let x : Int := ((r.t4 - t1).toNat : Int) - r.turn
    let d := (x + 1) / 2
    if 20000 < r.turn ∨ d < 0 ∨ 600 < d ∨ r.flags / 2 % 2 = 0 then s.delayFailed
    else
      let head := r.flags % 2 == 1
      let path := (if head then 0 else r.path + r.fwd) + d.toNat
      let s := { s with time := { s.time with delayT1 := none, rxDelay := none, delayFails := 0 } }
      ((s.setFld Fld.TM_PATH_NS_NS path).setFld Fld.TM_LINK_DELAY_NS d.toNat).setFlag Fld.TM_STATUS_PATH_VALID true
  | _, _ => s

/-- DELAY_TIMEOUT: no response within 100 µs. -/
def State.delayTimeout (s : State) : State := if s.time.delayT1.isSome then s.delayFailed else s

/-! ## Wake (R413, R414, R430, R520) -/

/-- WAKE_PATTERN: a whole pattern on the U side, for this node or for all, raises a wake request; a node that does not
doze forwards it, after a frame that is leaving D. -/
def State.wakePattern (s : State) (target : Nat) (codeError : Bool) : State :=
  if codeError ∨ (s.power < 3 ∧ s.fld Fld.LK_STATUS_U_STATE = portClosed) then s
  else
    let s := if (target = s.addr ∧ target ≠ 0) ∨ target = 0xFF then s.wakeFrom 0 0 else s
    if 3 ≤ s.power ∨ !s.portUp .d then s
    else if s.link.downBusy = 0 then { s with link := { s.link with lastD := some (.wake target) } }
    else { s with link := { s.link with wakeWaits := some target } }

/-! ## Meanings -/

def execPortOpen (ohms : Nat) (s : State) : Host.Outcome State Fault Refusal := .next (s.portOpen ohms)
def execHeartbeatSend (p : Port) (s : State) : Host.Outcome State Fault Refusal := .next (s.heartbeatSend p)
def execHeartbeatReceive (p : Port) (a c : Byte) (codeError : Bool) (s : State) : Host.Outcome State Fault Refusal :=
  .next (s.heartbeatReceive p a c codeError)
def execPortLost (p : Port) (s : State) : Host.Outcome State Fault Refusal := .next (s.portLost p)
def execLathFrameRxU (f : RxFrame) (s : State) : Host.Outcome State Fault Refusal := .next (s.frameU f)
def execLathFrameRxD (f : RxFrame) (s : State) : Host.Outcome State Fault Refusal := .next (s.frameD f)
def execEnumerate (s : State) : Host.Outcome State Fault Refusal := .next s.enumerate
def execDelay (turn fwd : Nat) (s : State) : Host.Outcome State Fault Refusal := .next (s.delayAnswer turn fwd)
def execDelayMeasureStart (s : State) : Host.Outcome State Fault Refusal := .next s.delayStart
def execDelayResponse (s : State) : Host.Outcome State Fault Refusal := .next s.delayResponse
def execDelayTimeout (s : State) : Host.Outcome State Fault Refusal := .next s.delayTimeout
def execWakePattern (target : Nat) (codeError : Bool) (s : State) : Host.Outcome State Fault Refusal :=
  .next (s.wakePattern target codeError)
def execLinkEnergyWake (s : State) : Host.Outcome State Fault Refusal := .next (s.wakeFrom 1 0)

end Sys2Proof.Machine
end

