-- ==== Sys2Proof/Machine/Router.lean ====
section
/-! DEFINITION. Accesses to the whole address map: writes to registers by requester, and reads and writes of bytes with
every check an access meets (R7, R124, R125, R131, R213, R229, R288, R298, R540). -/

namespace Sys2Proof.Machine

/-! ## Control-core resets -/

/-- A write to CC_CTRL: each bit resets one core. A core that resets itself does so at the end of its command. -/
def State.coreReset (s : State) (r : Requester) (v : Word) : State :=
  (List.range 4).foldl (fun (s : State) n =>
    if tstBit v n then
      let s := s.setCore n { s.core n with resetDue := true }
      if r = .core n then s else s.settleReset n
    else s) s

/-! ## CC_IRQ_PEND -/

/-- A write to CC_IRQ_PEND: bits written 1 clear; an ASYNC bit clears its core's CC_ASYNC registers (R298); a source
that still stands sets its bit again (R456, R490). -/
def State.irqPendClear (s : State) (v : Word) : State :=
  let s := s.wakeWfi
  let s := s.setReg Reg.CC_IRQ_PEND (s.reg Reg.CC_IRQ_PEND &&& ~~~v)
  let s := (List.range 4).foldl (fun (s : State) n =>
    if tstBit v n then (s.setReg (Reg.CC_ASYNC_CODE n) 0).setReg (Reg.CC_ASYNC_ADDR n) 0 else s) s
  let s := if s.reg Reg.TM_ERR_STATUS = 0 ∧ s.reg Reg.TM_EVENT = 0 then s else s.pend 13
  if s.reg Reg.AX_ERR_STATUS = 0 ∧ s.reg Reg.AX_EVENT &&& s.reg Reg.AX_IRQ_EN = 0 then s else s.pend 14

/-! ## Register writes -/

/-- Offset of a register in its block. -/
def regOff (a : Nat) : Nat := a % 0x10000

/-- DS (Table 1.12 to 1.15): only the management core may write DS_LC_CMD and DS_LC_TOKEN. -/
def State.dsWrite (s : State) (r : Requester) (a : Nat) (v : Word) : State :=
  if a = Reg.DS_LC_CMD then s.lcWrite r v
  else if Reg.DS_LC_TOKEN 0 ≤ a ∧ a < Reg.DS_LC_TOKEN 16 then
    (if r = .mgmt then s.plainWrite a v else s.raiseDs 0x010A r a)
  else if a = Reg.DS_TAG_QUERY then s.tagQuery v
  else if a = Reg.DS_CTRL then (if tstBit v 0 then s.setReg Reg.DS_VIOL_CNT 0 else s)
  else if a = Reg.DS_DIG_CTRL then s.digestStart r v
  else s.cfgWrite a v

/-- PK: the commands in the order of their bits, and the change-set buffer. -/
def State.pkWrite (s : State) (r : Requester) (a : Nat) (v : Word) : State :=
  if a = Reg.PK_CS_CTRL then
    let s := if tstBit v 0 then (s.csOpen r).2 else s
    let s := if tstBit v 1 then (s.csSubmit r).2 else s
    if tstBit v 2 then (s.csAbort r).2 else s
  else if 0x1000 ≤ regOff a ∧ regOff a < 0x2000 then (s.csWrite r (regOff a - 0x1000) (toLe 4 v.toNat)).2
  else s.plainWrite a v

/-- TM: the commands of TM_CTRL in the order of their bits. -/
def State.tmWrite (s : State) (a : Nat) (v : Word) : State :=
  if a = Reg.TM_CTRL then
    let s := if tstBit v 0 then s.capture else s
    let s := if tstBit v 1 then s.rtcSet else s
    if tstBit v 2 then { s with time := { s.time with delayDue := true } } else s
  else s.plainWrite a v

/-- AX: the commands of AX_CTRL in the order of their bits. -/
def State.axWrite (s : State) (a : Nat) (v : Word) : State :=
  if a = Reg.AX_CTRL then
    let s := if tstBit v 0 then s.axStart else s
    let s := if tstBit v 1 then s.axSelfcal else s
    let s := if tstBit v 2 then s.axSyscal (bits v 11 8) false else s
    if tstBit v 3 then s.axSyscal (bits v 11 8) true else s
  else s.cfgWrite a v

/-- PW: control cores write PW_VETO only, and only the management core PW_REQ. -/
def State.pwWrite (s : State) (r : Requester) (a : Nat) (v : Word) : State :=
  let core := match r with
    | .core _ => true
    | _ => false
  if core && a != Reg.PW_VETO then s
  else if a = Reg.PW_REQ then (if r = .mgmt then s.powerReq (bits v 2 0) 3 else s)
  else s.cfgWrite a v

/-- MG: the mailbox, the watchdog kick, and MG_NVM_CFG for the management core only. -/
def State.mgWrite (s : State) (r : Requester) (a : Nat) (v : Word) : State :=
  if 0x8000 ≤ regOff a ∧ regOff a < 0x9000 then s.mbWrite r (regOff a - 0x8000) (toLe 4 v.toNat)
  else if a = Reg.MG_WDT_KICK then s.mgWdtKick r v
  else if a = Reg.MG_NVM_CFG ∧ r ≠ .mgmt ∧ r ≠ .debug then s
  else s.plainWrite a v

/-- FZ: fuse programs and their arguments, for the requesters that may issue them. -/
def State.fzWrite (s : State) (r : Requester) (a : Nat) (v : Word) : State :=
  let o := regOff a
  if a = Reg.FZ_PROG_CMD then s.fzCmd r (bits v 3 0) (bits v 5 4)
  else if o = 0x104 ∨ (0x200 ≤ o ∧ o < 0x260) then (if s.fzWriter r then s.plainWrite a v else s)
  else s.plainWrite a v

/-- A 32-bit write to a register by a requester that reaches it. -/
def State.regWrite (s : State) (r : Requester) (a : Nat) (v : Word) : State :=
  match a / 0x10000 with
  | 0x1000 =>
    if a = Reg.SYS_SWRESET then s.softReset r v
    else if a = Reg.SYS_WDT_CTRL then s.wdtWrite v
    else if a = Reg.SYS_WDT_KICK then s.wdtKick v
    else s.plainWrite a v
  | 0x1001 => s.dsWrite r a v
  | 0x1002 =>
    if a = Reg.PX_RING_HOLD_LO then s.holdRelease false v
    else if a = Reg.PX_RING_HOLD_HI then s.holdRelease true v
    else s.cfgWrite a v
  | 0x1004 => if a = Reg.SP_CTRL then (if tstBit v 0 then s.spApply r else s) else s.cfgWrite a v
  | 0x1005 =>
    if a = Reg.CC_CTRL then s.coreReset r v
    else if a = Reg.CC_IRQ_PEND then s.irqPendClear v
    else s.wakeWfi.plainWrite a v
  | 0x1007 => s.pkWrite r a v
  | 0x1008 =>
    if a = Reg.EG_OUT_CMD 0 then s.outCmd 0 v else if a = Reg.EG_OUT_CMD 1 then s.outCmd 1 v else s.cfgWrite a v
  | 0x1009 =>
    if a = Reg.LK_CFG then s.lkCfgWrite v else s.cfgWrite a v
  | 0x100A => if a = Reg.HP_CFG then s.hpCfgWrite v else s.plainWrite a v
  | 0x100B => s.tmWrite a v
  | 0x100C => s.axWrite a v
  | 0x100D => s.pwWrite r a v
  | 0x100E => s.mgWrite r a v
  | 0x100F => s.fzWrite r a v
  | _ => s.cfgWrite a v

/-! ## The debug port's reach (R540, Table 17.9) -/

/-- Does Table 17.9 refuse the debug port an access at an address? -/
def State.debugRefused (s : State) (write : Bool) (a : Nat) : Bool :=
  let lc := s.lifecycle
  let sram := regionOf a == some 2
  let mbox := decide (0x100E8000 ≤ a) && decide (a < 0x100E9000)
  let fz := a == Reg.FZ_PROG_CMD || (decide (0x100F0200 ≤ a) && decide (a < 0x100F0260))
  let nvm := a == Reg.MG_NVM_CFG
  match lc with
  | 0 => false
  | 1 => (sram && write) || mbox || fz || nvm
  | 3 => sram || mbox || fz || nvm
  | _ => fz || ((sram || mbox || nvm) && !s.ds.eraseVerified)

/-! ## Accesses -/

/-- The 32-bit words of cluster SRAM that `n` bytes from `a` touch. -/
def wordsTouched (a n : Nat) : List Nat := (List.range (n / 4 + 2)).filterMap (fun i =>
  if 4 * (a / 4 + i) < a + n then some (4 * (a / 4 + i)) else none)

/-- Does an access meet an uncorrectable word of cluster SRAM: a read of any, a write of part of one (Table 9.8)? -/
def State.sramUe (s : State) (write : Bool) (a n : Nat) : Bool :=
  inSram a && (wordsTouched a n).any (fun w =>
    Sparse.get (fun _ => EccError.single) s.sramEcc w == .double && !(write && decide (a ≤ w) && decide (w + 4 ≤ a + n)))

/-- The code an access of `n` bytes fails with, in the order the checks are met. -/
def State.busCode (s : State) (r : Requester) (k : AccKind) (m : Met) (a n : Nat) : Option Nat :=
  match s.accessCode r k m a n with
  | some c => some c
  | none =>
    if r = .debug ∧ s.debugRefused (k == .write) a then some 0x0E0D
    else if s.sramUe (k == .write) a n then some 0x0505 else none

/-- Raise the code of a failed access. -/
def State.raiseBus (s : State) (code : Nat) (r : Requester) (a : Nat) : State :=
  if code = 0x0E0D then s.raiseMgLog code (word a)
  else if code = 0x0505 then
    match r with
    | .core n => s.raiseCc code n a
    | _ => (s.raiseBits Reg.CC_ERR_STATUS Reg.CC_ERR_CODE code).logDefault (srcCode r) code (word a)
  else if code = 0x0401 then (s.incSat Fld.SP_CONFLICT_CNT_COUNT 1).raiseAccess code r a
  else s.raiseAccess code r a

/-- Count the errors that a read corrected (R229, Table 9.10). -/
def State.countCorrected (s : State) (a n : Nat) : State :=
  if inScratch a then s.countEcc a n
  else if inSram a then
    s.incSat Fld.CC_ECC_CNT_COUNT (s.sramEcc.filter (fun e => e.2 == .single && (wordsTouched a n).contains e.1)).length
  else s

/-- The bytes a read returns. -/
def State.busBytes (s : State) (a n : Nat) : List Byte :=
  if regionOf a = some 3 then toLe n (s.readReg a).toNat else s.loadBytes a n

/-- A read of `n` bytes: the bytes, or the code it failed with, raised. -/
def State.busRead (s : State) (r : Requester) (k : AccKind) (m : Met) (a n : Nat) : Except Nat (List Byte) × State :=
  let s := s.passScrub m a n
  match s.busCode r k m a n with
  | some c => (.error c, s.raiseBus c r a)
  | none => (.ok (s.busBytes a n), s.countCorrected a n)

/-- Words of cluster SRAM written whole take a new code. -/
def State.freshWords (s : State) (a n : Nat) : State :=
  if inSram a then
    { s with sramEcc := s.sramEcc.filter (fun e => !(decide (a ≤ e.1) && decide (e.1 + 4 ≤ a + n))) }
  else s

/-- Perform a write that has passed its checks; `own` is the control core whose store it is. -/
def State.busPerform (s : State) (r : Requester) (own : Option Nat) (a : Nat) (bs : List Byte) : State :=
  if regionOf a = some 3 then s.regWrite r a (word (le bs 0 4))
  else (s.freshWords a bs.length).storeSeen own a bs

/-- A write by a requester other than a control core: the code it failed with, raised, or none. A write to a held
granule waits (R288). -/
def State.busWrite (s : State) (r : Requester) (m : Met) (a : Nat) (bs : List Byte) : Option Nat × State :=
  let s := s.passScrub m a bs.length
  match s.busCode r .write m a bs.length with
  | some c => (some c, s.raiseBus c r a)
  | none =>
    if inSram a && s.granuleHeld none a bs.length then (none, { s with heldStores := s.heldStores ++ [(r, a, bs)] })
    else (none, s.busPerform r none a bs)

/-! ## Meanings -/

/-- REGISTER_WRITE: a 32-bit write to the register region by a requester, checked as every access. -/
def State.registerWrite (s : State) (r : Requester) (a v : Word) : State :=
  match s.busCode r .write .clean a.toNat 4 with
  | some c => s.raiseBus c r a.toNat
  | none =>
    if regionOf a.toNat = some 3 then
      let s := s.regWrite r a.toNat v
      match r with
      | .core n => s.settleReset n
      | _ => s
    else s

def execRegisterWrite (r : Requester) (a v : Word) (s : State) : Host.Outcome State Fault Refusal :=
  .next (s.registerWrite r a v)
def execCoreRst (v : Word) (s : State) : Host.Outcome State Fault Refusal := .next (s.coreReset .debug v)
def execCcIrqPendClear (v : Word) (s : State) : Host.Outcome State Fault Refusal := .next (s.irqPendClear v)

end Sys2Proof.Machine
end

