-- ==== Sys2Proof/Machine/Rv.lean ====
section
/-! DEFINITION. The RV32IMC instructions that have no command of their own, as the RISC-V manual that R263 names gives
them (PRESUMED, log entry 31): integer and multiply instructions, jumps and branches, in both lengths. -/

namespace Sys2Proof.Machine

/-- A decoded instruction. `own`: a load, store, FENCE, CSR, SYSTEM, A or Xcg instruction, which waits for its own
command. -/
inductive RvOp where
  | lui (rd : Nat) (imm : Word)
  | auipc (rd : Nat) (imm : Word)
  | jal (rd : Nat) (off : Word)
  | jalr (rd rs1 : Nat) (off : Word)
  | branch (f3 rs1 rs2 : Nat) (off : Word)
  | opImm (f3 : Nat) (alt : Bool) (rd rs1 : Nat) (imm : Word)
  | op (f3 : Nat) (alt : Bool) (rd rs1 rs2 : Nat)
  | muldiv (f3 rd rs1 rs2 : Nat)
  | own
deriving DecidableEq, Repr

/-- Bits [hi:lo] of an instruction. -/
def rvBits (w hi lo : Nat) : Nat := w / 2 ^ lo % 2 ^ (hi - lo + 1)

/-- The `n` bits of `v` extended with their sign to a word. -/
def rvSext (n v : Nat) : Word := BitVec.ofInt 32 (signed n v)

/-! ## Decoding of 32-bit instructions -/

/-- The offset of a J-type and of a B-type instruction. -/
def rvJOff (w : Nat) : Word :=
  rvSext 21 (rvBits w 31 31 * 2 ^ 20 + rvBits w 19 12 * 2 ^ 12 + rvBits w 20 20 * 2 ^ 11 + rvBits w 30 21 * 2)
def rvBOff (w : Nat) : Word :=
  rvSext 13 (rvBits w 31 31 * 2 ^ 12 + rvBits w 7 7 * 2 ^ 11 + rvBits w 30 25 * 2 ^ 5 + rvBits w 11 8 * 2)

/-- Is the word an A instruction (Table 9.3)? -/
def rvAmo (w : Nat) : Bool :=
  let f5 := rvBits w 31 27
  rvBits w 14 12 == 2 && ((f5 == 2 && rvBits w 24 20 == 0) || [3, 1, 0, 4, 0xC, 8, 0x10, 0x14, 0x18, 0x1C].contains f5)

/-- Is the word an Xcg instruction of Table 9.5? -/
def rvXcg (w : Nat) : Bool :=
  if rvBits w 6 0 = 0x2B then rvBits w 14 12 == 2
  else rvBits w 31 25 == 0 && match rvBits w 14 12 with
    | 0 => true
    | 1 => rvBits w 24 20 == 0
    | 2 => rvBits w 11 7 == 0
    | 3 => rvBits w 24 20 == 0
    | _ => false

/-- Is the word a SYSTEM instruction: ECALL, EBREAK, MRET, WFI or Zicsr? -/
def rvSystem (w : Nat) : Bool :=
  match rvBits w 14 12 with
  | 0 => w == 0x00000073 || w == 0x00100073 || w == 0x30200073 || w == 0x10500073
  | 4 => false
  | _ => true

/-- An OP instruction. -/
def rvOp (w rd rs1 rs2 f3 : Nat) : Option RvOp :=
  match rvBits w 31 25 with
  | 0 => some (.op f3 false rd rs1 rs2)
  | 1 => some (.muldiv f3 rd rs1 rs2)
  | 0x20 => if f3 = 0 ∨ f3 = 5 then some (.op f3 true rd rs1 rs2) else none
  | _ => none

/-- An OP-IMM instruction. -/
def rvOpImm (w rd rs1 f3 : Nat) : Option RvOp :=
  let f7 := rvBits w 31 25
  let shamt := word (rvBits w 24 20)
  match f3 with
  | 1 => if f7 = 0 then some (.opImm 1 false rd rs1 shamt) else none
  | 5 => if f7 = 0 then some (.opImm 5 false rd rs1 shamt)
         else if f7 = 0x20 then some (.opImm 5 true rd rs1 shamt) else none
  | _ => some (.opImm f3 false rd rs1 (rvSext 12 (rvBits w 31 20)))

/-- Decode a 32-bit instruction; none: an encoding outside Table 9.3. `full`: the core has A and Xcg. -/
def rvDecode32 (full : Bool) (w : Nat) : Option RvOp :=
  let rd := rvBits w 11 7
  let rs1 := rvBits w 19 15
  let rs2 := rvBits w 24 20
  let f3 := rvBits w 14 12
  match rvBits w 6 0 with
  | 0x37 => some (.lui rd (word (rvBits w 31 12 * 4096)))
  | 0x17 => some (.auipc rd (word (rvBits w 31 12 * 4096)))
  | 0x6F => some (.jal rd (rvJOff w))
  | 0x67 => if f3 = 0 then some (.jalr rd rs1 (rvSext 12 (rvBits w 31 20))) else none
  | 0x63 => if f3 = 2 ∨ f3 = 3 then none else some (.branch f3 rs1 rs2 (rvBOff w))
  | 0x13 => rvOpImm w rd rs1 f3
  | 0x33 => rvOp w rd rs1 rs2 f3
  | 0x03 => if [0, 1, 2, 4, 5].contains f3 then some .own else none
  | 0x23 => if f3 < 3 then some .own else none
  | 0x0F => if f3 < 2 then some .own else none
  | 0x73 => if rvSystem w then some .own else none
  | 0x2F => if full && rvAmo w then some .own else none
  | 0x0B => if full && rvXcg w then some .own else none
  | 0x2B => if full && rvXcg w then some .own else none
  | _ => none

/-! ## Decoding of 16-bit instructions -/

/-- The 6-bit immediate of CI instructions, and the offsets of CJ and CB instructions. -/
def rvcImm (h : Nat) : Word := rvSext 6 (rvBits h 12 12 * 32 + rvBits h 6 2)
def rvcJOff (h : Nat) : Word :=
  rvSext 12 (rvBits h 12 12 * 2 ^ 11 + rvBits h 8 8 * 2 ^ 10 + rvBits h 10 9 * 2 ^ 8 + rvBits h 6 6 * 2 ^ 7 +
    rvBits h 7 7 * 2 ^ 6 + rvBits h 2 2 * 2 ^ 5 + rvBits h 11 11 * 2 ^ 4 + rvBits h 5 3 * 2)
def rvcBOff (h : Nat) : Word :=
  rvSext 9 (rvBits h 12 12 * 2 ^ 8 + rvBits h 6 5 * 2 ^ 6 + rvBits h 2 2 * 2 ^ 5 + rvBits h 11 10 * 2 ^ 3 +
    rvBits h 4 3 * 2)

/-- Quadrant 0. -/
def rvcQ0 (h : Nat) : Option RvOp :=
  match rvBits h 15 13 with
  | 0 =>
    let imm := rvBits h 12 11 * 16 + rvBits h 10 7 * 64 + rvBits h 6 6 * 4 + rvBits h 5 5 * 8
    if imm = 0 then none else some (.opImm 0 false (8 + rvBits h 4 2) 2 (word imm))
  | 2 => some .own
  | 6 => some .own
  | _ => none

/-- The arithmetic of quadrant 1. -/
def rvcArith (h : Nat) : Option RvOp :=
  let rd := 8 + rvBits h 9 7
  let rs2 := 8 + rvBits h 4 2
  let short := rvBits h 12 12 == 0
  match rvBits h 11 10 with
  | 0 => if short then some (.opImm 5 false rd rd (word (rvBits h 6 2))) else none
  | 1 => if short then some (.opImm 5 true rd rd (word (rvBits h 6 2))) else none
  | 2 => some (.opImm 7 false rd rd (rvcImm h))
  | _ =>
    if !short then none
    else match rvBits h 6 5 with
      | 0 => some (.op 0 true rd rd rs2)
      | 1 => some (.op 4 false rd rd rs2)
      | 2 => some (.op 6 false rd rd rs2)
      | _ => some (.op 7 false rd rd rs2)

/-- Quadrant 1. -/
def rvcQ1 (h : Nat) : Option RvOp :=
  let rd := rvBits h 11 7
  match rvBits h 15 13 with
  | 0 => some (.opImm 0 false rd rd (rvcImm h))
  | 1 => some (.jal 1 (rvcJOff h))
  | 2 => some (.opImm 0 false rd 0 (rvcImm h))
  | 3 =>
    if rvcImm h = 0 then none
    else if rd = 2 then
      some (.opImm 0 false 2 2 (rvSext 10 (rvBits h 12 12 * 512 + rvBits h 4 3 * 128 + rvBits h 5 5 * 64 +
        rvBits h 2 2 * 32 + rvBits h 6 6 * 16)))
    else some (.lui rd (rvcImm h <<< 12))
  | 4 => rvcArith h
  | 5 => some (.jal 0 (rvcJOff h))
  | 6 => some (.branch 0 (8 + rvBits h 9 7) 0 (rvcBOff h))
  | _ => some (.branch 1 (8 + rvBits h 9 7) 0 (rvcBOff h))

/-- Quadrant 2. -/
def rvcQ2 (h : Nat) : Option RvOp :=
  let rd := rvBits h 11 7
  let rs2 := rvBits h 6 2
  match rvBits h 15 13 with
  | 0 => if rvBits h 12 12 = 0 then some (.opImm 1 false rd rd (word rs2)) else none
  | 2 => if rd = 0 then none else some .own
  | 4 =>
    if rvBits h 12 12 = 0 then
      (if rs2 ≠ 0 then some (.op 0 false rd 0 rs2) else if rd = 0 then none else some (.jalr 0 rd 0))
    else if rs2 ≠ 0 then some (.op 0 false rd rd rs2)
    else if rd = 0 then some .own else some (.jalr 1 rd 0)
  | 6 => some .own
  | _ => none

/-- Decode a 16-bit instruction; the floating-point loads and stores are absent. -/
def rvDecode16 (h : Nat) : Option RvOp :=
  match h % 4 with
  | 0 => rvcQ0 h
  | 1 => rvcQ1 h
  | _ => rvcQ2 h

/-! ## Execution -/

/-- The ALU. -/
def rvAlu (f3 : Nat) (alt : Bool) (a b : Word) : Word :=
  let sh := b.toNat % 32
  match f3 with
  | 0 => if alt then a - b else a + b
  | 1 => a <<< sh
  | 2 => if a.toInt < b.toInt then 1 else 0
  | 3 => if a.toNat < b.toNat then 1 else 0
  | 4 => a ^^^ b
  | 5 => if alt then a.sshiftRight sh else a >>> sh
  | 6 => a ||| b
  | _ => a &&& b

/-- Multiplication and division; a division by zero gives all ones and leaves the dividend. -/
def rvMulDiv (f3 : Nat) (a b : Word) : Word :=
  match f3 with
  | 0 => a * b
  | 1 => BitVec.ofInt 32 (a.toInt * b.toInt / 2 ^ 32)
  | 2 => BitVec.ofInt 32 (a.toInt * b.toNat / 2 ^ 32)
  | 3 => word (a.toNat * b.toNat / 2 ^ 32)
  | 4 => if b = 0 then word (2 ^ 32 - 1) else BitVec.ofInt 32 (a.toInt.tdiv b.toInt)
  | 5 => if b = 0 then word (2 ^ 32 - 1) else word (a.toNat / b.toNat)
  | 6 => if b = 0 then a else BitVec.ofInt 32 (a.toInt.tmod b.toInt)
  | _ => if b = 0 then a else word (a.toNat % b.toNat)

/-- Is a branch taken? -/
def rvTaken (f3 : Nat) (a b : Word) : Bool :=
  match f3 with
  | 0 => a == b
  | 1 => a != b
  | 4 => decide (a.toInt < b.toInt)
  | 5 => decide (b.toInt ≤ a.toInt)
  | 6 => decide (a.toNat < b.toNat)
  | _ => decide (b.toNat ≤ a.toNat)

/-- Run an instruction of `len` bytes at pc: its destination register and the next pc. -/
def Core.runRv (x : Core) (len : Nat) (o : RvOp) : Core :=
  let next := x.pc + word len
  match o with
  | .lui rd imm => { x.setReg rd imm with pc := next }
  | .auipc rd imm => { x.setReg rd (x.pc + imm) with pc := next }
  | .jal rd off => { x.setReg rd next with pc := x.pc + off }
  | .jalr rd rs1 off => { x.setReg rd next with pc := (x.reg rs1 + off) &&& ~~~1#32 }
  | .branch f3 rs1 rs2 off => { x with pc := if rvTaken f3 (x.reg rs1) (x.reg rs2) then x.pc + off else next }
  | .opImm f3 alt rd rs1 imm => { x.setReg rd (rvAlu f3 alt (x.reg rs1) imm) with pc := next }
  | .op f3 alt rd rs1 rs2 => { x.setReg rd (rvAlu f3 alt (x.reg rs1) (x.reg rs2)) with pc := next }
  | .muldiv f3 rd rs1 rs2 => { x.setReg rd (rvMulDiv f3 (x.reg rs1) (x.reg rs2)) with pc := next }
  | .own => x

end Sys2Proof.Machine
end

