-- ==== Sys2Proof/Machine/CoreMem.lean ====
section
/-! DEFINITION. What the cores' commands share: when a core runs, traps and precise faults (R265, R266), physical memory
protection (Table 9.4), the caches (R285), the two store buffers and their drains (R275 to R283, R298), and a core's
loads and stores (R280 to R284). -/

namespace Sys2Proof.Machine

/-! ## When a core runs -/

/-- Is the core's domain powered: the cluster, or the management core's, which is in retention in Doze (Table 16.1)? -/
def State.corePowered (s : State) (c : Nat) : Bool :=
  if c < 4 then s.clusterOn
  else decide (s.fld Fld.PW_STATE_STATE < 3) || (s.fld Fld.PW_STATE_STATE == 3 && s.pw.exitStep != 0)

/-- Does core `c` execute: out of reset, with no reset waiting, powered, not stalled in WFI, and not held by debug but
for one step? -/
def State.coreReady (s : State) (c : Nat) : Bool :=
  let x := s.core c
  x.running && !x.resetDue && (!x.halted || x.stepping) && !s.wfiStalled c && s.corePowered c

/-- minstret with one more instruction counted, unless mcountinhibit.IR is set. -/
def Core.counted (x : Core) : BitVec 64 := if tstBit (x.csr Csr.mcountinhibit) 2 then x.minstret else x.minstret + 1

/-- An instruction of core `c` has completed: the pc moves on, and minstret counts it. -/
def State.retire (s : State) (c len : Nat) : State :=
  let x := s.core c
  s.setCore c { x with pc := x.pc + word len, minstret := x.counted, wfi := false, stepping := false }

/-- Write a register of core `c`. -/
def State.coreWrite (s : State) (c i : Nat) (v : Word) : State := s.setCore c ((s.core c).setReg i v)

/-- The reservation of core `c` ends, and with it what it held back (R286, R288). -/
def State.dropReservation (s : State) (c : Nat) : State :=
  (s.setCore c { s.core c with reserved := none }).endHold c

/-! ## Traps -/

/-- mtvec's target: the base, and in vectored mode for an interrupt four bytes a cause on. -/
def Core.trapTarget (x : Core) (cause : Nat) (irq : Bool) : Word :=
  let tvec := x.csr Csr.mtvec
  let base := tvec &&& ~~~3#32
  if irq && tstBit tvec 0 then base + word (4 * cause) else base

/-- Core `c` takes a trap: pc, mode and interrupt enable are saved, and the reservation ends (R286). -/
def State.trap (s : State) (c cause : Nat) (irq : Bool) (tval : Word) : State :=
  let s := s.dropReservation c
  let x := s.core c
  let y := (((x.setCsr Csr.mepc x.pc).setCsr Csr.mcause (word (cause + 0x80000000 * bit irq))).setCsr Csr.mtval tval).setCsr
    Csr.mstatus (mstatusWord false x.mieBit (!x.user) x.mprv)
  s.setCore c { y with user := false, pc := x.trapTarget cause irq, wfi := false, stepping := false }

/-- An illegal-instruction exception; what mtval holds is left open. -/
def State.illegal (s : State) (c : Nat) : State := (s.trap c 2 false (s.free 32)).nextFree

/-- The code of a failed check at core `c`, raised. -/
def State.raiseAt (s : State) (code c a : Nat) : State :=
  if 0x0501 ≤ code ∧ code ≤ 0x0504 then s.raiseCc code c a else s.raiseBus code (coreReq c) a

/-- The fault registers of core `c` take a code and an address (R266); the management core has none. -/
def State.setFault (s : State) (c : Nat) (code addr : Word) : State :=
  if c < 4 then (s.setReg (Reg.CC_FAULT_CODE c) code).setReg (Reg.CC_FAULT_ADDR c) addr else s

/-- A precise access fault of cause 1, 5 or 7 with a code (R266). -/
def State.accessFault (s : State) (c cause code a : Nat) : State :=
  (((s.raiseAt code c a).setFault c (word code) (word a))).trap c cause false (word a)

/-- A fault of the protection unit, which has no code of its own: what CC_FAULTn_CODE holds is left open. -/
def State.pmpFault (s : State) (c cause a : Nat) : State :=
  ((s.setFault c (word (s.free 16).toNat) (word a)).nextFree).trap c cause false (word a)

/-! ## Physical memory protection (Table 9.4; the RISC-V manual's rules) -/

/-- The configuration byte of entry `i`. -/
def Core.pmpCfg (x : Core) (i : Nat) : Nat := bits (x.csr (Csr.pmpcfg0 + i / 4)) (8 * (i % 4) + 7) (8 * (i % 4))

/-- The count of ones at the low end of a number of `n` bits. -/
def lowOnes : Nat → Nat → Nat
  | 0, _ => 0
  | n + 1, v => if v % 2 = 1 then 1 + lowOnes n (v / 2) else 0

/-- The bytes entry `i` covers, first and end, at a granularity of 32 bytes; none when it is OFF. -/
def Core.pmpRange (x : Core) (i : Nat) : Option (Nat × Nat) :=
  let a := (x.csr (Csr.pmpaddr0 + i)).toNat
  match x.pmpCfg i / 8 % 4 with
  | 1 =>
    let lo := if i = 0 then 0 else (x.csr (Csr.pmpaddr0 + (i - 1))).toNat / 8 * 32
    some (lo, a / 8 * 32)
  | 3 =>
    let n := lowOnes 32 (a ||| 3)
    some (a / 2 ^ (n + 1) * 2 ^ (n + 3), a / 2 ^ (n + 1) * 2 ^ (n + 3) + 2 ^ (n + 3))
  | _ => none

/-- Does the first entry that an access touches allow it; with none, only in M-mode? -/
def Core.pmpFrom (x : Core) (machine : Bool) (bit a n : Nat) : List Nat → Bool
  | [] => machine
  | i :: is =>
    match x.pmpRange i with
    | none => x.pmpFrom machine bit a n is
    | some (lo, hi) =>
      if a + n ≤ lo ∨ hi ≤ a then x.pmpFrom machine bit a n is
      else if a < lo ∨ hi < a + n then false
      else (machine && x.pmpCfg i / 128 == 0) || x.pmpCfg i / 2 ^ bit % 2 == 1

/-- Does the protection allow `n` bytes from `a`: bit 0 to read, 1 to write, 2 to execute? -/
def State.pmpOk (s : State) (c bit a n : Nat) : Bool :=
  let x := s.core c
  let machine := if bit < 2 && !x.user && x.mprv then x.mppM else !x.user
  decide (4 ≤ c) || x.pmpFrom machine bit a n (List.range 8)

/-! ## Caches: 256 sets of 4 lines of 32 bytes (Table 9.1) -/

/-- Regions with ICACHE and with DCACHE (Table 4.10). -/
def icacheRegion (a : Nat) : Bool :=
  match regionOf a with
  | some 1 | some 4 | some 5 | some 6 => true
  | _ => false
def dcacheRegion (a : Nat) : Bool :=
  match regionOf a with
  | some 0 | some 1 | some 6 => true
  | _ => false

/-- Room for line `l` in its set: with four there, one of them leaves; which is left open. -/
def makeRoom {α : Type} (lineNo : α → Nat) (l victim : Nat) (ls : List α) : List α :=
  let set := ls.filter (fun x => lineNo x % 256 == l % 256)
  if set.length < 4 then ls
  else match set[victim % set.length]? with
    | none => ls
    | some v => ls.filter (fun x => lineNo x != lineNo v)

/-- Fill line `l` of core `c`'s I-cache with its bytes in memory. -/
def State.fillI (s : State) (c l : Nat) : State :=
  let x := s.core c
  let rest := makeRoom (·.1) l (s.free 2).toNat (x.icache.filter (fun e => e.1 != l))
  (s.setCore c { x with icache := rest ++ [(l, s.busBytes (32 * l) 32)] }).nextFree

/-- Fill line `l` of core `c`'s D-cache. -/
def State.fillD (s : State) (c l : Nat) : State :=
  let x := s.core c
  if x.dcache.contains l then s
  else (s.setCore c { x with dcache := makeRoom id l (s.free 2).toNat x.dcache ++ [l] }).nextFree

/-! ## The buffers -/

/-- Put bytes into the masked bytes of a line. -/
def putCells (cells : List Host.Cell) (a : Nat) : List Byte → List Host.Cell
  | [] => cells
  | b :: bs => putCells (Sparse.insert a b (Sparse.erase a cells)) (a + 1) bs

/-- The runs of neighbouring bytes among masked bytes, as first address and bytes. -/
def cellRuns : List Host.Cell → List (Nat × List Byte)
  | [] => []
  | (a, b) :: cells =>
    match cellRuns cells with
    | [] => [(a, [b])]
    | (a', bs) :: rs => if a' = a + 1 then (a, b :: bs) :: rs else (a, [b]) :: (a', bs) :: rs

/-- The accesses masked bytes drain as: 32-bit words of cluster SRAM, 8-byte units elsewhere (R276, R280), each as its
runs. -/
def drainUnits (cells : List Host.Cell) (line size : Nat) : List (List (Nat × List Byte)) :=
  let w := if inSram line then 4 else 8
  ((List.range (size / w)).map (fun i =>
    cellRuns (cells.filter (fun e => decide (line + w * i ≤ e.1) && decide (e.1 < line + w * i + w))))).filter
      (fun u => !u.isEmpty)

/-- An asynchronous error of core `c` (R298). -/
def State.asyncError (s : State) (c code a : Nat) : State :=
  let s := s.raiseAt code c a
  let s := if s.fld (Fld.CC_ASYNC_CODE_CODE c) = 0 then
      (s.setFld (Fld.CC_ASYNC_CODE_CODE c) code).setReg (Reg.CC_ASYNC_ADDR c) (word a)
    else s
  (s.incSat (Fld.CC_ASYNC_CODE_COUNT c) 1).pend c

/-- Perform one access of a drain, or record its error and perform none of it. -/
def State.drainUnit (s : State) (c : Nat) (m : Met) (u : List (Nat × List Byte)) : State :=
  let s := u.foldl (fun (s : State) r => s.passScrub m r.1 r.2.length) s
  match u.findSome? (fun r => (s.busCode (coreReq c) .write m r.1 r.2.length).map (fun code => (code, r.1))) with
  | some (code, a) => s.asyncError c code a
  | none => u.foldl (fun (s : State) r => s.busPerform (coreReq c) (some c) r.1 r.2) s

/-- Does another core hold back stores to the line (R288)? -/
def State.lineHeld (s : State) (c line size : Nat) : Bool := inSram line && s.granuleHeld (some c) line size

/-- Drain store-buffer entry `i` of core `c`, unless its granule is held or an earlier register store waits. -/
def State.drainStore (s : State) (c i : Nat) (m : Met) : State :=
  let x := s.core c
  match x.stores[i]? with
  | none => s
  | some e =>
    let rest := x.stores.eraseIdx i
    if e.isReg then
      if (x.stores.take i).any (fun d => d.isReg) then s
      else (s.setCore c { x with stores := rest }).busPerform (coreReq c) (some c) e.line (e.bytes.map (·.2))
    else if s.lineHeld c e.line 32 then s
    else (drainUnits e.bytes e.line 32).foldl (fun (s : State) u => s.drainUnit c m u) (s.setCore c { x with stores := rest })

/-- Drain combining-buffer entry `i` of core `c`, unless its granules are held. The units reach the caches of every
core, its own too (R275). -/
def State.drainNt (s : State) (c i : Nat) (m : Met) : State :=
  let x := s.core c
  match x.nts[i]? with
  | none => s
  | some e =>
    if s.lineHeld c e.line 64 then s
    else
      let s := s.setCore c { x with nts := x.nts.eraseIdx i }
      let s := (drainUnits e.bytes e.line 64).foldl (fun (s : State) u => s.drainUnit c m u) s
      if inSram e.line then
        s.setCore c { s.core c with dcache := (s.core c).dcache.filter (fun l => 32 * l / 64 != e.line / 64) }
      else s

/-- Drain the store-buffer entries from `i` on that `p` names, oldest first; an entry that is held stays. -/
def State.drainStoresFrom (s : State) (c : Nat) (p : StoreEntry → Bool) : Nat → Nat → State
  | 0, _ => s
  | fuel + 1, i =>
    match (s.core c).stores[i]? with
    | none => s
    | some e =>
      if p e then
        let s' := s.drainStore c i .clean
        if (s'.core c).stores.length < (s.core c).stores.length then s'.drainStoresFrom c p fuel i
        else s.drainStoresFrom c p fuel (i + 1)
      else s.drainStoresFrom c p fuel (i + 1)
def State.drainStores (s : State) (c : Nat) (p : StoreEntry → Bool) : State :=
  s.drainStoresFrom c p (s.core c).stores.length 0

/-- Drain the combining-buffer entries from `i` on that `p` names. -/
def State.drainNtsFrom (s : State) (c : Nat) (p : NtEntry → Bool) : Nat → Nat → State
  | 0, _ => s
  | fuel + 1, i =>
    match (s.core c).nts[i]? with
    | none => s
    | some e =>
      if p e then
        let s' := s.drainNt c i .clean
        if (s'.core c).nts.length < (s.core c).nts.length then s'.drainNtsFrom c p fuel i
        else s.drainNtsFrom c p fuel (i + 1)
      else s.drainNtsFrom c p fuel (i + 1)
def State.drainNts (s : State) (c : Nat) (p : NtEntry → Bool) : State := s.drainNtsFrom c p (s.core c).nts.length 0

/-- Drain both buffers; none while something is held back: the core waits (R279). -/
def State.drainAll (s : State) (c : Nat) : Option State :=
  let s := (s.drainNts c (fun _ => true)).drainStores c (fun _ => true)
  if s.drained c then some s else none

/-- Does an access touch the line of a combining-buffer entry, or masked bytes of a store-buffer entry (R276, R282)? -/
def NtEntry.touched (e : NtEntry) (a n : Nat) : Bool := decide (e.line < a + n) && decide (a < e.line + 64)
def StoreEntry.touched (e : StoreEntry) (a n : Nat) : Bool :=
  !e.isReg && e.bytes.any (fun b => decide (a ≤ b.1) && decide (b.1 < a + n))

/-- Drain the combining-buffer entries that an access overlaps; none while one is held back. -/
def State.clearNts (s : State) (c a n : Nat) : Option State :=
  let s := s.drainNts c (fun e => e.touched a n)
  if (s.core c).nts.any (fun e => e.touched a n) then none else some s

/-- Drain the store-buffer entries that an access overlaps; none while one is held back. -/
def State.clearStores (s : State) (c a n : Nat) : Option State :=
  let s := s.drainStores c (fun e => e.touched a n)
  if (s.core c).stores.any (fun e => e.touched a n) then none else some s

/-- Both, for an access that forwards nothing. -/
def State.clearOwn (s : State) (c a n : Nat) : Option State := (s.clearNts c a n).bind (fun s => s.clearStores c a n)

/-! ## Loads (R280 to R284, R298) -/

/-- The bytes of an access that lie whole in one store-buffer entry (R282). -/
def Core.forwarded (x : Core) (a n : Nat) : Option (List Byte) :=
  x.stores.findSome? (fun e =>
    if e.isReg then none
    else (List.range n).mapM (fun i => (e.bytes.find? (fun b => b.1 == a + i)).map (·.2)))

/-- How an access of a core ends: it waits, with no effect; it faults, in the state after the trap; or it answers. -/
inductive MemRes where
  | waits
  | faults (s : State)
  | ok (bs : List Byte) (s : State)
deriving DecidableEq, Repr

/-- A load at its target; one of the spill window waits while a sweep runs (R226). -/
def State.loadTarget (s : State) (c a n : Nat) (m : Met) : MemRes :=
  let s := s.passScrub m a n
  match s.busCode (coreReq c) .read m a n with
  | some code => .faults (s.accessFault c 5 code a)
  | none =>
    if s.spillWaits a then .waits
    else
      let bs := s.busBytes a n
      let s := s.countCorrected a n
      if c < 4 && dcacheRegion a then .ok bs ((s.fillD c (a / 32)).fillD c ((a + n - 1) / 32)) else .ok bs s

/-- A parity error in a cache line: the line is fetched anew, and counted (R285). -/
def State.lineParity (s : State) (c : Nat) (p : Nat → Bool) : State :=
  let x := s.core c
  (s.setCore c { x with icache := x.icache.filter (fun e => !p e.1), dcache := x.dcache.filter (fun l => !p l) }).incSat
    Fld.CC_ECC_CNT_COUNT 1

/-- A load of `n` bytes by core `c`. -/
def State.coreLoad (s : State) (c a n : Nat) (m : Met) : MemRes :=
  if !s.pmpOk c 0 a n then .faults (s.pmpFault c 5 a)
  else match s.regionCode (coreReq c) .read a n with
    | some code => .faults (s.accessFault c 5 code a)
    | none =>
      match s.clearNts c a n with
      | none => .waits
      | some s =>
        match (s.core c).forwarded a n with
        | some bs => .ok bs s
        | none =>
          match s.clearStores c a n with
          | none => .waits
          | some s =>
            if dcacheRegion a && (s.core c).dcache.contains (a / 32) && (s.core c).dcache.contains ((a + n - 1) / 32) then
              (if m = .parity then (s.lineParity c (fun l => l == a / 32 || l == (a + n - 1) / 32)).loadTarget c a n .clean
              else .ok (s.busBytes a n) s)
            else s.loadTarget c a n m

/-! ## Outstanding loads (R281, R284) -/

/-- The value a load of `n` bytes writes. -/
def loadValue (n : Nat) (zeroExt : Bool) (bs : List Byte) : Word :=
  if zeroExt then word (le bs 0 n) else BitVec.ofInt 32 (signed (8 * n) (le bs 0 n))

/-- The outstanding loads of core `c` complete in program order: each is performed, unless it was, and writes its register. A
load that faults is taken at its own pc, and the later ones are dropped (R281). The first part says whether all completed. -/
def State.finishLoads (s : State) (c : Nat) : List OutLoad → Bool × State
  | [] => (true, s)
  | l :: ls =>
    match (match l.bytes with | some bs => MemRes.ok bs s | none => s.loadTarget c l.addr l.size .clean) with
    | .waits => (false, s)
    | .faults _ =>
      match (s.setCore c { s.core c with loads := [], pc := l.pc }).loadTarget c l.addr l.size .clean with
      | .faults s => (false, s)
      | _ => (false, s)
    | .ok bs s =>
      let s := s.coreWrite c l.reg (loadValue l.size l.zeroExt bs)
      (s.setCore c { s.core c with loads := ls, minstret := (s.core c).counted }).finishLoads c ls

/-- What an instruction does after every earlier load has completed; nothing where one faulted or still waits. -/
def State.afterLoads (s : State) (c : Nat) (f : State → State) : State :=
  let p := s.finishLoads c (s.core c).loads
  if p.1 then f p.2 else p.2

/-- Must a later access with these registers and these bytes wait for an outstanding load: it needs its register, overlaps
it, or finds four of them (R281, R284)? -/
def Core.loadHazard (x : Core) (regs : List Nat) (a n : Nat) : Bool :=
  decide (4 ≤ x.loads.length) ||
    x.loads.any (fun l => (l.reg != 0 && regs.contains l.reg) || (decide (a < l.addr + l.size) && decide (l.addr < a + n)))

/-! ## Stores (R280, R282, R283) -/

/-- The own reservation of a granule that a core stores to ends (R286). -/
def State.ownStore (s : State) (c a n : Nat) : State :=
  if (s.core c).reserved.any (fun x => granuleHit x a n) then s.dropReservation c else s

/-- A free store-buffer entry, draining the oldest when there is none. -/
def State.freeEntry (s : State) (c : Nat) : Option State :=
  if (s.core c).stores.length < 8 then some s
  else
    let s := s.drainStore c 0 .clean
    if (s.core c).stores.length < 8 then some s else none

/-- Bytes of one line enter the store buffer, merging where they can (R282). -/
def State.enterStore (s : State) (c a : Nat) (bs : List Byte) : Option State :=
  if bs.isEmpty then some s
  else
    let line := a / 32 * 32
    let x := s.core c
    match x.stores.findIdx? (fun e => !e.isReg && e.line == line) with
    | some i =>
      some (s.setCore c { x with
        stores := x.stores.modify i (fun e => { e with bytes := putCells e.bytes a bs }) })
    | none =>
      (s.freeEntry c).map (fun s =>
        s.setCore c { s.core c with stores := (s.core c).stores ++ [⟨false, line, putCells [] a bs⟩] })

/-- A store that passed its precise checks enters the buffer. A misaligned one that spans two rows of scratchpad is
checked and performed as a whole (R34, R280). -/
def State.bufferStore (s : State) (c a : Nat) (bs : List Byte) (m : Met) : Option State :=
  let s := s.ownStore c a bs.length
  if regionOf a = some 3 then
    (s.freeEntry c).map (fun s => s.setCore c { s.core c with
      stores := (s.core c).stores ++ [⟨true, a, putCells [] a bs⟩] })
  else
    match s.clearNts c a bs.length with
    | none => none
    | some s =>
      if inScratch a && a / 512 != (a + bs.length - 1) / 512 then
        (s.clearStores c a bs.length).map (fun s => s.drainUnit c m [(a, bs)])
      else
        let n := 32 - a % 32
        (s.enterStore c a (bs.take n)).bind (fun s => s.enterStore c (a + n) (bs.drop n))

/-- A store of the management core, which waits for it to be performed (R285); the resident supervisor's part of management
SRAM is not written (R522). -/
def State.mgmtStore (s : State) (a : Nat) (bs : List Byte) (m : Met) : MemRes :=
  if regionOf a = some 2 ∧ 0x78000 < a + bs.length then .ok [] (s.raiseMgLog 0x0E04 (word a))
  else match (s.passScrub m a bs.length).busCode .mgmt .write m a bs.length with
    | some code => .faults ((s.passScrub m a bs.length).accessFault 4 7 code a)
    | none =>
      if s.spillWaits a || (inSram a && s.granuleHeld none a bs.length) then .waits
      else .ok [] (s.busWrite .mgmt m a bs).2

/-- A store by core `c`. -/
def State.coreStore (s : State) (c a : Nat) (bs : List Byte) (m : Met) : MemRes :=
  if !s.pmpOk c 1 a bs.length then .faults (s.pmpFault c 7 a)
  else match s.regionCode (coreReq c) .write a bs.length with
    | some code => .faults (s.accessFault c 7 code a)
    | none =>
      if c < 4 then
        match s.bufferStore c a bs m with
        | none => .waits
        | some s => .ok [] s
      else s.mgmtStore a bs m

end Sys2Proof.Machine
end

