-- ==== Sys2Proof/Machine/Cores.lean ====
section
/-! DEFINITION. The commands of the cores: fetches, loads and stores, drains, fences, LR/SC and AMOs, traps, CSRs and the
Xcg extension (chapter 9). Core 4 is the management core (R522). -/

namespace Sys2Proof.Machine

/-- A command of core `c` that runs only while the core does; a reset that waited takes place after it (R267). -/
def State.onCore (s : State) (c : Nat) (f : State → State) : State := if s.coreReady c then (f s).settleReset c else s

/-- One that earlier loads complete before (R281). -/
def State.inOrder (s : State) (c : Nat) (f : State → State) : State := s.onCore c (fun s => s.afterLoads c f)

/-- An instruction ends: when the accesses it waited for have stopped the core, it does not complete. -/
def State.done (s : State) (c : Nat) (f : State → State) : State := if s.coreReady c then f s else s

/-! ## Fetch (R124, R285, R291, R298) -/

/-- The mode a core runs in, as dcsr.prv holds it. -/
def Core.prv (x : Core) : Nat := if x.user then 0 else 3

/-- The halt of core `c` with dcsr's cause: 1 EBREAK, 2 a trigger, 3 the port, 4 a step. Its loads complete, and halt entry
drains the combining buffer (R296); while a held granule stops that, the halt is not entered. -/
def State.haltCore (s : State) (c cause : Nat) : State :=
  s.afterLoads c (fun s =>
    let s := s.drainNts c (fun _ => true)
    let x := s.core c
    if x.nts.isEmpty then
      s.setCore c { x with
        halted := true, stepping := false
        dcsr := if x.halted then x.dcsr else setBits (setBits x.dcsr 8 6 cause) 1 0 x.prv }
    else s)

/-- Does an address-match trigger hold the core at this address (R263)? -/
def State.triggered (s : State) (c a : Nat) : Bool :=
  !(s.core c).stepping && (s.core c).triggers.contains (some (word a))

/-- Two bytes of an instruction: from the I-cache, or fetched and, where a whole line may be, cached. -/
def State.fetchParcel (s : State) (c a : Nat) (m : Met) : MemRes :=
  let s := if m = .parity && (s.core c).icache.any (fun e => e.1 == a / 32) then s.lineParity c (· == a / 32) else s
  if !s.pmpOk c 2 a 2 then .faults (s.pmpFault c 1 a)
  else match if c < 4 then ((s.core c).icache.find? (fun e => e.1 == a / 32)).map (·.2) else none with
  | some line => .ok ((line.drop (a % 32)).take 2) s
  | none =>
    let s := s.passScrub m a 2
    match s.busCode (coreReq c) .fetch m a 2 with
      | some code => .faults (s.accessFault c 1 code a)
      | none =>
        let bs := s.busBytes a 2
        let s := s.countCorrected a 2
        if c < 4 && icacheRegion a && (s.busCode (coreReq c) .fetch m (a / 32 * 32) 32).isNone then .ok bs (s.fillI c (a / 32))
        else .ok bs s

/-- Run a decoded instruction of `len` bytes, after the loads before it. -/
def State.runDecoded (s : State) (c len : Nat) : Option RvOp → State
  | none => s.afterLoads c (fun s => s.illegal c)
  | some .own => s
  | some o => s.afterLoads c (fun s => (s.setCore c ((s.core c).runRv len o)).retire c 0)

/-- A fetch that faulted is taken after the loads before it. -/
def State.fetchFault (s t : State) (c a : Nat) (m : Met) : State :=
  if (s.core c).loads.isEmpty then t
  else s.afterLoads c (fun s =>
    match s.fetchParcel c a m with
    | .faults s => s
    | _ => s)

/-- INSTRUCTION_FETCH: the instruction at the pc is fetched, and one without a command of its own is carried out. -/
def State.instructionFetch (s : State) (c : Nat) (m : Met) : State :=
  let a := (s.core c).pc.toNat
  if s.triggered c a then s.haltCore c 2
  else match s.fetchParcel c a m with
    | .waits => s
    | .faults t => s.fetchFault t c a m
    | .ok lo s =>
      if le lo 0 2 % 4 ≠ 3 then s.runDecoded c 2 (rvDecode16 (le lo 0 2))
      else match s.fetchParcel c ((a + 2) % 2 ^ 32) m with
        | .waits => s
        | .faults t => s.fetchFault t c ((a + 2) % 2 ^ 32) m
        | .ok hi s => s.runDecoded c 4 (rvDecode32 (c < 4) (le (lo ++ hi) 0 4))

/-- WRONG_PATH_FETCH of the line at `a` (R291): issued only to a region with EXEC and ICACHE and, in scratchpad, to a
powered bank in narrow mode; counted; kept only when allowed, untagged and without an error. -/
def State.wrongPathFetch (s : State) (c a : Nat) (m : Met) : State :=
  let l := a / 32
  let b := bankOf (a / 512)
  if icacheRegion a && (!inScratch a || (s.bankPowered b && s.bankNarrow b)) then
    let s := (s.setCore c { s.core c with wrongPath := (s.core c).wrongPath + 1 }).passScrub m (32 * l) 32
    if (s.busCode (coreReq c) .fetch m (32 * l) 32).isNone && s.pmpOk c 2 (32 * l) 32 &&
        !(s.core c).icache.any (fun e => e.1 == l) then s.fillI c l
    else s
  else s

/-! ## Loads and stores -/

/-- The address of a load or store. -/
def State.memAddr (s : State) (c : Nat) (o : MemOp) : Nat :=
  ((s.core c).reg o.base + BitVec.ofInt 32 o.offset.toInt).toNat

/-- A load leaves the core: its result, `bs` or still to come, waits in program order behind the earlier loads. -/
def State.pushLoad (s : State) (c : Nat) (o : MemOp) (a : Nat) (bs : Option (List Byte)) : State :=
  let x := s.core c
  let len := if o.short then 2 else 4
  s.setCore c { x with
    loads := x.loads ++ [⟨o.reg.val, a, 2 ^ o.size.val, o.zeroExt, x.pc, len, bs⟩]
    pc := x.pc + word len, stepping := false }

/-- A load that is performed when it is issued. -/
def State.loadNow (s : State) (c : Nat) (o : MemOp) (a : Nat) : State :=
  let n := 2 ^ o.size.val
  match s.coreLoad c a n o.met with
  | .waits => s
  | .faults t =>
    if (s.core c).loads.isEmpty then t
    else s.afterLoads c (fun s =>
      match s.coreLoad c a n o.met with
      | .faults s => s
      | _ => s)
  | .ok bs s => s.done c (fun s =>
      if (s.core c).loads.isEmpty then
        (s.coreWrite c o.reg.val (loadValue n o.zeroExt bs)).retire c (if o.short then 2 else 4)
      else s.pushLoad c o a (some bs))

/-- A load of memory whose response comes later than those of loads that follow it: it leaves the core once its precise
checks have passed and nothing in the buffers overlaps it. -/
def State.loadLate (s : State) (c : Nat) (o : MemOp) (a : Nat) : State :=
  let n := 2 ^ o.size.val
  if c < 4 && s.pmpOk c 0 a n && (s.regionCode (coreReq c) .read a n).isNone && regionOf a != some 3 then
    match (s.clearNts c a n).bind (fun s => if ((s.core c).forwarded a n).isSome then none else s.clearStores c a n) with
    | some s => s.done c (fun s => s.pushLoad c o a none)
    | none => s.loadNow c o a
  else s.loadNow c o a

/-- CORE_LOAD. -/
def State.loadOp (s : State) (c : Nat) (o : MemOp) : State :=
  let issue := fun (s : State) =>
    let a := s.memAddr c o
    if s.triggered c a then s.haltCore c 2 else if o.late then s.loadLate c o a else s.loadNow c o a
  if (s.core c).loadHazard [o.base.val] (s.memAddr c o) (2 ^ o.size.val) then s.afterLoads c issue else issue s

/-- Can an outstanding load still fault, so that no later store may enter a buffer (R281)? One of cluster SRAM that meets no
error cannot. -/
def State.loadMayFault (s : State) (c : Nat) (l : OutLoad) : Bool :=
  l.bytes.isNone && !(inSram l.addr && (s.busCode (coreReq c) .read .clean l.addr l.size).isNone)

/-- CORE_STORE. -/
def State.storeOp (s : State) (c : Nat) (o : MemOp) : State :=
  let run := fun (s : State) =>
    let a := s.memAddr c o
    if s.triggered c a then s.haltCore c 2
    else match s.coreStore c a (toLe (2 ^ o.size.val) ((s.core c).reg o.reg.val).toNat) o.met with
      | .waits => s
      | .faults s => s
      | .ok _ s => s.done c (fun s => s.retire c (if o.short then 2 else 4))
  let x := s.core c
  let a := s.memAddr c o
  let n := 2 ^ o.size.val
  if x.loadHazard [o.base.val, o.reg.val] a n || x.loads.any (s.loadMayFault c) ||
      !s.pmpOk c 1 a n || (s.regionCode (coreReq c) .write a n).isSome || s.triggered c a then s.afterLoads c run
  else run s

/-- May combining-buffer entry `i` drain by itself: it is full, a reset waits, or a power entry goes on (R276)? -/
def State.ntDue (s : State) (c i : Nat) : Bool :=
  (match (s.core c).nts[i]? with
    | some e => e.bytes.length == 64
    | none => false) || (s.core c).resetDue || s.pw.entering

/-- Before a reset of the core or a power-down of the cluster its outstanding loads complete (R267, R295). -/
def State.finishDue (s : State) (c : Nat) : State :=
  if (s.core c).resetDue || s.pw.entering then (s.finishLoads c (s.core c).loads).2 else s

/-- STORE_BUFFER_DRAIN and NT_ENTRY_DRAIN of entry `i`. -/
def State.drainEntry (s : State) (c i : Nat) (m : Met) : State :=
  if s.corePowered c then ((s.finishDue c).drainStore c i m).settleReset c else s
def State.drainNtEntry (s : State) (c i : Nat) (m : Met) : State :=
  if s.corePowered c && s.ntDue c i then ((s.finishDue c).drainNt c i m).settleReset c else s

/-- What follows once both buffers have drained; the core waits while they cannot. -/
def State.afterDrain (s : State) (c : Nat) (f : State → State) : State :=
  match s.drainAll c with
  | none => s
  | some s => s.done c f

/-- FENCE and FENCE.I (R279). -/
def State.fence (s : State) (c : Nat) : State := s.afterDrain c (fun s => s.retire c 4)
def State.fenceI (s : State) (c : Nat) : State :=
  s.afterDrain c (fun s => (s.setCore c { s.core c with icache := [] }).retire c 4)

/-! ## LR, SC and AMO (R286 to R288, R203) -/

/-- The address of an atomic. -/
def State.atomicAddr (s : State) (c : Nat) (o : AtomicOp) : Nat := ((s.core c).reg o.rs1.val).toNat

/-- After the release of `rl`, or at once. -/
def State.released (s : State) (c : Nat) (o : AtomicOp) (f : State → State) : State :=
  if o.rl then s.afterDrain c f else f s

/-- The checks every atomic meets before its target: alignment, protection and the map. `cause` is its fault's, 4 or 6 its
misalignment's, `perm` the permissions it needs. -/
def State.atomicCheck (s : State) (c a cause mis : Nat) (perm : List Nat) : Option State :=
  if 4 ≤ c then some (s.illegal c)
  else if a % 4 ≠ 0 then some (s.trap c mis false (word a))
  else if perm.any (fun p => !s.pmpOk c p a 4) then some (s.pmpFault c cause a)
  else match s.regionCode (coreReq c) .read a 4 with
    | some code => some (s.accessFault c cause code a)
    | none => if inSram a || inScratch a then none else some (s.accessFault c cause 0x0502 a)

/-- An ordinary load of a word, as LR does in scratchpad (R203). -/
def State.loadWord (s : State) (c rd a : Nat) : State :=
  match s.coreLoad c a 4 .clean with
  | .waits => s
  | .faults s => s
  | .ok bs s => s.done c (fun s => (s.coreWrite c rd (word (le bs 0 4))).retire c 4)

/-- LR.W; `constrained`: it begins a constrained loop (R288). -/
def State.lrW (s : State) (c : Nat) (o : AtomicOp) (constrained : Bool) : State :=
  s.released c o (fun s =>
    let a := s.atomicAddr c o
    match s.atomicCheck c a 5 4 [0] with
    | some s => s
    | none =>
      let s := s.dropReservation c
      if inScratch a then s.loadWord c o.rd.val a
      else match s.clearOwn c (a / 32 * 32) 32 with
        | none => s
        | some s =>
          match s.loadTarget c a 4 .clean with
          | .waits => s
          | .faults s => s
          | .ok bs s => s.done c (fun s =>
              let s := (s.coreWrite c o.rd.val (word (le bs 0 4))).retire c 4
              s.setCore c { s.core c with reserved := some a, holding := constrained }))

/-- Write a word of cluster SRAM at its bank. -/
def State.atomicWrite (s : State) (c a : Nat) (v : Word) : State := s.busPerform (coreReq c) (some c) a (toLe 4 v.toNat)

/-- SC.W; `spurious`: it fails without a cause. -/
def State.scW (s : State) (c : Nat) (o : AtomicOp) (spurious : Bool) : State :=
  s.released c o (fun s =>
    let a := s.atomicAddr c o
    let fails := fun (s : State) => ((s.dropReservation c).coreWrite c o.rd.val 1).retire c 4
    match s.atomicCheck c a 7 6 [1] with
    | some s => s
    | none =>
      if inScratch a then
        (match s.clearOwn c (a / 64 * 64) 64 with
        | none => s
        | some s => s.done c fails)
      else match s.clearOwn c (a / 32 * 32) 32 with
        | none => s
        | some s => s.done c (fun s =>
            if spurious || (s.core c).reserved != some a then fails s
            else if s.granuleHeld (some c) a 4 then s
            else
              let v := (s.core c).reg o.rs2.val
              (((s.atomicWrite c a v).dropReservation c).coreWrite c o.rd.val 0).retire c 4))

/-- The AMO operations. -/
def amoEval (k : AmoKind) (m v : Word) : Word :=
  match k with
  | .swap => v
  | .add => m + v
  | .xor => m ^^^ v
  | .and => m &&& v
  | .or => m ||| v
  | .min => if m.toInt ≤ v.toInt then m else v
  | .max => if m.toInt ≤ v.toInt then v else m
  | .minu => if m.toNat ≤ v.toNat then m else v
  | .maxu => if m.toNat ≤ v.toNat then v else m

/-- AMO*.W: on cluster SRAM it waits while another core holds the granule; on scratchpad it faults (R203). -/
def State.amoW (s : State) (c : Nat) (k : AmoKind) (o : AtomicOp) : State :=
  s.released c o (fun s =>
    let a := s.atomicAddr c o
    match s.atomicCheck c a 7 6 [0, 1] with
    | some s => s
    | none =>
      if inScratch a then
        (match s.clearOwn c (a / 64 * 64) 64 with
        | none => s
        | some s => s.done c (fun s => s.accessFault c 7 0x0405 a))
      else match s.clearOwn c (a / 32 * 32) 32 with
        | none => s
        | some s => s.done c (fun s =>
            if s.granuleHeld (some c) a 4 then s
            else match s.busCode (coreReq c) .read .clean a 4 with
              | some code => s.accessFault c 7 code a
              | none =>
                let old := word (le (s.busBytes a 4) 0 4)
                let v := amoEval k old ((s.core c).reg o.rs2.val)
                (((s.countCorrected a 4).atomicWrite c a v).coreWrite c o.rd.val old).retire c 4))

/-- RESERVATION_HOLD_END: the stores held back are released; the reservation ends when one reaches its granule. -/
def State.holdEnd (s : State) (c : Nat) : State := if (s.core c).holding then s.endHold c else s

/-! ## WFI, traps and MRET (R263, R265) -/

/-- WFI drains both buffers, clears the reservation and stalls. The management core, for which no interrupt line is
described, goes on (log entry 32). -/
def State.wfi (s : State) (c : Nat) : State :=
  s.afterDrain c (fun s =>
    let s := (s.dropReservation c).retire c 4
    if c < 4 then s.setCore c { s.core c with wfi := true } else s)

/-- ECALL and EBREAK: what mtval holds after a breakpoint is left open. An EBREAK that dcsr.ebreakm or ebreaku names for the
mode halts the core (R263). -/
def State.ecall (s : State) (c : Nat) (brk : Bool) : State :=
  if brk && tstBit (s.core c).dcsr (if (s.core c).user then 12 else 15) then s.haltCore c 1
  else if brk then (s.trap c 3 false (s.free 32)).nextFree
  else s.trap c (if (s.core c).user then 8 else 11) false 0

/-- MRET: an illegal instruction in U-mode; the management core knows M-mode only. -/
def State.mret (s : State) (c : Nat) : State :=
  if (s.core c).user then s.illegal c
  else
    let s := s.dropReservation c
    let x := s.core c
    let m := x.mppM || decide (4 ≤ c)
    let y := { x.setCsr Csr.mstatus (mstatusWord x.mpie true (decide (4 ≤ c)) (x.mprv && m)) with user := !m }
    (s.setCore c { y with pc := x.csr Csr.mepc }).retire c 0

/-- INTERRUPT_TAKE: in the order MEI, MSI, MTI. -/
def State.takeInterrupt (s : State) (c : Nat) : State :=
  let x := s.core c
  let ready := s.irqReady c
  if !x.halted && (x.user || x.mieBit) && ready != 0 then
    s.trap c (if tstBit ready 11 then 11 else if tstBit ready 3 then 3 else 7) true 0
  else s

/-! ## CSRs (R264, Table 9.4) -/

/-- Does the core have the CSR? The management core has those that M-mode alone needs (log entry 32). -/
def csrExists (c a : Nat) : Bool :=
  [0xF11, 0xF12, 0xF13, 0xF14, 0x300, 0x301, 0x304, 0x344, 0x305, 0x320, 0x340, 0x341, 0x342, 0x343,
    0xB00, 0xB80, 0xB02, 0xB82].contains a ||
  (decide (0xB03 ≤ a) && decide (a ≤ 0xB1F)) || (decide (0xB83 ≤ a) && decide (a ≤ 0xB9F)) ||
  (decide (0x323 ≤ a) && decide (a ≤ 0x33F)) ||
  (decide (c < 4) && ([0x306, 0x3A0, 0x3A1, 0xC00, 0xC01, 0xC02, 0xC80, 0xC81, 0xC82, 0x7C0, 0xFC0, 0xFC1].contains a ||
    (decide (0x3B0 ≤ a) && decide (a ≤ 0x3B7))))

/-- May the core, in its mode, read or, with `wr`, write the CSR? -/
def State.csrAllowed (s : State) (c a : Nat) (wr : Bool) : Bool :=
  let x := s.core c
  csrExists c a && !(wr && decide (0xC00 ≤ a)) &&
    (!x.user || (decide (0xC00 ≤ a) && decide (a < 0xD00) && tstBit (x.csr Csr.mcounteren) (a % 128)))

/-- The value of a PMP address register at a granularity of 32 bytes. -/
def Core.pmpAddrRead (x : Core) (i : Nat) : Word :=
  let v := x.csr (Csr.pmpaddr0 + i)
  if x.pmpCfg i / 8 % 4 = 3 then v ||| 3#32 else v &&& ~~~7#32

/-- The low and the high half of a 64-bit counter. -/
def half (high : Bool) (v : BitVec 64) : Word := if high then v.extractLsb' 32 32 else v.extractLsb' 0 32
def setHalf (high : Bool) (v : BitVec 64) (w : Word) : BitVec 64 :=
  if high then w ++ v.extractLsb' 0 32 else v.extractLsb' 32 32 ++ w

/-- Read a CSR; the identity of the management core is left open. -/
def State.csrRead (s : State) (c a : Nat) : Word :=
  let x := s.core c
  if a = 0xF13 then (if c < 4 then 0x100 else s.free 32)
  else if a = 0xF14 then (if c < 4 then word c else s.free 32)
  else if a = 0x300 then (if c < 4 then x.csr a else x.csr a ||| 0x1800#32)
  else if a = 0x301 then (if c < 4 then 0x40901105 else 0x40001104)
  else if a = 0x344 then s.mip c
  else if 0x3B0 ≤ a ∧ a ≤ 0x3B7 then x.pmpAddrRead (a - 0x3B0)
  else if a = 0xB00 ∨ a = 0xB80 ∨ a = 0xC00 ∨ a = 0xC80 then half (a / 128 % 2 == 1) x.mcycle
  else if a = 0xB02 ∨ a = 0xB82 ∨ a = 0xC02 ∨ a = 0xC82 then half (a / 128 % 2 == 1) x.minstret
  else if a = 0xC01 ∨ a = 0xC81 then half (a / 128 % 2 == 1) (BitVec.ofNat 64 s.mtime)
  else if a = 0xFC0 ∨ a = 0xFC1 then half (a == 0xFC1) x.wrongPath
  else x.csr a

/-- One of the listed values, which the free value picks. -/
def pick (f : Nat) (l : List Nat) : Nat := l.getD (f % l.length) 0

/-- The byte a PMP configuration takes: a locked one stands; NA4, which the granularity rules out, and a write
permission without read become one of the allowed values, which is left open. -/
def pmpCfgByte (old v f : Nat) : Nat :=
  if old / 128 = 1 then old
  else
    let a := if v / 8 % 4 = 2 then pick f [0, 1, 3] else v / 8 % 4
    let rw := if v % 4 = 2 then pick (f / 4) [0, 1, 3] else v % 4
    v / 128 % 2 * 128 + a * 8 + v / 4 % 2 * 4 + rw

/-- The four bytes of a PMP configuration register. -/
def pmpCfgWord (old v : Word) (f : Nat) : Word :=
  word ((List.range 4).foldl (fun n i =>
    n + pmpCfgByte (bits old (8 * i + 7) (8 * i)) (bits v (8 * i + 7) (8 * i)) (f / 16 ^ i) * 2 ^ (8 * i)) 0)

/-- Is the address register of entry `i` locked, by its own entry or by the next one's range? -/
def Core.pmpAddrLocked (x : Core) (i : Nat) : Bool :=
  x.pmpCfg i / 128 == 1 || (decide (i < 7) && x.pmpCfg (i + 1) / 128 == 1 && x.pmpCfg (i + 1) / 8 % 4 == 1)

/-- The mstatus word a write leaves; a reserved MPP becomes M or U, which is left open. -/
def mstatusWrite (c : Nat) (v : Word) (f : Nat) : Word :=
  let m := match bits v 12 11 with
    | 0 => false
    | 3 => true
    | _ => f % 2 == 1
  mstatusWord (tstBit v 3) (tstBit v 7) (m || decide (4 ≤ c)) (tstBit v 17 && decide (c < 4))

/-- Core `x` with a CSR written; `f`: a free value. -/
def Core.csrWritten (x : Core) (c a : Nat) (v : Word) (f : Nat) : Core :=
  if a = 0x300 then x.setCsr a (mstatusWrite c v f)
  else if a = 0x304 then x.setCsr a (v &&& 0x888#32)
  else if a = 0x305 then x.setCsr a (v &&& 0xFFFFFFC1#32)
  else if a = 0x306 then x.setCsr a (v &&& 7#32)
  else if a = 0x320 then x.setCsr a (v &&& 5#32)
  else if a = 0x340 ∨ a = 0x342 ∨ a = 0x343 then x.setCsr a v
  else if a = 0x341 then x.setCsr a (v &&& ~~~1#32)
  else if a = 0x3A0 ∨ a = 0x3A1 then x.setCsr a (pmpCfgWord (x.csr a) v f)
  else if 0x3B0 ≤ a ∧ a ≤ 0x3B7 then (if x.pmpAddrLocked (a - 0x3B0) then x else x.setCsr a v)
  else if a = 0x7C0 then x.setCsr a (v &&& 1#32)
  else if a = 0xB00 ∨ a = 0xB80 then { x with mcycle := setHalf (a == 0xB80) x.mcycle v }
  else if a = 0xB02 ∨ a = 0xB82 then { x with minstret := setHalf (a == 0xB82) x.minstret v }
  else x

/-- CSR_ACCESS. -/
def State.csrOp (s : State) (c : Nat) (o : CsrOp) : State :=
  let a := o.csr.toNat
  let wr := o.op == 0 || o.rs1 != 0
  if !s.csrAllowed c a wr then s.illegal c
  else
    let old := s.csrRead c a
    let src := if o.imm then word o.rs1.val else (s.core c).reg o.rs1.val
    let new := match o.op with
      | 0 => src
      | 1 => old ||| src
      | 2 => old &&& ~~~src
    let f := (s.free 32).toNat
    let s := (s.nextFree).retire c 4
    let s := if wr then s.setCore c ((s.core c).csrWritten c a new f) else s
    s.coreWrite c o.rd.val old

/-! ## Xcg (R268 to R276) -/

/-- An Xcg instruction: illegal at the management core, and in U-mode while cgctl.UXCG is 0. -/
def State.xcg (s : State) (c : Nat) (f : State → State) : State :=
  let x := s.core c
  if 4 ≤ c || (x.user && !tstBit (x.csr Csr.cgctl) 0) then s.illegal c else f s

/-- Is the tile open to the cores (CC_DISP_MASK)? All sixteen tiles are available (Table 4.9). -/
def State.tileOpen (s : State) (t : Nat) : Bool := tstBit (s.reg Reg.CC_DISP_MASK) t

/-- Is the tile busy to a dispatch (Table 9.6)? -/
def State.dispatchBusy (s : State) (t : Nat) : Bool := !s.startable t || (s.tile t).statusHeld

/-- Offer a descriptor to a tile: the state, and the result in rd. -/
def State.offer (s : State) (t : Nat) (d : List Byte) : State × Nat :=
  if !s.tileOpen t then (s, 2)
  else if s.dispatchBusy t then (s, 1)
  else match s.startTask t d true with
    | some s => (s, 0)
    | none => (s.reportFault { code := 0x0308, tile := t, part := le d 2 1 % 4, pc := 0, addr := 0, tagged := false }, 3)

/-- CG.DISP. -/
def State.cgDisp (s : State) (c rd rs1 rs2 : Nat) : State :=
  s.xcg c (fun s => s.afterDrain c (fun s =>
    let a := ((s.core c).reg rs1).toNat
    let t := ((s.core c).reg rs2).toNat % 16
    if a % 16 ≠ 0 ∨ !inSram a ∨ !inSram (a + 47) then s.accessFault c 5 0x0504 a
    else if !s.pmpOk c 0 a 48 then s.pmpFault c 5 a
    else match s.busCode (coreReq c) .read .clean a 48 with
      | some code => s.accessFault c 5 code a
      | none =>
        let d := s.busBytes a 48
        let r := (s.countCorrected a 48).offer t d
        (r.1.coreWrite c rd (word r.2)).retire c 4))

/-- CG.END. -/
def State.cgEnd (s : State) (c rd rs1 : Nat) : State :=
  s.xcg c (fun s => s.afterDrain c (fun s =>
    let t := ((s.core c).reg rs1).toNat % 16
    let r := if !s.tileOpen t then (s, 2)
      else if (s.tile t).busy then (s.endTask t, 0)
      else if (s.tile t).statusHeld then (s, 0)
      else (s, 1)
    (r.1.coreWrite c rd (word r.2)).retire c 4))

/-- CG.SIG: what mtval and CC_FAULTn_ADDR hold after CC_DISP is left open, for the instruction has no address. -/
def State.cgSig (s : State) (c rs1 rs2 : Nat) : State :=
  s.xcg c (fun s => s.afterDrain c (fun s =>
    let v := ((s.core c).reg rs1).toNat
    let n := ((s.core c).reg rs2).toNat % 256
    if !s.tileOpen (v % 16) then (s.accessFault c 7 0x0503 (s.free 32).toNat).nextFree
    else (if n = 0 then s else s.incCounter (v % 16) (v / 16 % 16) n false).retire c 4))

/-- CG.CNTRD. -/
def State.cgCntrd (s : State) (c rd rs1 : Nat) : State :=
  s.xcg c (fun s =>
    let v := ((s.core c).reg rs1).toNat
    (s.coreWrite c rd (s.cntWord (v % 16) (v / 16 % 16))).retire c 4)

/-- A free combining-buffer entry, draining the oldest when there is none (R275). -/
def State.freeNt (s : State) (c : Nat) : Option State :=
  if (s.core c).nts.length < 4 then some s
  else
    let s := s.drainNt c 0 .clean
    if (s.core c).nts.length < 4 then some s else none

/-- A word enters the combining buffer. -/
def State.enterNt (s : State) (c a : Nat) (bs : List Byte) : Option State :=
  let line := a / 64 * 64
  let x := s.core c
  match x.nts.findIdx? (fun e => e.line == line) with
  | some i => some (s.setCore c { x with nts := x.nts.modify i (fun e => { e with bytes := putCells e.bytes a bs }) })
  | none => (s.freeNt c).map (fun s =>
      s.setCore c { s.core c with nts := (s.core c).nts ++ [⟨line, putCells [] a bs⟩] })

/-- May a non-temporal store aim at the address (R275)? -/
def ntTarget (a : Nat) : Bool :=
  match regionOf a with
  | some 4 | some 5 | some 6 | some 7 => true
  | _ => false

/-- CG.NTSW. -/
def State.cgNtsw (s : State) (c rs2 rs1 : Nat) (imm : BitVec 12) : State :=
  s.xcg c (fun s =>
    let a := ((s.core c).reg rs1 + BitVec.ofInt 32 imm.toInt).toNat
    let bs := toLe 4 ((s.core c).reg rs2).toNat
    if s.triggered c a then s.haltCore c 2
    else if a % 4 ≠ 0 then s.trap c 6 false (word a)
    else if !s.pmpOk c 1 a 4 then s.pmpFault c 7 a
    else if !ntTarget a then s.accessFault c 7 0x0501 a
    else match (s.clearStores c a 4).bind (fun s => (s.ownStore c a 4).enterNt c a bs) with
      | none => s
      | some s => s.done c (fun s => s.retire c 4))

/-! ## Meanings -/

def execInstructionFetch (c : Fin 5) (m : Met) (s : State) : Host.Outcome State Fault Refusal :=
  .next (s.onCore c (fun s => s.instructionFetch c m))
def execWrongPathFetch (c : Fin 4) (a : Word) (m : Met) (s : State) : Host.Outcome State Fault Refusal :=
  .next (s.onCore c (fun s => s.wrongPathFetch c a.toNat m))
def execCoreLoad (c : Fin 5) (o : MemOp) (s : State) : Host.Outcome State Fault Refusal :=
  .next (s.onCore c (fun s => s.loadOp c o))
def execCoreStore (c : Fin 5) (o : MemOp) (s : State) : Host.Outcome State Fault Refusal :=
  .next (s.onCore c (fun s => s.storeOp c o))
def execStoreBufferDrain (c : Fin 4) (i : Nat) (m : Met) (s : State) : Host.Outcome State Fault Refusal :=
  .next (s.drainEntry c i m)
def execNtEntryDrain (c : Fin 4) (i : Nat) (m : Met) (s : State) : Host.Outcome State Fault Refusal :=
  .next (s.drainNtEntry c i m)
def execFence (c : Fin 5) (s : State) : Host.Outcome State Fault Refusal := .next (s.inOrder c (fun s => s.fence c))
def execFenceI (c : Fin 5) (s : State) : Host.Outcome State Fault Refusal := .next (s.inOrder c (fun s => s.fenceI c))
def execLrW (c : Fin 5) (o : AtomicOp) (constrained : Bool) (s : State) : Host.Outcome State Fault Refusal :=
  .next (s.inOrder c (fun s => s.lrW c o constrained))
def execScW (c : Fin 5) (o : AtomicOp) (spurious : Bool) (s : State) : Host.Outcome State Fault Refusal :=
  .next (s.inOrder c (fun s => s.scW c o spurious))
def execAmoW (c : Fin 5) (k : AmoKind) (o : AtomicOp) (s : State) : Host.Outcome State Fault Refusal :=
  .next (s.inOrder c (fun s => s.amoW c k o))
def execReservationHoldEnd (c : Fin 4) (s : State) : Host.Outcome State Fault Refusal := .next (s.holdEnd c)
def execWfi (c : Fin 5) (s : State) : Host.Outcome State Fault Refusal := .next (s.inOrder c (fun s => s.wfi c))
def execEcall (c : Fin 5) (brk : Bool) (s : State) : Host.Outcome State Fault Refusal :=
  .next (s.inOrder c (fun s => s.ecall c brk))
def execMret (c : Fin 5) (s : State) : Host.Outcome State Fault Refusal := .next (s.inOrder c (fun s => s.mret c))
def execCsrAccess (c : Fin 5) (o : CsrOp) (s : State) : Host.Outcome State Fault Refusal :=
  .next (s.inOrder c (fun s => s.csrOp c o))
def execInterruptTake (c : Fin 5) (s : State) : Host.Outcome State Fault Refusal :=
  .next (s.inOrder c (fun s => s.takeInterrupt c))
def execCgDisp (c : Fin 5) (rd rs1 rs2 : Fin 32) (s : State) : Host.Outcome State Fault Refusal :=
  .next (s.inOrder c (fun s => s.cgDisp c rd rs1 rs2))
def execCgEnd (c : Fin 5) (rd rs1 : Fin 32) (s : State) : Host.Outcome State Fault Refusal :=
  .next (s.inOrder c (fun s => s.cgEnd c rd rs1))
def execCgSig (c : Fin 5) (rs1 rs2 : Fin 32) (s : State) : Host.Outcome State Fault Refusal :=
  .next (s.inOrder c (fun s => s.cgSig c rs1 rs2))
def execCgCntrd (c : Fin 5) (rd rs1 : Fin 32) (s : State) : Host.Outcome State Fault Refusal :=
  .next (s.inOrder c (fun s => s.cgCntrd c rd rs1))
def execCgNtsw (c : Fin 5) (rs2 rs1 : Fin 32) (imm : BitVec 12) (s : State) : Host.Outcome State Fault Refusal :=
  .next (s.inOrder c (fun s => s.cgNtsw c rs2 rs1 imm))

end Sys2Proof.Machine
end

