-- ==== Sys2Proof/Machine/Debug.lean ====
section
/-! DEFINITION. The debug port at the cores and on the address map (R36, R131, R263, R296, R540, Table 17.9). -/

namespace Sys2Proof.Machine

/-- What the port shows after an access or an abstract command. -/
def State.debugShows (s : State) (error : Bool) (data : Word) : State := { s with debug := ⟨error, data⟩ }

/-- dcsr as the port writes it: ebreakm, ebreaku, step, and prv, of which only U and M exist; the cause stands (R263;
PRESUMED from RISC-V External Debug, log entry 27). -/
def dcsrWritten (old v : Word) : Word :=
  let prv := if bits v 1 0 = 0 ∨ bits v 1 0 = 3 then bits v 1 0 else bits old 1 0
  (old &&& 0x400001C0#32) ||| (v &&& 0x00009004#32) ||| word prv

/-- A read of a CSR by the port: dcsr, the pc as dpc, or a CSR of the core; none where the core has no such CSR. -/
def State.debugCsr (s : State) (c a : Nat) : Option Word :=
  if a = 0x7B0 then some (s.core c).dcsr
  else if a = 0x7B1 then some (s.core c).pc
  else if csrExists c a then some (s.csrRead c a) else none

/-- A write of a CSR by the port. -/
def State.debugCsrWrite (s : State) (c a : Nat) (v : Word) : State :=
  let x := s.core c
  if a = 0x7B0 then (s.setCore c { x with dcsr := dcsrWritten x.dcsr v }).debugShows false 0
  else if a = 0x7B1 then (s.setCore c { x with pc := v &&& ~~~1#32 }).debugShows false 0
  else if csrExists c a && decide (a < 0xC00) then
    ((s.setCore c (x.csrWritten c a v (s.free 32).toNat)).nextFree).debugShows false 0
  else s.debugShows true 0

/-- Resume: the core goes on in dcsr's mode; with dcsr.step, for one command. -/
def Core.resumed (x : Core) (step : Bool) : Core :=
  let x := { x with user := bits x.dcsr 1 0 == 0 }
  if step || tstBit x.dcsr 2 then { x with stepping := true, dcsr := setBits x.dcsr 8 6 4 }
  else { x with halted := false, stepping := false }

/-- Halt, step, resume, the triggers, and on a halted core its registers, CSRs and pc. A step runs one more command of the
core's before the halt takes hold again (log entry 27). -/
def State.debugCore (s : State) (c : Nat) (q : CoreDebug) : State :=
  let x := s.core c
  match q with
  | .halt => s.haltCore c 3
  | .trigger k addr => s.setCore c { x with triggers := x.triggers.set k.val addr }
  | .step => if x.halted then s.setCore c (x.resumed true) else s
  | .resume => if x.halted then s.setCore c (x.resumed false) else s
  | .readReg i => if x.halted then s.debugShows false (x.reg i.val) else s.debugShows true 0
  | .writeReg i v => if x.halted then (s.coreWrite c i.val v).debugShows false 0 else s.debugShows true 0
  | .readCsr a =>
    match s.debugCsr c a.toNat with
    | some v => if x.halted then (s.debugShows false v).nextFree else s.debugShows true 0
    | none => s.debugShows true 0
  | .writeCsr a v => if x.halted then s.debugCsrWrite c a.toNat v else s.debugShows true 0
  | .readPc => if x.halted then s.debugShows false x.pc else s.debugShows true 0
  | .writePc v => if x.halted then (s.setCore c { x with pc := v &&& ~~~1#32 }).debugShows false 0 else s.debugShows true 0

/-- DEBUG_HALT_CORE: refused with MG_DEBUG while debug is closed, and for the management core in Sealed (R540, Table 17.9);
nothing is reached before step 8 of the boot ends (R87). -/
def State.debugHaltCore (s : State) (c : Nat) (q : CoreDebug) : State :=
  if s.boot.step < 8 then s
  else if !s.debugOpen ∨ (c = 4 ∧ s.lifecycle = 3) then s.raiseMgLog 0x0E0D 0
  else if s.corePowered c then s.debugCore c q
  else s

/-- DEBUG_PORT_ACCESS: a read, or a write of `data`, of one, two or four bytes. None can start before step 8 of the boot
ends (R87). -/
def State.debugAccess (s : State) (a : Word) (size : Fin 3) (data : Option Word) (m : Met) : State :=
  let n := 2 ^ size.val
  if s.boot.step < 8 then s.debugShows true 0
  else if s.spillWaits a.toNat && (s.busCode .debug (if data.isSome then .write else .read) m a.toNat n).isNone then s
  else match data with
  | some v =>
    let r := s.busWrite .debug m a.toNat (toLe n v.toNat)
    r.2.debugShows r.1.isSome 0
  | none =>
    match s.busRead .debug .read m a.toNat n with
    | (.ok bs, s) => s.debugShows false (word (le bs 0 n))
    | (.error _, s) => s.debugShows true 0

def execDebugHaltCore (c : Fin 5) (q : CoreDebug) (s : State) : Host.Outcome State Fault Refusal :=
  .next (s.debugHaltCore c q)
def execDebugPortAccess (a : Word) (size : Fin 3) (data : Option Word) (m : Met) (s : State) :
    Host.Outcome State Fault Refusal := .next (s.debugAccess a size data m)

end Sys2Proof.Machine
end

