-- ==== Sys2Proof/Machine/HostOps.lean ====
section
/-! DEFINITION. The host operations of both paths and the host SPI port (R415 to R424, R431 to R434, R495). -/

namespace Sys2Proof.Machine

/-! ## The two paths -/

/-- The requester a path is (Table 1.13), and its number as PW_LAST_REFUSER gives it. -/
def pathReq : HostPath → Requester
  | .lath => .dpLath
  | .spi => .dpHost

/-- The request of a path that waits for the engine. -/
def State.hostReq (s : State) (p : HostPath) : Option HostReq :=
  match p with
  | .lath => s.link.req
  | .spi => s.spi.req

/-- The SPI response is ready: BUSY clears, DONE and the RESP event are set; a state request is handed over (R423, R495). -/
def State.spiRespond (s : State) (stat info : Nat) (payload : List Byte) (power : Option Nat) : State :=
  let b := toLe 2 stat ++ toLe 2 info ++ toLe 2 payload.length ++ toLe 2 0 ++ payload
  let s := ({ s with spi := { s.spi with req := none, response := b } }.setFlag Fld.HP_STATUS_DONE true).hostEvent 6
  match power with
  | none => s
  | some n => s.powerReq n 2

/-- Answer the request of a path. -/
def State.respond (s : State) (p : HostPath) (r : HostReq) (stat info : Nat) (payload : List Byte) (power : Option Nat) : State :=
  match p with
  | .lath => s.lathRespond r stat info payload power
  | .spi => s.spiRespond stat info payload power

/-- Answer with an HP code, which is raised. -/
def State.hostFail (s : State) (p : HostPath) (r : HostReq) (code : Nat) : State :=
  (s.raiseHp code).respond p r code 0 [] none

/-- Is an operation available in the phase and power state (Table 13.6)? -/
def State.available (s : State) (p : HostPath) (type : Nat) : Bool :=
  let phase := s.fld Fld.SYS_BOOT_STATUS_PHASE
  let always := type == 0x01 || type == 0x28 || type == 0x29
  ((phase == 1 || phase == 2) && decide (s.power < 3)) || (phase == 3 && always && p == .spi)

/-- Carry out an operation of a TYPE for the request a path holds: HP_BUSY where it is unavailable, HP_FORMAT where its
payload is malformed (R415, R417). -/
def State.hostOp (s : State) (p : HostPath) (type : Nat) (ok : List Byte → Bool) (f : State → HostReq → State) : State :=
  match s.hostReq p with
  | none => s
  | some r =>
    if r.type ≠ type then s
    else if !s.available p type then s.hostFail p r 0x0A01
    else if !ok r.payload then s.hostFail p r 0x0A02
    else f s r

/-! ## INFO, REG_READ, EVENTS -/

/-- INFO. -/
def State.opInfo (s : State) (p : HostPath) : State := s.hostOp p 0x01 (fun b => b.isEmpty) (fun s r =>
  s.respond p r 0 0 (toLe 4 0x4816 ++ s.uidBytes ++ toLe 4 (s.readReg Reg.SYS_BOOT_STATUS).toNat ++ toLe 1 s.addr ++
    toLe 1 s.powerCode ++ toLe 2 0) none)

/-- REG_READ: one aligned 32-bit load of a register (R416). -/
def State.opRegRead (s : State) (p : HostPath) : State := s.hostOp p 0x02 (fun b => b.length == 4) (fun s r =>
  let a := le r.payload 0 4
  let code := if regionOf a ≠ some 3 ∨ 0x10100000 ≤ a then 1 else if a % 4 ≠ 0 then 4 else 0
  if code ≠ 0 then (s.raiseSys code (pathReq p) a).respond p r code 0 [] none
  else s.respond p r 0 0 (toLe 4 (s.readReg a).toNat) none)

/-- EVENTS: the word before the write, then the masked sticky bits clear (R420). -/
def State.opEvents (s : State) (p : HostPath) : State := s.hostOp p 0x03 (fun b => b.length == 4) (fun s r =>
  let mask := word (le r.payload 0 4)
  match p with
  | .lath => (s.setReg Reg.LK_EVENT (s.reg Reg.LK_EVENT &&& ~~~mask)).respond p r 0 0 (toLe 4 s.lathWord.toNat) none
  | .spi => (s.setReg Reg.HP_IRQ_STATUS (s.reg Reg.HP_IRQ_STATUS &&& ~~~mask)).respond p r 0 0 (toLe 4 s.hostWord.toNat) none)

/-! ## The data port (R418) -/

/-- The data pointer of a path. -/
def dataAddr : HostPath → Nat
  | .lath => Reg.LK_DATA_ADDR
  | .spi => Reg.HP_DATA_ADDR

/-- DP_SETADDR. -/
def State.opSetAddr (s : State) (p : HostPath) : State := s.hostOp p 0x08 (fun b => b.length == 4) (fun s r =>
  let a := le r.payload 0 4
  if a % 8 ≠ 0 then s.hostFail p r 0x0A04 else (s.setReg (dataAddr p) (word a)).respond p r 0 0 [] none)

/-- What unit `i` of a burst meets: something at the unit named only. -/
def unitMet (clash : Option (Nat × Met)) (i : Nat) : Met :=
  match clash with
  | some (k, m) => if k = i then m else .clean
  | none => .clean

/-- Read `n` units from `a`: the bytes read, and the code the first failing one gave. -/
def State.readUnits (s : State) (r : Requester) (clash : Option (Nat × Met)) (a i : Nat) : Nat → List Byte × Nat × State
  | 0 => ([], 0, s)
  | n + 1 =>
    match s.busRead r .read (unitMet clash i) a 8 with
    | (.error c, s) => ([], c, s)
    | (.ok bs, s) =>
      let t := s.readUnits r clash (a + 8) (i + 1) n
      (bs ++ t.1, t.2.1, t.2.2)

/-- DP_READ: a burst of LEN bytes; zeros follow the unit that failed. -/
def State.opDpRead (s : State) (p : HostPath) (clash : Option (Nat × Met)) : State :=
  s.hostOp p 0x09 (fun b => b.length == 4 && allZero b 2 2) (fun s r =>
    let n := le r.payload 0 2
    if n % 8 ≠ 0 ∨ n < 8 ∨ 256 < n then s.hostFail p r 0x0A04
    else
      let a := (s.reg (dataAddr p)).toNat
      let t := s.readUnits (pathReq p) clash a 0 (n / 8)
      let s := t.2.2.setReg (dataAddr p) (word (a + t.1.length))
      s.respond p r t.2.1 t.1.length (t.1 ++ List.replicate (n - t.1.length) 0) none)

/-- Write units of 8 bytes: how many bytes were performed, and the code the first failing unit gave. -/
def State.writeUnits (s : State) (r : Requester) (clash : Option (Nat × Met)) (a i : Nat) (bs : List Byte) : Nat → Nat × Nat × State
  | 0 => (0, 0, s)
  | n + 1 =>
    match s.busWrite r (unitMet clash i) a (bs.take 8) with
    | (some c, s) => (0, c, s)
    | (none, s) =>
      let t := s.writeUnits r clash (a + 8) (i + 1) (bs.drop 8) n
      (8 + t.1, t.2.1, t.2.2)

/-- DP_WRITE. -/
def State.opDpWrite (s : State) (p : HostPath) (clash : Option (Nat × Met)) : State := s.hostOp p 0x0A (fun _ => true) (fun s r =>
  let n := r.payload.length
  if n % 8 ≠ 0 ∨ n < 8 ∨ 256 < n then s.hostFail p r 0x0A04
  else
    let a := (s.reg (dataAddr p)).toNat
    let t := s.writeUnits (pathReq p) clash a 0 r.payload (n / 8)
    (t.2.2.setReg (dataAddr p) (word (a + t.1))).respond p r t.2.1 t.1 [] none)

/-! ## Records (R419) -/

/-- Cursor and offered count of a path, and their change. -/
def State.cursorOf (s : State) (p : HostPath) : Nat × Nat :=
  match p with
  | .lath => (s.link.cursor, s.link.offered)
  | .spi => (s.spi.cursor, s.spi.offered)
def State.setCursor (s : State) (p : HostPath) (cursor offered : Nat) : State :=
  match p with
  | .lath => { s with link := { s.link with cursor := cursor, offered := offered } }
  | .spi => { s with spi := { s.spi with cursor := cursor, offered := offered } }

/-- Is the path's cursor enabled? -/
def State.cursorEnabled (s : State) (p : HostPath) : Bool :=
  match p with
  | .lath => s.flag Fld.LK_CFG_RECORDS
  | .spi => s.flag Fld.HP_CFG_RECORDS

/-- The whole records that fit in `n` bytes. -/
def takeRecords : Nat → List (List Word) → List (List Word)
  | _, [] => []
  | n, q :: qs => if 4 * q.length ≤ n then q :: takeRecords (n - 4 * q.length) qs else []

/-- RECORD_READ: a request with RETRY = 0 passes the records offered last; those from the cursor on are offered. -/
def State.opRecordRead (s : State) (p : HostPath) : State :=
  s.hostOp p 0x18 (fun b => b.length == 2 && decide (68 ≤ le b 0 2) && decide (le b 0 2 ≤ 256)) (fun s r =>
    if !s.cursorEnabled p then s.respond p r 0 0 [] none
    else
      let c := s.cursorOf p
      let again := r.retry && p == .lath
      let cur := max s.eg.taken (if again then c.1 else c.1 + c.2)
      let s := (s.setCursor p cur 0).trimPassed
      let recs := takeRecords (le r.payload 0 2) (s.eg.queue.drop (cur - s.eg.taken))
      (s.setCursor p cur recs.length).respond p r 0 0 (recs.flatMap (fun q => q.flatMap (fun w => toLe 4 w.toNat))) none)

/-! ## Change sets and the mailbox -/

/-- The path of a requester that is a host path. -/
def hostPathOf : Requester → Option HostPath
  | .dpLath => some .lath
  | .dpHost => some .spi
  | _ => none

/-- An operation on the change-set engine that answers a result code: for a host path, of the request it holds. -/
def State.csOp (s : State) (r : Requester) (type : Nat) (ok : List Byte → Bool) (f : State → List Byte → Nat × State)
    (bs : List Byte) : State :=
  match hostPathOf r with
  | none => (f s bs).2
  | some p => s.hostOp p type ok (fun s q =>
      let t := f s q.payload
      t.2.respond p q t.1 0 [] none)

/-- Is a CS_WRITE or MBOX_WRITE payload well formed: OFFSET, zero, 4 to 252 bytes, within `n` bytes? -/
def offsetOk (mult : Nat) (b : List Byte) : Bool :=
  decide (8 ≤ b.length) && decide (b.length ≤ 256) && allZero b 2 2 && le b 0 2 % mult == 0 && b.length % mult == 0 &&
    decide (le b 0 2 + (b.length - 4) ≤ 4096)

/-- CS_OPEN, CS_SUBMIT and CS_ABORT. -/
def State.opCsOpen (s : State) (r : Requester) : State := s.csOp r 0x20 (·.isEmpty) (fun s _ => s.csOpen r) []
def State.opCsSubmit (s : State) (r : Requester) : State := s.csOp r 0x22 (·.isEmpty) (fun s _ => s.csSubmit r) []
def State.opCsAbort (s : State) (r : Requester) : State := s.csOp r 0x23 (·.isEmpty) (fun s _ => s.csAbort r) []

/-- CS_WRITE; a core's write to PK_CSBUF brings its offset and bytes, a host path's its request. -/
def State.opCsWrite (s : State) (r : Requester) (off : Nat) (bs : List Byte) : State :=
  s.csOp r 0x21 (offsetOk 4) (fun s b => s.csWrite r (le b 0 2) (b.drop 4)) (toLe 2 off ++ toLe 2 0 ++ bs)

/-- Is a write of mailbox bytes refused (R525)? -/
def State.mbRefused (s : State) (r : Requester) (o n : Nat) : Bool :=
  let st := s.fld mbState
  let area := decide (o < 0xFF0) && (st == 2 || (st == 1 && !s.mbOwns r))
  let filled := decide (o < 0x800) && (st == 0 || st == 3)
  let bell := decide (o ≤ 0xFF0) && decide (0xFF0 < o + n) && !(filled || (st == 1 && s.mbOwns r))
  area || bell

/-- MBOX_WRITE. -/
def State.opMboxWrite (s : State) (p : HostPath) : State := s.hostOp p 0x28 (offsetOk 1) (fun s r =>
  let o := le r.payload 0 2
  let bs := r.payload.drop 4
  let stat := if s.mbRefused (pathReq p) o bs.length then 0x0E05 else 0
  (s.mbWrite (pathReq p) o bs).respond p r stat 0 [] none)

/-- MBOX_READ. -/
def State.opMboxRead (s : State) (p : HostPath) : State :=
  s.hostOp p 0x29 (fun b => b.length == 4 && decide (4 ≤ le b 2 2) && decide (le b 2 2 ≤ 256) &&
      decide (le b 0 2 + le b 2 2 ≤ 4096)) (fun s r =>
    s.respond p r 0 0 (s.mbRead (le r.payload 0 2) (le r.payload 2 2)) none)

/-- POWER_REQ: the request is handed over once its response has left or is ready (R495). -/
def State.opPowerReq (s : State) (p : HostPath) : State :=
  s.hostOp p 0x30 (fun b => b.length == 4 && allZero b 1 3) (fun s r =>
    s.respond p r 0 0 [] (some (le r.payload 0 1)))

/-! ## The host SPI port (R421 to R423) -/

/-- Does the port answer: VDDIO and VDD_AON are present and reset is not asserted? -/
def State.spiOn (s : State) : Bool := s.pins.vddAon && s.pins.resetN && s.pins.vddioGood

/-- A transaction with a known opcode clears CMD_ERR. -/
def State.goodCmd (s : State) : State := s.setFlag Fld.HP_STATUS_CMD_ERR false

/-- STATUS over `n` words. -/
def State.spiStatus (s : State) (n : Nat) : State :=
  if !s.spiOn then s
  else { s.goodCmd with spi := { s.spi with driven := (List.replicate n (toLe 4 s.hpStatus.toNat)).flatten } }

/-- REQUEST with the bytes clocked in after the opcode. -/
def State.spiRequest (s : State) (b : List Byte) : State :=
  if !s.spiOn then s
  else
    let s := s.goodCmd
    if s.spi.req.isSome then (s.setFlag Fld.HP_STATUS_REQ_ERR true).raiseHp 0x0A03
    else if b.length < 4 ∨ b.length ≠ 4 + le b 2 2 ∨ 260 < b.length then (s.setFlag Fld.HP_STATUS_REQ_ERR true).raiseHp 0x0A02
    else
      let s := (s.setFlag Fld.HP_STATUS_REQ_ERR false).setFlag Fld.HP_STATUS_DONE false
      let r : HostReq := { type := le b 0 1, payload := b.drop 4 }
      let s := { s with spi := { s.spi with req := some r, response := [] } }
      if hostType r.type then s else s.hostFail .spi r 0x0A02

/-- RESPONSE over `n` bytes: those beyond the response read 0x00. -/
def State.spiResponse (s : State) (n : Nat) : State :=
  if !s.spiOn then s
  else { s.goodCmd with spi := { s.spi with
      driven := s.spi.response.take n ++ List.replicate (n - s.spi.response.length) 0 } }

/-- IRQ_CLEAR. -/
def State.irqClear (s : State) (mask : Word) : State :=
  if !s.spiOn then s else s.goodCmd.setReg Reg.HP_IRQ_STATUS (s.reg Reg.HP_IRQ_STATUS &&& ~~~mask)

/-- WAKE. -/
def State.spiWake (s : State) : State := if !s.spiOn then s else s.goodCmd.wakeFrom 2 0

/-- HP_BAD_CMD: an opcode that Table 13.9 does not have; the port stays silent. -/
def State.badCmd (s : State) (op : Byte) : State :=
  if !s.spiOn ∨ [0x05#8, 0x02#8, 0x32#8, 0x0B#8, 0x6B#8, 0x61#8, 0xAB#8].contains op then s
  else
    let s := ((s.setFlag Fld.HP_STATUS_CMD_ERR true).incSat Fld.HP_BAD_CMD_CNT_COUNT 1).raiseHp 0x0A05
    { s with spi := { s.spi with driven := [] } }

/-! ## Meanings -/

def execInfo (p : HostPath) (s : State) : Host.Outcome State Fault Refusal := .next (s.opInfo p)
def execRegRead (p : HostPath) (s : State) : Host.Outcome State Fault Refusal := .next (s.opRegRead p)
def execEvents (p : HostPath) (s : State) : Host.Outcome State Fault Refusal := .next (s.opEvents p)
def execDpSetaddr (p : HostPath) (s : State) : Host.Outcome State Fault Refusal := .next (s.opSetAddr p)
def execDpRead (p : HostPath) (clash : Option (Nat × Met)) (s : State) : Host.Outcome State Fault Refusal := .next (s.opDpRead p clash)
def execDpWrite (p : HostPath) (clash : Option (Nat × Met)) (s : State) : Host.Outcome State Fault Refusal := .next (s.opDpWrite p clash)
def execRecordRead (p : HostPath) (s : State) : Host.Outcome State Fault Refusal := .next (s.opRecordRead p)
def execCsOpen (r : Requester) (s : State) : Host.Outcome State Fault Refusal := .next (s.opCsOpen r)
def execCsWrite (r : Requester) (off : Nat) (bs : List Byte) (s : State) : Host.Outcome State Fault Refusal :=
  .next (s.opCsWrite r off bs)
def execCsSubmit (r : Requester) (s : State) : Host.Outcome State Fault Refusal := .next (s.opCsSubmit r)
def execCsAbort (r : Requester) (s : State) : Host.Outcome State Fault Refusal := .next (s.opCsAbort r)
def execMboxWrite (p : HostPath) (s : State) : Host.Outcome State Fault Refusal := .next (s.opMboxWrite p)
def execMboxRead (p : HostPath) (s : State) : Host.Outcome State Fault Refusal := .next (s.opMboxRead p)
def execPowerReq (p : HostPath) (s : State) : Host.Outcome State Fault Refusal := .next (s.opPowerReq p)
def execStatus (n : Nat) (s : State) : Host.Outcome State Fault Refusal := .next (s.spiStatus n)
def execRequest (b : List Byte) (s : State) : Host.Outcome State Fault Refusal := .next (s.spiRequest b)
def execRequestQuad (b : List Byte) (s : State) : Host.Outcome State Fault Refusal := .next (s.spiRequest b)
def execResponse (n : Nat) (s : State) : Host.Outcome State Fault Refusal := .next (s.spiResponse n)
def execResponseQuad (n : Nat) (s : State) : Host.Outcome State Fault Refusal := .next (s.spiResponse n)
def execIrqClear (mask : Word) (s : State) : Host.Outcome State Fault Refusal := .next (s.irqClear mask)
def execWake (s : State) : Host.Outcome State Fault Refusal := .next s.spiWake
def execHpBadCmd (op : Byte) (s : State) : Host.Outcome State Fault Refusal := .next (s.badCmd op)

end Sys2Proof.Machine
end

