-- ==== Sys2Proof/Machine/TileCtl.lean ====
section
/-! DEFINITION. The CTL and SYNC ops (Tables 6.10 and 6.17), the end of a task, its scrub, and TF_HANG. -/

namespace Sys2Proof.Machine

/-- Loop counter `i` of a tile. -/
def State.lReg (s : State) (t i : Nat) : Nat := vget 0 (s.tile t).l i

/-- Set a loop counter. -/
def State.setL (s : State) (t i v : Nat) : State := s.setTile t { s.tile t with l := vput (s.tile t).l i v }

/-- The bundle index a branch by OFF reaches, as an 18-bit index; one outside the program faults at the
fetch (Table 6.10). -/
def OpRun.branch (o : OpRun) (t : Nat) (off : Nat) : OpRun :=
  { o with jump := some (unsigned 18 (((o.s.tile t).pc : Int) + signed 18 off)) }

/-- CTL.NOP does nothing but complete its bundle. -/
def doNop (b : TileOp) (s : State) : State := runOp 0 0 b s (fun o => o)

/-- CTL.LDA: AD = VALUE. -/
def doLda (b : TileOp) (s : State) : State :=
  runOp 0 1 b s (fun o => o.mapState (fun s => s.setA b.tile (opBits b 11 8) (word (opBits b 43 12))))

/-- CTL.ADDA: AD.ROW += IMM, modulo 2^19. -/
def doAdda (b : TileOp) (s : State) : State :=
  runOp 0 2 b s (fun o => o.mapState (fun s =>
    s.setA b.tile (opBits b 11 8) (addRow (s.aReg b.tile (opBits b 11 8)) (signed 20 (opBits b 31 12)))))

/-- CTL.LDL: L[LD] = IMM. -/
def doLdl (b : TileOp) (s : State) : State :=
  runOp 0 3 b s (fun o => o.mapState (fun s => s.setL b.tile (opBits b 10 8) (opBits b 27 12)))

/-- CTL.LDLR: L[LD] = 16-bit element H of row AS. -/
def doLdlr (b : TileOp) (s : State) : State :=
  runOp 0 4 b s (fun o =>
    let p := o.read b (o.s.aReg b.tile (opBits b 15 12)) 0
    p.2.andThen (fun o => o.mapState (fun s =>
      s.setL b.tile (opBits b 10 8) (rowElem 16 (opBits b 23 16) p.1))))

/-- CTL.LOOP: a non-zero counter is decremented and the branch taken; else the op falls through. -/
def doLoop (b : TileOp) (s : State) : State :=
  runOp 0 5 b s (fun o =>
    let l := o.s.lReg b.tile (opBits b 10 8)
    if l = 0 then o
    else (o.mapState (fun s => s.setL b.tile (opBits b 10 8) (l - 1))).branch b.tile (opBits b 29 12))

/-- CTL.BNZ: the branch is taken while the counter is not zero. -/
def doBnz (b : TileOp) (s : State) : State :=
  runOp 0 6 b s (fun o =>
    if o.s.lReg b.tile (opBits b 10 8) = 0 then o else o.branch b.tile (opBits b 29 12))

/-- CTL.JUMP. -/
def doJump (b : TileOp) (s : State) : State := runOp 0 7 b s (fun o => o.branch b.tile (opBits b 29 12))

/-- CTL.SETM sets the task's FTZ bit. -/
def doSetm (b : TileOp) (s : State) : State :=
  runOp 0 8 b s (fun o => o.mapState (fun s => s.setTile b.tile { s.tile b.tile with ftz := opBit b 8 }))

/-- CTL.END: the task ends. -/
def doEnd (b : TileOp) (s : State) : State := runOp 0 9 b s (fun o => o.mapState (fun s => s.endTask b.tile))

/-- SYNC.WAIT: on a saturated counter the task ends with TF_ARRIVAL_OVF (R188); at or above THRESH the
counter gives THRESH up and a tagged counter tags the task (R17); below it the op waits. -/
def doSyncWait (b : TileOp) (s : State) : State :=
  runOp 7 0 b s (fun o =>
    let k := opBits b 11 8
    let n := opBits b 27 12
    let c := o.s.counter b.tile k
    if c.saturated then o.fail 0x0305 0
    else if n ≤ c.value then
      o.mapState (fun s =>
        let s := s.setCounter b.tile k { c with value := c.value - n }
        if c.tag then s.tagTask b.tile else s)
    else { o with waits := true })

/-- The tiles a SIG or PUSH direction mask names; none when one of them does not exist. -/
def maskTiles (t mask : Nat) : Option (List Nat) :=
  ((List.range 4).filter (fun d => mask / 2 ^ d % 2 = 1)).mapM (neighbour t)

/-- SYNC.SIG: VALUE is added to the counter of this tile if SELF and of each named neighbour; an absent
neighbour raises TF_SPACE. -/
def doSyncSig (b : TileOp) (s : State) : State :=
  runOp 7 1 b s (fun o =>
    match maskTiles b.tile (opBits b 16 13) with
    | none => o.fail 0x0302 0
    | some ts =>
      let ts := (if opBit b 12 then [b.tile] else []) ++ ts
      let tag := (o.s.tile b.tile).tag
      o.mapState (fun s => ts.foldl (fun s t => s.incCounter t (opBits b 11 8) (opBits b 24 17) tag) s))

/-! ## Task ends and scrubs -/

/-- TASK_END of tile `t`: with a fault code of Table 6.20 or Table 7.7 and the row it was met at, the fault is reported and a
frame is voided; an SP code also stands in the SP registers and is counted (R214, R235); with 0, the task is ended from
outside (R178). -/
def doTaskEnd (t code : Nat) (row : Word) (s : State) : State :=
  if (s.tile t).busy then
    if code = 0 then s.endTask t
    else if code / 256 = 4 then
      (s.raiseTileSp t code (s.absRow t row 0) (s.tile t).tag).tileFault t code (relAddr row 0)
    else s.tileFault t code (relAddr row 0)
  else s

/-- TF_HANG: the task has exceeded its LIMIT while HANG_EN is 1 (R178, R196). -/
def doTfHang (t : Nat) (s : State) : State :=
  let x := s.tile t
  if x.busy && s.flag Fld.TF_CTRL_HANG_EN && x.task.limit != 0 then s.tileFault t 0x0306 0 else s

/-- The scrub of R217: every tagged row of the own-near window, of the near banks remote writers touched,
and of the far task window. -/
def State.taskScrub (s : State) (t : Nat) : State :=
  let x := s.tile t
  let rel := x.task.rel
  let s := s.scrubTagged (nearKey t rel.nearBase) (nearKey t (rel.nearBase + rel.nearSize))
  let s := x.remote.foldl (fun s k => s.scrubTagged (nearKey t (128 * k)) (nearKey t (128 * k + 128))) s
  s.scrubTagged (farKey rel.taskBase) (farKey (rel.taskBase + rel.taskSize))

/-- The tile's internal state as a scrub leaves it; the counters keep their values and lose their tags
(R18, R39); the task's identity stays readable, and a debug halt that waited takes hold (R36). -/
def Tile.cleared (x : Tile) : Tile :=
  { x with
    run := .idle
    a := Vector.replicate 16 0
    l := Vector.replicate 8 0
    v := Vector.replicate 16 0
    acc := Vector.replicate 4 {}
    lut := 0
    cnt := x.cnt.map (fun c => { c with tag := false })
    ftz := false
    flags := {}
    bundle := none
    tag := false
    remote := [] }

/-- TASK_SCRUB_DONE (R39, R217): the rows are scrubbed and the tile can start its next task; the scrubber's waits at banks
are counted (R213). The scrub ends only after the ended task's writes have landed (R178). -/
def doTaskScrubDone (t waited : Nat) (s : State) : State :=
  if (s.tile t).run = .scrubbing ∧ s.tileLanding t = false then
    let s := (s.taskScrub t).incSat Fld.SP_WAIT_CNT_COUNT waited
    s.setTile t (s.tile t).cleared
  else s

/-! ## Row writes in flight (R171, R172, R182, R194, R232) -/

/-- A write in flight can land when no earlier one of its tile waits for the same bank (R172). -/
def canLand (ws : List RowWrite) (i : Nat) : Bool :=
  match ws[i]? with
  | none => false
  | some w => !(ws.take i).any (fun v => v.tile == w.tile && bankOf v.dest == bankOf w.dest)

/-- The fault of a write at its landing: it ends the writer's task, whose report names the bundle that issued it and the row
as the task named it; once that task has ended the error is only counted, in SP_CONFLICT_CNT as every failed access
(R214, R232; which counter is DEDUCED, log entry 17). -/
def State.landFault (s : State) (w : RowWrite) (code : Nat) : State :=
  let s := s.raiseTileSp w.tile code (keyCode w.dest) w.tag
  if w.ended then (if w.tag || code == 0x0401 then s else s.incSat Fld.SP_CONFLICT_CNT_COUNT 1)
  else s.tileFaultAt w.tile w.pc code w.addr

/-- A write reaches its bank, with the earlier requester it overlapped, if any. -/
def State.landWrite (s : State) (w : RowWrite) (clash : Option BankUser) : State :=
  if s.isProgramRow w.dest then (if w.ended then s else s.tileFaultAt w.tile w.pc 0x0303 w.addr)
  else match s.wideCode w.dest with
  | some c => s.landFault w c
  | none => match clash with
    | none => s.landRow w.tile w.dest w.data w.tag w.sig
    | some u =>
      if u = .tile ∨ u = .narrow then s.landFault w 0x0401
      else (if w.tag then s else s.incSat Fld.SP_WAIT_CNT_COUNT 1).landRow w.tile w.dest w.data w.tag w.sig

/-- ROW_WRITE_LAND of the `i`-th write in flight; the last one of an ended task lets its scrub start. -/
def doRowWriteLand (i : Nat) (clash : Option BankUser) (s : State) : State :=
  match s.inFlight[i]? with
  | none => s
  | some w =>
    if canLand s.inFlight i then (({ s with inFlight := s.inFlight.eraseIdx i }).landWrite w clash).scrubStart w.tile else s

/-! ## Meanings -/

def execNop (b : TileOp) (s : State) : Host.Outcome State Fault Refusal := .next (doNop b s)
def execLda (b : TileOp) (s : State) : Host.Outcome State Fault Refusal := .next (doLda b s)
def execAdda (b : TileOp) (s : State) : Host.Outcome State Fault Refusal := .next (doAdda b s)
def execLdl (b : TileOp) (s : State) : Host.Outcome State Fault Refusal := .next (doLdl b s)
def execLdlr (b : TileOp) (s : State) : Host.Outcome State Fault Refusal := .next (doLdlr b s)
def execLoop (b : TileOp) (s : State) : Host.Outcome State Fault Refusal := .next (doLoop b s)
def execBnz (b : TileOp) (s : State) : Host.Outcome State Fault Refusal := .next (doBnz b s)
def execJump (b : TileOp) (s : State) : Host.Outcome State Fault Refusal := .next (doJump b s)
def execSetm (b : TileOp) (s : State) : Host.Outcome State Fault Refusal := .next (doSetm b s)
def execEnd (b : TileOp) (s : State) : Host.Outcome State Fault Refusal := .next (doEnd b s)
def execSyncWait (b : TileOp) (s : State) : Host.Outcome State Fault Refusal := .next (doSyncWait b s)
def execSyncSig (b : TileOp) (s : State) : Host.Outcome State Fault Refusal := .next (doSyncSig b s)
def execTaskEnd (t : Fin 16) (code : Nat) (row : Word) (s : State) : Host.Outcome State Fault Refusal :=
  .next (doTaskEnd t code row s)
def execTaskScrubDone (t : Fin 16) (waited : Nat) (s : State) : Host.Outcome State Fault Refusal :=
  .next (doTaskScrubDone t waited s)
def execTfHang (t : Fin 16) (s : State) : Host.Outcome State Fault Refusal := .next (doTfHang t s)
def execRowWriteLand (i : Nat) (clash : Option BankUser) (s : State) : Host.Outcome State Fault Refusal :=
  .next (doRowWriteLand i clash s)

end Sys2Proof.Machine
end

