-- ==== Sys2Proof/Machine/TileMove.lean ====
section
/-! DEFINITION. The MOVE and GATH ops (Tables 6.11 and 6.15), synchronous and asynchronous, and their reads
of spilled rows (R182, R224). -/

namespace Sys2Proof.Machine

/-- The number of the op a task issues now (R182). -/
def State.opSeq (s : State) (t : Nat) : Nat := (s.tile t).asyncSeq

/-- Put a row of a copy on its way to a located destination: written now, or in flight when the op is
asynchronous. -/
def OpRun.deliver (o : OpRun) (b : TileOp) (async : Bool) (key addr : Nat) (r : Row)
    (sig : Option (Nat × Nat)) : OpRun :=
  if async then
    o.andThen (fun o => o.mapState (fun s => { s with inFlight := s.inFlight ++
      [{ tile := b.tile, seq := s.opSeq b.tile, dest := key, data := r, tag := (s.tile b.tile).tag, sig := sig,
         pc := (s.tile b.tile).pc, addr := addr }] }))
  else o.writeKey b key addr r sig

/-- Enter a spilled source row in the request table, or let it wait for room (R224). -/
def OpRun.request (o : OpRun) (b : TileOp) (async : Bool) (row key src addr : Nat) (sig : Option (Nat × Nat)) : OpRun :=
  o.mapState (fun s =>
    let x := s.tile b.tile
    { s with sp := { s.sp with requests := s.sp.requests ++
      [{ part := x.task.part, row := row, dest := key, tile := b.tile, sig := sig, tag := x.tag, seq := x.asyncSeq,
         blocking := !async, waiting := decide (256 ≤ s.spillPending), pc := x.pc, srcAddr := src, addr := addr }] } })

/-- Copy one row: source address `src`, destination address `dst`, both already advanced to their row. -/
def OpRun.copyRow (o : OpRun) (b : TileOp) (async : Bool) (src : Word) (i : Nat) (dst : Word) (j : Nat)
    (sig : Option Nat) : OpRun :=
  o.andThen (fun o =>
    match o.s.locate b.tile src i false with
    | .error c => o.failRel b.tile c src i
    | .ok (.spill row) =>
      (match o.s.locate b.tile dst j true with
      | .ok (.row key) =>
        o.request b async row key (relAddr src i) (relAddr dst j) (sig.map (fun n => (sigOwner b.tile key, n)))
      | .ok (.spill _) => o.failRel b.tile 0x0402 dst j
      | .error c => o.failRel b.tile c dst j)
    | .ok (.row skey) =>
      let p := o.readKey b skey (relAddr src i)
      p.2.andThen (fun o =>
        match o.s.locate b.tile dst j true with
        | .ok (.row key) =>
          o.deliver b async key (relAddr dst j) p.1 (sig.map (fun n => (sigOwner b.tile key, n)))
        | .ok (.spill _) => o.write b dst j p.1 sig
        | .error c => o.failRel b.tile c dst j))

/-- Does the op read a tagged row among the listed source rows, up to the first it cannot reach? -/
def State.readsTag (s : State) (t : Nat) (src : Word) : List Nat → Bool
  | [] => false
  | k :: ks =>
    match s.locate t src k false with
    | .error _ => false
    | .ok (.spill _) => s.readsTag t src ks
    | .ok (.row key) =>
      s.bankPowered (bankOf key) && !s.bankNarrow (bankOf key) && (s.tagged key || s.readsTag t src ks)

/-- Before an op of several rows writes anything, the task takes the tag of every row the op reads (R20). -/
def OpRun.takeTags (o : OpRun) (b : TileOp) (src : Word) (ks : List Nat) : OpRun :=
  o.andThen (fun o => if o.s.readsTag b.tile src ks then o.mapState (fun s => s.tagTask b.tile) else o)

/-- Run a copy for each element of a list of (source row, destination row) offsets. -/
def OpRun.copyAll (o : OpRun) (b : TileOp) (async : Bool) (src : Word) (dst : Word) (sig : Option Nat) :
    List (Nat × Nat) → OpRun
  | [] => o
  | (i, j) :: rest =>
    let o := o.copyRow b async src i dst j sig
    if o.fault.isSome then o else o.copyAll b async src dst sig rest

/-- An asynchronous op has a number of its own (R182). -/
def State.nextSeq (s : State) (t : Nat) : State :=
  s.setTile t { s.tile t with asyncSeq := (s.tile t).asyncSeq + 1 }

/-- Issue a MOVE or GATH; a ninth asynchronous op waits (R182). -/
def OpRun.issue (o : OpRun) (b : TileOp) (async : Bool) (f : OpRun → OpRun) : OpRun :=
  if async && decide (8 ≤ (o.s.outstanding b.tile).length) then { o with waits := true } else f o

/-- MOVE.COPY. -/
def doCopy (b : TileOp) (s : State) : State :=
  let n := opBits b 25 18 + 1
  let async := opBit b 26
  runOp 1 0 b s (fun o => o.issue b async (fun o =>
    let src := o.s.aReg b.tile (opBits b 11 8)
    let dst := o.s.aReg b.tile (opBits b 15 12)
    let sig := if opBit b 27 then some (opBits b 31 28) else none
    ((o.takeTags b src (List.range n)).copyAll b async src dst sig ((List.range n).map (fun k => (k, k)))).andThen (fun o =>
      o.mapState (fun s => ((s.postInc b.tile (opBits b 11 8) (opBit b 16)).postInc b.tile
        (opBits b 15 12) (opBit b 17)).nextSeq b.tile))))

/-- Push one row to each of the listed directions: the row of AD in the neighbour's near (Table 6.11). -/
def OpRun.pushTo (o : OpRun) (b : TileOp) (async : Bool) (ad : Word) (k : Nat) (r : Row) (cnt : Nat) :
    List Nat → OpRun
  | [] => o
  | d :: ds =>
    let dst := setBits (setBits ad 21 20 1) 23 22 d
    let o := o.andThen (fun o =>
      match o.s.locate b.tile dst k true with
      | .ok (.row key) => o.deliver b async key (relAddr dst k) r (some (sigOwner b.tile key, cnt))
      | .ok (.spill _) => o.fail 0x0302 (relAddr dst k)
      | .error c => o.failRel b.tile c dst k)
    o.pushTo b async ad k r cnt ds

/-- Push rows `k` onward, `n` of them. -/
def OpRun.pushRows (o : OpRun) (b : TileOp) (async : Bool) (src ad : Word) (cnt : Nat) (dirs : List Nat) :
    Nat → Nat → OpRun
  | 0, _ => o
  | n + 1, k =>
    if o.fault.isSome then o
    else
      let p := o.read b src k
      (p.2.andThen (fun o => o.pushTo b async ad k p.1 cnt dirs)).pushRows b async src ad cnt dirs n (k + 1)

/-- MOVE.PUSH: its source is own near. -/
def doPush (b : TileOp) (s : State) : State :=
  let n := opBits b 25 18 + 1
  let async := opBit b 26
  runOp 1 1 b s (fun o => o.issue b async (fun o =>
    let src := o.s.aReg b.tile (opBits b 11 8)
    let ad := o.s.aReg b.tile (opBits b 15 12)
    let dirs := (List.range 4).filter (fun d => opBit b (32 + d))
    if bits src 21 20 ≠ 0 then o.fail 0x0302 (relAddr src 0)
    else
      ((o.takeTags b src (List.range n)).pushRows b async src ad (opBits b 31 28) dirs n 0).andThen (fun o =>
        o.mapState (fun s => ((s.postInc b.tile (opBits b 11 8) (opBit b 16)).postInc b.tile
          (opBits b 15 12) (opBit b 17)).nextSeq b.tile))))

/-- MOVE.LDV: V[VD] = row AS. -/
def doLdv (b : TileOp) (s : State) : State :=
  runOp 1 2 b s (fun o =>
    let p := o.read b (o.s.aReg b.tile (opBits b 11 8)) 0
    (p.2.writeV b (opBits b 15 12) 0 p.1).andThen (fun o =>
      o.mapState (fun s => s.postInc b.tile (opBits b 11 8) (opBit b 16))))

/-- MOVE.STV: row AD = V[VS]. -/
def doStv (b : TileOp) (s : State) : State :=
  runOp 1 3 b s (fun o =>
    let r := vget 0 (o.s.tile b.tile).v (opBits b 15 12)
    (o.write b (o.s.aReg b.tile (opBits b 11 8)) 0 r none).andThen (fun o =>
      o.mapState (fun s => s.postInc b.tile (opBits b 11 8) (opBit b 17))))

/-- Does an index lead out of the window of a table base? -/
def indexLeaves (ab : Word) (index : Nat) : Bool :=
  let r := bits ab 18 0 + index
  decide (2 ^ 19 ≤ r) || (bits ab 21 20 == 2 && bits ab 18 18 != r / 2 ^ 18)

/-- Gather one row: the table row at `AB.ROW + index`, which must stay in AB's space and window (R185,
R210), to destination row `j`. -/
def OpRun.gatherRow (o : OpRun) (b : TileOp) (async : Bool) (ab : Word) (index : Nat) (ad : Word) (j : Nat)
    (sig : Option Nat) : OpRun :=
  if indexLeaves ab index then o.andThen (fun o => o.failRel b.tile 0x0402 ab index)
  else o.copyRow b async ab index ad j sig

/-- Gather every index of a list. -/
def OpRun.gatherAll (o : OpRun) (b : TileOp) (async : Bool) (ab ad : Word) (sig : Option Nat) :
    Nat → List Nat → OpRun
  | _, [] => o
  | j, i :: is =>
    let o := o.gatherRow b async ab i ad j sig
    if o.fault.isSome then o else o.gatherAll b async ab ad sig (j + 1) is

/-- GATH: its destination is own near or far; the table is never neighbour near. -/
def doGath (b : TileOp) (s : State) : State :=
  let n := opBits b 27 20 + 1
  let async := opBit b 29
  let wide := !opBit b 28
  runOp 5 0 b s (fun o => o.issue b async (fun o =>
    let ai := o.s.aReg b.tile (opBits b 11 8)
    let ab := o.s.aReg b.tile (opBits b 15 12)
    let ad := o.s.aReg b.tile (opBits b 19 16)
    if wide ∧ 128 < n then o.fail 0x0301 0
    else if bits ab 21 20 = 1 then o.fail 0x0302 (relAddr ab 0)
    else if bits ad 21 20 = 1 ∨ bits ad 21 20 = 3 then o.fail 0x0302 (relAddr ad 0)
    else
      let p := o.read b ai 0
      let idx := (List.range n).map (fun i => rowElem (if wide then 32 else 16) i p.1)
      let sig := if opBit b 30 then some (opBits b 34 31) else none
      (p.2.andThen (fun o =>
        (o.takeTags b ab (idx.takeWhile (fun i => !indexLeaves ab i))).gatherAll b async ab ad sig 0 idx)).andThen (fun o =>
          o.mapState (fun s => ((s.postInc b.tile (opBits b 11 8) (opBit b 35)).postInc b.tile
            (opBits b 19 16) (opBit b 36)).nextSeq b.tile))))

/-! ## Meanings -/

def execCopy (b : TileOp) (s : State) : Host.Outcome State Fault Refusal := .next (doCopy b s)
def execPush (b : TileOp) (s : State) : Host.Outcome State Fault Refusal := .next (doPush b s)
def execLdv (b : TileOp) (s : State) : Host.Outcome State Fault Refusal := .next (doLdv b s)
def execStv (b : TileOp) (s : State) : Host.Outcome State Fault Refusal := .next (doStv b s)
def execGath (b : TileOp) (s : State) : Host.Outcome State Fault Refusal := .next (doGath b s)

end Sys2Proof.Machine
end

