-- ==== Sys2Proof/Machine/TileCompute.lean ====
section
/-! DEFINITION. The MMA, VEC, RED and TMASK ops (Tables 6.12, 6.13, 6.14 and 6.16, R245 to R252). -/

namespace Sys2Proof.Machine

/-- Accumulator `i` of a tile. -/
def State.accReg (s : State) (t i : Nat) : Accum := vget {} (s.tile t).acc i

/-- Set an accumulator. -/
def State.setAcc (s : State) (t i : Nat) (a : Accum) : State :=
  s.setTile t { s.tile t with acc := vput (s.tile t).acc i a }

/-- The 1,024 elements of an accumulator. -/
def Accum.list (a : Accum) : List Nat := unpack 32 1024 a.elems.toNat

/-- An accumulator of the listed elements. -/
def accOf (es : List Nat) (cls : Option Bool) : Accum := { elems := BitVec.ofNat 32768 (pack 32 es), cls := cls }

/-- The elements of several rows in a format, in row order. -/
def elemsOf (f : Fmt) (rs : List Row) : List Nat := rs.flatMap (rowElems f)

/-- Elements of `w` bits as whole rows; the last row is zero beyond them. -/
def rowsOfElems (w : Nat) : Nat → List Nat → List Row
  | 0, _ => []
  | n + 1, es => rowOf w (es.take (4096 / w)) :: rowsOfElems w n (es.drop (4096 / w))

/-- How many rows `n` elements of `w` bits take. -/
def rowCount (w n : Nat) : Nat := (n * w + 4095) / 4096

/-- A row whose first `k` bits are known and whose rest the spec leaves open: a free value (log entry 2). -/
def State.openRow (s : State) (r : Row) (k : Nat) : Row :=
  if 4096 ≤ k then r
  else
    let m : Row := BitVec.ofNat 4096 (2 ^ k - 1)
    (r &&& m) ||| (Config.freeRow s.freeIdx &&& ~~~m)

/-- Rows of `n` elements of `w` bits, the end of the last one free. -/
def State.openRows (s : State) (w : Nat) (es : List Nat) : List Row :=
  let rs := rowsOfElems w (rowCount w es.length) es
  match rs.reverse with
  | [] => []
  | r :: pre => (s.openRow r (es.length * w - 4096 * (rs.length - 1)) :: pre).reverse

/-! ## MMA -/

/-- MMA.MM (R245, R246). -/
def doMm (b : TileOp) (s : State) : State :=
  runOp 2 0 b s (fun o =>
    let f := fmtOf (opBits b 20 18)
    let i := opBits b 17 16
    let a := o.s.accReg b.tile i
    let clr := opBit b 21
    let cls := !fmtIsInt f
    if !clr ∧ a.cls = some (!cls) then o.fail 0x0301 0
    else
      let ax := o.s.aReg b.tile (opBits b 11 8)
      let aw := o.s.aReg b.tile (opBits b 15 12)
      let px := readRows (fun o k => o.read b ax k) 2 0 o
      let pw := readRows (fun o k => o.read b aw k) 2 0 px.2
      pw.2.andThen (fun o => o.mapState (fun s =>
        let old := if clr then List.replicate 1024 0 else a.list
        let r := mmAll f (s.tile b.tile).ftz old (elemsOf f px.1) (elemsOf f pw.1)
        let s := (s.setAcc b.tile i (accOf r.1 (some cls))).addFlags b.tile r.2
        (s.postInc b.tile (opBits b 11 8) (opBit b 22)).postInc b.tile (opBits b 15 12) (opBit b 23))))

/-- MMA.DRAIN (R247). -/
def doDrain (b : TileOp) (s : State) : State :=
  runOp 2 1 b s (fun o =>
    let i := opBits b 17 16
    let a := o.s.accReg b.tile i
    let ofmt := opBits b 19 18
    if ofmt ≠ 0 ∧ a.cls = some false then o.fail 0x0301 0
    else
      let r := collect (a.list.map (drainElem (a.cls == some true) ofmt (o.s.tile b.tile).ftz))
      let w := if ofmt = 0 then 32 else 16
      let ad := o.s.aReg b.tile (opBits b 11 8)
      let o := writeRows (fun o k row => o.write b ad k row none) 0 (rowsOfElems w (rowCount w 1024) r.1)
        (o.mapState (fun s => s.addFlags b.tile r.2))
      o.andThen (fun o => o.mapState (fun s =>
        let s := if opBit b 21 then s.setAcc b.tile i {} else s
        s.postInc b.tile (opBits b 11 8) (opBit b 22))))

/-! ## VEC -/

/-- The post-increments of a VEC op (Table 6.13). -/
def State.vecIncs (s : State) (b : TileOp) : State :=
  ((s.postIncV b.tile (opBits b 12 8) (opBit b 26)).postIncV b.tile (opBits b 17 13) (opBit b 27)).postIncV
    b.tile (opBits b 22 18) (opBit b 28)

/-- The end of a VEC op: its flags, its result rows to VD, its post-increments. Every element is computed before the first
row is written, so the flags stand where a write then faults (R256; the order within an op is open, log entry 21). -/
def OpRun.vecDone (o : OpRun) (b : TileOp) (rows : List Row) (fl : NumFlags) : OpRun :=
  (writeRows (fun o k row => o.writeV b (opBits b 12 8) k row) 0 rows (o.mapState (fun s => s.addFlags b.tile fl))).andThen
    (fun o => o.mapState (fun s => s.vecIncs b))

/-- A VEC op of two operand rows. -/
def OpRun.vec2 (o : OpRun) (b : TileOp) (f : Row → Row → Row × NumFlags) : OpRun :=
  let pa := o.readV b (opBits b 17 13) 0
  let pb := if pa.2.fault.isSome then (0, pa.2) else pa.2.readV b (opBits b 22 18) 0
  pb.2.andThen (fun o =>
    let r := f pa.1 pb.1
    o.vecDone b [r.1] r.2)

/-- The format and FTZ bit of a VEC op. -/
def vecFmt (b : TileOp) : Fmt := fmtOf (opBits b 25 23)
def State.ftzOf (s : State) (t : Nat) : Bool := (s.tile t).ftz

/-- VEC.ADD, SUB, MUL, MAX and MIN. -/
def OpRun.vecArith (o : OpRun) (b : TileOp) (op : VecOp) : OpRun :=
  o.vec2 b (fun x y => vecRow op (vecFmt b) (o.s.ftzOf b.tile) 0 x y)

def doVecAdd (b : TileOp) (s : State) : State := runOp 3 0 b s (fun o => o.vecArith b .add)
def doVecSub (b : TileOp) (s : State) : State := runOp 3 1 b s (fun o => o.vecArith b .sub)
def doVecMul (b : TileOp) (s : State) : State := runOp 3 2 b s (fun o => o.vecArith b .mul)
def doVecMax (b : TileOp) (s : State) : State := runOp 3 4 b s (fun o => o.vecArith b .max)
def doVecMin (b : TileOp) (s : State) : State := runOp 3 5 b s (fun o => o.vecArith b .min)

/-- VEC.FMA: VD + VA × VB, rounded once; VD is an operand too. -/
def doVecFma (b : TileOp) (s : State) : State :=
  runOp 3 3 b s (fun o =>
    let pd := o.readV b (opBits b 12 8) 0
    pd.2.andThen (fun o => o.vec2 b (fun x y => vecRow .fma (vecFmt b) (o.s.ftzOf b.tile) pd.1 x y)))

/-- VEC.SCL: VA × element 0 of VB. -/
def doScl (b : TileOp) (s : State) : State :=
  runOp 3 9 b s (fun o => o.vec2 b (fun x y => sclRow (vecFmt b) (o.s.ftzOf b.tile) x y))

/-- VEC.LUT: one row of FMT through the LUT; the results in FMT2 take as many rows as they fill, and what
they leave of a row is free (R248, R249; log entry 2). -/
def doVecLut (b : TileOp) (s : State) : State :=
  runOp 3 6 b s (fun o =>
    let pa := o.readV b (opBits b 17 13) 0
    pa.2.andThen (fun o =>
      let f2 := fmtOf (opBits b 31 29)
      let r := lutElems (o.s.tile b.tile).lut (vecFmt b) f2 (o.s.ftzOf b.tile) (rowElems (vecFmt b) pa.1)
      (o.vecDone b (o.s.openRows (fmtWidth f2) r.1) r.2).mapState State.nextFree))

/-- VEC.LUTLD: LUT = row VA. -/
def doLutld (b : TileOp) (s : State) : State :=
  runOp 3 7 b s (fun o =>
    let pa := o.readV b (opBits b 17 13) 0
    pa.2.andThen (fun o => o.mapState (fun s =>
      (s.setTile b.tile { s.tile b.tile with lut := pa.1 }).vecIncs b)))

/-- VEC.CVT over as many rows as the narrower format's row of elements takes (R250). -/
def doCvt (b : TileOp) (s : State) : State :=
  runOp 3 8 b s (fun o =>
    let f := vecFmt b
    let f2 := fmtOf (opBits b 31 29)
    let n := max (fmtPerRow f) (fmtPerRow f2)
    let pa := readRows (fun o k => o.readV b (opBits b 17 13) k) (n / fmtPerRow f) 0 o
    pa.2.andThen (fun o =>
      let r := collect ((elemsOf f pa.1).map (cvtElem f f2 (o.s.ftzOf b.tile)))
      o.vecDone b (rowsOfElems (fmtWidth f2) (n / fmtPerRow f2) r.1) r.2))

/-! ## RED -/

/-- A RED op: one 32-bit result per group, packed from element 0 of VD; more than 128 results go on in the
following rows (R183, log entry 22). -/
def OpRun.red (o : OpRun) (b : TileOp) (op : RedOp) : OpRun :=
  let pa := o.readV b (opBits b 17 13) 0
  pa.2.andThen (fun o =>
    let r := redRow op (vecFmt b) (o.s.ftzOf b.tile) (opBits b 31 28) pa.1
    let rows := rowsOfElems 32 (rowCount 32 r.1.length) r.1
    (writeRows (fun o k row => o.writeV b (opBits b 12 8) k row) 0 rows
      (o.mapState (fun s => s.addFlags b.tile r.2))).andThen (fun o =>
        o.mapState (fun s => (s.postIncV b.tile (opBits b 12 8) (opBit b 26)).postIncV b.tile (opBits b 17 13) (opBit b 27))))

def doRedSum (b : TileOp) (s : State) : State := runOp 4 0 b s (fun o => o.red b .sum)
def doRedMax (b : TileOp) (s : State) : State := runOp 4 1 b s (fun o => o.red b .max)
def doRedMin (b : TileOp) (s : State) : State := runOp 4 2 b s (fun o => o.red b .min)
def doArgmax (b : TileOp) (s : State) : State := runOp 4 3 b s (fun o => o.red b .argmax)
def doSumsq (b : TileOp) (s : State) : State := runOp 4 4 b s (fun o => o.red b .sumsq)

/-! ## TMASK -/

/-- Mask the trees of a list of scores, 256 scores a tree, `n` trees. -/
def maskTrees (fill : Nat) (mask : Row) : Nat → Nat → List Nat → List Nat
  | 0, _, _ => []
  | n + 1, t, es => maskTree fill (rowElem 256 t mask) (es.take 256) ++ maskTrees fill mask n (t + 1) (es.drop 256)

/-- A TMASK op over T trees: the mask row, the score rows, the result rows (Table 6.16). -/
def OpRun.tmask (o : OpRun) (b : TileOp) (fill : Fmt → Nat) : OpRun :=
  let f := fmtOf (opBits b 22 20)
  let n := opBits b 28 25 + 1
  let am := o.s.aReg b.tile (opBits b 11 8)
  let as := o.s.aReg b.tile (opBits b 15 12)
  let ad := o.s.aReg b.tile (opBits b 19 16)
  let pm := o.read b am 0
  let pr := if pm.2.fault.isSome then ([], pm.2)
    else readRows (fun o k => o.read b as k) (rowCount (fmtWidth f) (256 * n)) 0 pm.2
  pr.2.andThen (fun o =>
    let es := maskTrees (fill f) pm.1 n 0 ((elemsOf f pr.1).take (256 * n))
    let o := writeRows (fun o k row => o.write b ad k row none) 0 (o.s.openRows (fmtWidth f) es) o
    o.andThen (fun o => o.mapState (fun s =>
      (((s.postInc b.tile (opBits b 11 8) (opBit b 29)).postInc b.tile (opBits b 15 12) (opBit b 23)).postInc
        b.tile (opBits b 19 16) (opBit b 24)).nextFree)))

def doTmaskFill (b : TileOp) (s : State) : State := runOp 6 0 b s (fun o => o.tmask b fillCode)
def doTmaskZero (b : TileOp) (s : State) : State := runOp 6 1 b s (fun o => o.tmask b (fun _ => 0))

/-! ## Meanings -/

def execMm (b : TileOp) (s : State) : Host.Outcome State Fault Refusal := .next (doMm b s)
def execDrain (b : TileOp) (s : State) : Host.Outcome State Fault Refusal := .next (doDrain b s)
def execVecAdd (b : TileOp) (s : State) : Host.Outcome State Fault Refusal := .next (doVecAdd b s)
def execVecSub (b : TileOp) (s : State) : Host.Outcome State Fault Refusal := .next (doVecSub b s)
def execVecMul (b : TileOp) (s : State) : Host.Outcome State Fault Refusal := .next (doVecMul b s)
def execVecFma (b : TileOp) (s : State) : Host.Outcome State Fault Refusal := .next (doVecFma b s)
def execVecMax (b : TileOp) (s : State) : Host.Outcome State Fault Refusal := .next (doVecMax b s)
def execVecMin (b : TileOp) (s : State) : Host.Outcome State Fault Refusal := .next (doVecMin b s)
def execVecLut (b : TileOp) (s : State) : Host.Outcome State Fault Refusal := .next (doVecLut b s)
def execLutld (b : TileOp) (s : State) : Host.Outcome State Fault Refusal := .next (doLutld b s)
def execCvt (b : TileOp) (s : State) : Host.Outcome State Fault Refusal := .next (doCvt b s)
def execScl (b : TileOp) (s : State) : Host.Outcome State Fault Refusal := .next (doScl b s)
def execRedSum (b : TileOp) (s : State) : Host.Outcome State Fault Refusal := .next (doRedSum b s)
def execRedMax (b : TileOp) (s : State) : Host.Outcome State Fault Refusal := .next (doRedMax b s)
def execRedMin (b : TileOp) (s : State) : Host.Outcome State Fault Refusal := .next (doRedMin b s)
def execArgmax (b : TileOp) (s : State) : Host.Outcome State Fault Refusal := .next (doArgmax b s)
def execSumsq (b : TileOp) (s : State) : Host.Outcome State Fault Refusal := .next (doSumsq b s)
def execTmaskFill (b : TileOp) (s : State) : Host.Outcome State Fault Refusal := .next (doTmaskFill b s)
def execTmaskZero (b : TileOp) (s : State) : Host.Outcome State Fault Refusal := .next (doTmaskZero b s)

end Sys2Proof.Machine
end

