-- ==== Sys2Proof/Machine/Dispatch.lean ====
section
/-! DEFINITION. The dispatch of a command to its meaning: one arm per row of spec/opcode_table.json. -/

namespace Sys2Proof.Machine

def exec (i : Instr) (s : State) : Host.Outcome State Fault Refusal :=
  match i with
  | .powerOn vbatKept testEn => Sys2Proof.Machine.execPowerOn vbatKept testEn s
  | .resetNAssert => Sys2Proof.Machine.execResetNAssert s
  | .resetNRelease vbatKept testEn => Sys2Proof.Machine.execResetNRelease vbatKept testEn s
  | .vddAonBrownout => Sys2Proof.Machine.execVddAonBrownout s
  | .vddioModeLatch v33 => Sys2Proof.Machine.execVddioModeLatch v33 s
  | .lholdNFall => Sys2Proof.Machine.execLholdNFall s
  | .lholdNRise => Sys2Proof.Machine.execLholdNRise s
  | .referenceStable => Sys2Proof.Machine.execReferenceStable s
  | .bootNoRef => Sys2Proof.Machine.execBootNoRef s
  | .bootVddio => Sys2Proof.Machine.execBootVddio s
  | .vcorePgHigh => Sys2Proof.Machine.execVcorePgHigh s
  | .bootVcorePg => Sys2Proof.Machine.execBootVcorePg s
  | .bootAvs => Sys2Proof.Machine.execBootAvs s
  | .bootVmem => Sys2Proof.Machine.execBootVmem s
  | .bootScrubDone part clean bad => Sys2Proof.Machine.execBootScrubDone part clean bad s
  | .packageLoad kind part ioA ioB => Sys2Proof.Machine.execPackageLoad kind part ioA ioB s
  | .bootRunEntry => Sys2Proof.Machine.execBootRunEntry s
  | .bootTimeout => Sys2Proof.Machine.execBootTimeout s
  | .bootRetryReset => Sys2Proof.Machine.execBootRetryReset s
  | .softwareReset r v => Sys2Proof.Machine.execSoftwareReset r v s
  | .wdtStart v => Sys2Proof.Machine.execWdtStart v s
  | .wdtKick v => Sys2Proof.Machine.execWdtKick v s
  | .sysWdt => Sys2Proof.Machine.execSysWdt s
  | .registerWrite r a v => Sys2Proof.Machine.execRegisterWrite r a v s
  | .provision r confirm => Sys2Proof.Machine.execProvision r confirm s
  | .sealOp r confirm => Sys2Proof.Machine.execSeal r confirm s
  | .returnOp r confirm => Sys2Proof.Machine.execReturn r confirm s
  | .dsTagQuery v => Sys2Proof.Machine.execDsTagQuery v s
  | .violCntClr => Sys2Proof.Machine.execViolCntClr s
  | .dsCapFrameWrite v => Sys2Proof.Machine.execDsCapFrameWrite v s
  | .dsCapRateWrite v => Sys2Proof.Machine.execDsCapRateWrite v s
  | .digestStart r v => Sys2Proof.Machine.execDigestStart r v s
  | .digestDone sha hist => Sys2Proof.Machine.execDigestDone sha hist s
  | .debugHaltTile t q => Sys2Proof.Machine.execDebugHaltTile t q s
  | .faultIntervalEnd p => Sys2Proof.Machine.execFaultIntervalEnd p s
  | .budgetSlotAdvance => Sys2Proof.Machine.execBudgetSlotAdvance s
  | .outThermalShutdown n => Sys2Proof.Machine.execOutThermalShutdown n s
  | .outLimitTimeout n => Sys2Proof.Machine.execOutLimitTimeout n s
  | .outRetry n => Sys2Proof.Machine.execOutRetry n s
  | .outLatchClear n => Sys2Proof.Machine.execOutLatchClear n s
  | .heldLowSet n => Sys2Proof.Machine.execHeldLowSet n s
  | .heldLowClear n => Sys2Proof.Machine.execHeldLowClear n s
  | .inputComparatorResolve n l => Sys2Proof.Machine.execInputComparatorResolve n l s
  | .inputSample n l => Sys2Proof.Machine.execInputSample n l s
  | .frameInstant means => Sys2Proof.Machine.execFrameInstant means s
  | .exposureStart k => Sys2Proof.Machine.execExposureStart k s
  | .chargeTransfer => Sys2Proof.Machine.execChargeTransfer s
  | .ringRowWrite r held => Sys2Proof.Machine.execRingRowWrite r held s
  | .ringRowAck k => Sys2Proof.Machine.execRingRowAck k s
  | .slotHeaderWrite => Sys2Proof.Machine.execSlotHeaderWrite s
  | .pxRunStart => Sys2Proof.Machine.execPxRunStart s
  | .pxRunStop => Sys2Proof.Machine.execPxRunStop s
  | .pxApply => Sys2Proof.Machine.execPxApply s
  | .pxApplyTakeEffect => Sys2Proof.Machine.execPxApplyTakeEffect s
  | .pxRingHoldRelease high v => Sys2Proof.Machine.execPxRingHoldRelease high v s
  | .pxSupplyRestart => Sys2Proof.Machine.execPxSupplyRestart s
  | .taskEnd t code row => Sys2Proof.Machine.execTaskEnd t code row s
  | .taskScrubDone t waited => Sys2Proof.Machine.execTaskScrubDone t waited s
  | .tfHang t => Sys2Proof.Machine.execTfHang t s
  | .rowWriteLand k clash => Sys2Proof.Machine.execRowWriteLand k clash s
  | .bankWaitAdmit k => Sys2Proof.Machine.execBankWaitAdmit k s
  | .nop b => Sys2Proof.Machine.execNop b s
  | .lda b => Sys2Proof.Machine.execLda b s
  | .adda b => Sys2Proof.Machine.execAdda b s
  | .ldl b => Sys2Proof.Machine.execLdl b s
  | .ldlr b => Sys2Proof.Machine.execLdlr b s
  | .loop b => Sys2Proof.Machine.execLoop b s
  | .bnz b => Sys2Proof.Machine.execBnz b s
  | .jump b => Sys2Proof.Machine.execJump b s
  | .setm b => Sys2Proof.Machine.execSetm b s
  | .endOp b => Sys2Proof.Machine.execEnd b s
  | .copy b => Sys2Proof.Machine.execCopy b s
  | .push b => Sys2Proof.Machine.execPush b s
  | .ldv b => Sys2Proof.Machine.execLdv b s
  | .stv b => Sys2Proof.Machine.execStv b s
  | .mm b => Sys2Proof.Machine.execMm b s
  | .drain b => Sys2Proof.Machine.execDrain b s
  | .vecAdd b => Sys2Proof.Machine.execVecAdd b s
  | .vecSub b => Sys2Proof.Machine.execVecSub b s
  | .vecMul b => Sys2Proof.Machine.execVecMul b s
  | .vecFma b => Sys2Proof.Machine.execVecFma b s
  | .vecMax b => Sys2Proof.Machine.execVecMax b s
  | .vecMin b => Sys2Proof.Machine.execVecMin b s
  | .vecLut b => Sys2Proof.Machine.execVecLut b s
  | .lutld b => Sys2Proof.Machine.execLutld b s
  | .cvt b => Sys2Proof.Machine.execCvt b s
  | .scl b => Sys2Proof.Machine.execScl b s
  | .redSum b => Sys2Proof.Machine.execRedSum b s
  | .redMax b => Sys2Proof.Machine.execRedMax b s
  | .redMin b => Sys2Proof.Machine.execRedMin b s
  | .argmax b => Sys2Proof.Machine.execArgmax b s
  | .sumsq b => Sys2Proof.Machine.execSumsq b s
  | .gath b => Sys2Proof.Machine.execGath b s
  | .tmaskFill b => Sys2Proof.Machine.execTmaskFill b s
  | .tmaskZero b => Sys2Proof.Machine.execTmaskZero b s
  | .syncWait b => Sys2Proof.Machine.execSyncWait b s
  | .syncSig b => Sys2Proof.Machine.execSyncSig b s
  | .supervisorDecision => Sys2Proof.Machine.execSupervisorDecision s
  | .beatMonitorMeasure rate => Sys2Proof.Machine.execBeatMonitorMeasure rate s
  | .slowFloorLog => Sys2Proof.Machine.execSlowFloorLog s
  | .tfSupMarginWrite v => Sys2Proof.Machine.execTfSupMarginWrite v s
  | .spApply r => Sys2Proof.Machine.execSpApply r s
  | .spApplyTakeEffect => Sys2Proof.Machine.execSpApplyTakeEffect s
  | .bankReady b => Sys2Proof.Machine.execBankReady b s
  | .bankReleaseScrubDone b waited => Sys2Proof.Machine.execBankReleaseScrubDone b waited s
  | .spillSweepStart => Sys2Proof.Machine.execSpillSweepStart s
  | .spillSweepRow io taken waited => Sys2Proof.Machine.execSpillSweepRow io taken waited s
  | .spillSweepEnd => Sys2Proof.Machine.execSpillSweepEnd s
  | .xsResetRelease => Sys2Proof.Machine.execXsResetRelease s
  | .instructionFetch c m => Sys2Proof.Machine.execInstructionFetch c m s
  | .wrongPathFetch c a m => Sys2Proof.Machine.execWrongPathFetch c a m s
  | .coreLoad c o => Sys2Proof.Machine.execCoreLoad c o s
  | .coreStore c o => Sys2Proof.Machine.execCoreStore c o s
  | .storeBufferDrain c k m => Sys2Proof.Machine.execStoreBufferDrain c k m s
  | .ntEntryDrain c k m => Sys2Proof.Machine.execNtEntryDrain c k m s
  | .fence c => Sys2Proof.Machine.execFence c s
  | .fenceI c => Sys2Proof.Machine.execFenceI c s
  | .lrW c o constrained => Sys2Proof.Machine.execLrW c o constrained s
  | .scW c o spurious => Sys2Proof.Machine.execScW c o spurious s
  | .amoW c k o => Sys2Proof.Machine.execAmoW c k o s
  | .reservationHoldEnd c => Sys2Proof.Machine.execReservationHoldEnd c s
  | .wfi c => Sys2Proof.Machine.execWfi c s
  | .ecall c brk => Sys2Proof.Machine.execEcall c brk s
  | .mret c => Sys2Proof.Machine.execMret c s
  | .csrAccess c o => Sys2Proof.Machine.execCsrAccess c o s
  | .interruptTake c => Sys2Proof.Machine.execInterruptTake c s
  | .cgDisp c rd rs1 rs2 => Sys2Proof.Machine.execCgDisp c rd rs1 rs2 s
  | .cgEnd c rd rs1 => Sys2Proof.Machine.execCgEnd c rd rs1 s
  | .cgSig c rs1 rs2 => Sys2Proof.Machine.execCgSig c rs1 rs2 s
  | .cgCntrd c rd rs1 => Sys2Proof.Machine.execCgCntrd c rd rs1 s
  | .cgNtsw c rs2 rs1 imm => Sys2Proof.Machine.execCgNtsw c rs2 rs1 imm s
  | .coreRst v => Sys2Proof.Machine.execCoreRst v s
  | .ccIrqPendClear v => Sys2Proof.Machine.execCcIrqPendClear v s
  | .partitionFrameStart p => Sys2Proof.Machine.execPartitionFrameStart p s
  | .svTileBusy p => Sys2Proof.Machine.execSvTileBusy p s
  | .partitionFrameClose p verdicts reqs => Sys2Proof.Machine.execPartitionFrameClose p verdicts reqs s
  | .deadlineInstant p => Sys2Proof.Machine.execDeadlineInstant p s
  | .frameAbandon p => Sys2Proof.Machine.execFrameAbandon p s
  | .overrunIntervalEnd p => Sys2Proof.Machine.execOverrunIntervalEnd p s
  | .partitionEnable p => Sys2Proof.Machine.execPartitionEnable p s
  | .partitionDisable p => Sys2Proof.Machine.execPartitionDisable p s
  | .epochBoundaryApply p => Sys2Proof.Machine.execEpochBoundaryApply p s
  | .csOpen r => Sys2Proof.Machine.execCsOpen r s
  | .csWrite r off bs => Sys2Proof.Machine.execCsWrite r off bs s
  | .csSubmit r => Sys2Proof.Machine.execCsSubmit r s
  | .csAbort r => Sys2Proof.Machine.execCsAbort r s
  | .csCheckDone => Sys2Proof.Machine.execCsCheckDone s
  | .csStagingDone => Sys2Proof.Machine.execCsStagingDone s
  | .csBoundary p => Sys2Proof.Machine.execCsBoundary p s
  | .csDeferTimeout p => Sys2Proof.Machine.execCsDeferTimeout p s
  | .csQuiesce io => Sys2Proof.Machine.execCsQuiesce io s
  | .csOpenTimeout => Sys2Proof.Machine.execCsOpenTimeout s
  | .holdoffExpiry n => Sys2Proof.Machine.execHoldoffExpiry n s
  | .vacancyExpiry n => Sys2Proof.Machine.execVacancyExpiry n s
  | .outCmdWrite n v => Sys2Proof.Machine.execOutCmdWrite n v s
  | .outStale n => Sys2Proof.Machine.execOutStale n s
  | .portOpen ohms => Sys2Proof.Machine.execPortOpen ohms s
  | .heartbeatSend p => Sys2Proof.Machine.execHeartbeatSend p s
  | .heartbeatReceive p a c codeError => Sys2Proof.Machine.execHeartbeatReceive p a c codeError s
  | .portLost p => Sys2Proof.Machine.execPortLost p s
  | .lathFrameRxU f => Sys2Proof.Machine.execLathFrameRxU f s
  | .lathFrameRxD f => Sys2Proof.Machine.execLathFrameRxD f s
  | .info p => Sys2Proof.Machine.execInfo p s
  | .regRead p => Sys2Proof.Machine.execRegRead p s
  | .events p => Sys2Proof.Machine.execEvents p s
  | .dpSetaddr p => Sys2Proof.Machine.execDpSetaddr p s
  | .dpRead p clash => Sys2Proof.Machine.execDpRead p clash s
  | .dpWrite p clash => Sys2Proof.Machine.execDpWrite p clash s
  | .sync => Sys2Proof.Machine.execSync s
  | .enumerate => Sys2Proof.Machine.execEnumerate s
  | .delay turn fwd => Sys2Proof.Machine.execDelay turn fwd s
  | .delayMeasureStart => Sys2Proof.Machine.execDelayMeasureStart s
  | .delayResponse => Sys2Proof.Machine.execDelayResponse s
  | .delayTimeout => Sys2Proof.Machine.execDelayTimeout s
  | .recordRead p => Sys2Proof.Machine.execRecordRead p s
  | .mboxWrite p => Sys2Proof.Machine.execMboxWrite p s
  | .mboxRead p => Sys2Proof.Machine.execMboxRead p s
  | .powerReq p => Sys2Proof.Machine.execPowerReq p s
  | .wakePattern target codeError => Sys2Proof.Machine.execWakePattern target codeError s
  | .linkEnergyWake => Sys2Proof.Machine.execLinkEnergyWake s
  | .status n => Sys2Proof.Machine.execStatus n s
  | .request b => Sys2Proof.Machine.execRequest b s
  | .requestQuad b => Sys2Proof.Machine.execRequestQuad b s
  | .response n => Sys2Proof.Machine.execResponse n s
  | .responseQuad n => Sys2Proof.Machine.execResponseQuad n s
  | .irqClear mask => Sys2Proof.Machine.execIrqClear mask s
  | .wake => Sys2Proof.Machine.execWake s
  | .hpBadCmd op => Sys2Proof.Machine.execHpBadCmd op s
  | .calendarRollover => Sys2Proof.Machine.execCalendarRollover s
  | .oscStop => Sys2Proof.Machine.execOscStop s
  | .vbatSample mv => Sys2Proof.Machine.execVbatSample mv s
  | .rtcSet => Sys2Proof.Machine.execRtcSet s
  | .capture => Sys2Proof.Machine.execCapture s
  | .delayNow => Sys2Proof.Machine.execDelayNow s
  | .syncTimeout => Sys2Proof.Machine.execSyncTimeout s
  | .rtcFollowCheck => Sys2Proof.Machine.execRtcFollowCheck s
  | .start => Sys2Proof.Machine.execStart s
  | .selfcal => Sys2Proof.Machine.execSelfcal s
  | .syscalZero k => Sys2Proof.Machine.execSyscalZero k s
  | .syscalFull k => Sys2Proof.Machine.execSyscalFull k s
  | .axRun run => Sys2Proof.Machine.execAxRun run s
  | .axBankSwitch bank => Sys2Proof.Machine.execAxBankSwitch bank s
  | .axImgMaskWrite v => Sys2Proof.Machine.execAxImgMaskWrite v s
  | .axSigWrite dest v => Sys2Proof.Machine.execAxSigWrite dest v s
  | .axPowerUp => Sys2Proof.Machine.execAxPowerUp s
  | .axPassStart late => Sys2Proof.Machine.execAxPassStart late s
  | .axEntryResult raw => Sys2Proof.Machine.execAxEntryResult raw s
  | .axPassEnd => Sys2Proof.Machine.execAxPassEnd s
  | .auxRowLanded waited => Sys2Proof.Machine.execAuxRowLanded waited s
  | .selfcalDone sums => Sys2Proof.Machine.execSelfcalDone sums s
  | .syscalDone raw => Sys2Proof.Machine.execSyscalDone raw s
  | .enterTrim => Sys2Proof.Machine.execEnterTrim s
  | .enterSkim => Sys2Proof.Machine.execEnterSkim s
  | .enterDoze => Sys2Proof.Machine.execEnterDoze s
  | .enterOff => Sys2Proof.Machine.execEnterOff s
  | .leaveTrim => Sys2Proof.Machine.execLeaveTrim s
  | .wakeFromSkim => Sys2Proof.Machine.execWakeFromSkim s
  | .wakeFromDoze => Sys2Proof.Machine.execWakeFromDoze s
  | .ldoHigh => Sys2Proof.Machine.execLdoHigh s
  | .avsWriteAck slaveAck => Sys2Proof.Machine.execAvsWriteAck slaveAck s
  | .avsReadResponse mv => Sys2Proof.Machine.execAvsReadResponse mv s
  | .pwAvsTimeout readBack => Sys2Proof.Machine.execPwAvsTimeout readBack s
  | .avsLostPoll answered => Sys2Proof.Machine.execAvsLostPoll answered s
  | .tempSample logic pixel memory => Sys2Proof.Machine.execTempSample logic pixel memory s
  | .vddCoreUv pgLow => Sys2Proof.Machine.execVddCoreUv pgLow s
  | .vddMemUv => Sys2Proof.Machine.execVddMemUv s
  | .vddPixaUv => Sys2Proof.Machine.execVddPixaUv s
  | .supplyRestartEnd cond => Sys2Proof.Machine.execSupplyRestartEnd cond s
  | .mboxDoorbell r v => Sys2Proof.Machine.execMboxDoorbell r v s
  | .mboxFillTimeout => Sys2Proof.Machine.execMboxFillTimeout s
  | .mboxInfo => Sys2Proof.Machine.execMboxInfo s
  | .snagRead => Sys2Proof.Machine.execSnagRead s
  | .updBegin => Sys2Proof.Machine.execUpdBegin s
  | .updData => Sys2Proof.Machine.execUpdData s
  | .updFinish => Sys2Proof.Machine.execUpdFinish s
  | .updAbort => Sys2Proof.Machine.execUpdAbort s
  | .updTimeout => Sys2Proof.Machine.execUpdTimeout s
  | .arbAdvance => Sys2Proof.Machine.execArbAdvance s
  | .keyProgram => Sys2Proof.Machine.execKeyProgram s
  | .keyRevoke => Sys2Proof.Machine.execKeyRevoke s
  | .policyProgram => Sys2Proof.Machine.execPolicyProgram s
  | .lifecycle => Sys2Proof.Machine.execLifecycle s
  | .reset => Sys2Proof.Machine.execReset s
  | .mboxFirmwareCmd status res0 res1 payload => Sys2Proof.Machine.execMboxFirmwareCmd status res0 res1 payload s
  | .fzProgKey r slot => Sys2Proof.Machine.execFzProgKey r slot s
  | .fzProgRevoke r slot => Sys2Proof.Machine.execFzProgRevoke r slot s
  | .fzProgArb r => Sys2Proof.Machine.execFzProgArb r s
  | .fzProgPolicy r => Sys2Proof.Machine.execFzProgPolicy r s
  | .pseudoGen r => Sys2Proof.Machine.execPseudoGen r s
  | .snagEntryWrite => Sys2Proof.Machine.execSnagEntryWrite s
  | .mgNvmProg left => Sys2Proof.Machine.execMgNvmProg left s
  | .mgWdtKick r v => Sys2Proof.Machine.execMgWdtKick r v s
  | .mgWdt => Sys2Proof.Machine.execMgWdt s
  | .vddioGood => Sys2Proof.Machine.execVddioGood s
  | .vddioFall => Sys2Proof.Machine.execVddioFall s
  | .vddMemGood => Sys2Proof.Machine.execVddMemGood s
  | .ldoOverload => Sys2Proof.Machine.execLdoOverload s
  | .debugHaltCore c q => Sys2Proof.Machine.execDebugHaltCore c q s
  | .debugPortAccess a size data m => Sys2Proof.Machine.execDebugPortAccess a size data m s
  | .writeInProgressClear => Sys2Proof.Machine.execWriteInProgressClear s
  | .fuseProgramDone ok part => Sys2Proof.Machine.execFuseProgramDone ok part s

end Sys2Proof.Machine
end

