-- ==== Sys2Proof/Machine/Tick.lean ====
section
/-! DEFINITION. What passes while no command waits: one 40 ns cycle of the reference, or one tick of the calendar clock
while the reference is stopped (log entry 3). -/

namespace Sys2Proof.Machine

/-- An idle step: the time counters and the calendar, CC_MTIME and mcycle, and the two Lath lines go on by one tick, and
SV_VOID is raised for voids held back a second ago. -/
def State.tick (s : State) : State :=
  if s.time.refRuns then (List.range 4).foldl State.voidsDue s.tickRunning.followNow.tickCores.tickLink else s.tickStopped

end Sys2Proof.Machine
end

