-- ==== Sys2Proof/Machine/Pins.lean ====
section
/-! DEFINITION. What the device puts on its balls, read off the state: Table 2.10 in its three conditions, and from there on
what the spec drives them with (R62, R66, R69, R219, R420, R424). The state holds nothing of its own for a ball whose level
follows from other state. -/

namespace Sys2Proof.Machine

/-- The balls of Table 2.10 by their rows; OUT and IN by channel. -/
inductive Ball where
  | out (n : Fin 2)
  | inp (n : Fin 2)
  | lath
  | lholdResetN
  | testEn
  | vcoreEn
  | vcorePg
  | hspiBus
  | hspiCsN
  | irqN
  | nvCsN
  | nvBus
  | xsCsN
  | xsResetN
  | xsBus
  | avs
  | tapIn
  | tdo
  | ain
deriving DecidableEq, Repr

/-- What stands on a ball from the device's side. -/
inductive BallDrive where
  /-- No driver and no pull. -/
  | highZ
  /-- The passive resistor that needs no supply: 100 kΩ to FGND or VSS. -/
  | passive
  /-- An input with its pull, or without one. -/
  | pullUp | pullDown | input
  | low | high
  /-- Open drain or open switch, not pulling. -/
  | released
  /-- Lath: bypass closed, termination disconnected and drivers off; or the port open. -/
  | bypassed | portOpen
  /-- Driven by its block as the block's transactions need it. -/
  | byBlock
deriving DecidableEq, Repr

/-- Column "Unpowered" of Table 2.10. -/
def Ball.unpowered : Ball → BallDrive
  | .out _ => .highZ
  | .inp _ => .passive
  | .lath => .bypassed
  | .vcoreEn => .passive
  | _ => .highZ

/-- Column "During reset". -/
def Ball.inReset : Ball → BallDrive
  | .out _ => .released
  | .inp _ => .passive
  | .lath => .bypassed
  | .lholdResetN => .pullUp
  | .testEn => .pullDown
  | .vcoreEn => .low
  | .vcorePg => .input
  | .hspiBus => .highZ
  | .hspiCsN => .pullUp
  | .irqN => .released
  | .nvCsN => .pullUp
  | .nvBus => .highZ
  | .xsCsN => .pullUp
  | .xsResetN => .low
  | .xsBus => .highZ
  | .avs => .pullUp
  | .tapIn => .input
  | .tdo => .highZ
  | .ain => .highZ

/-- IRQ_N pulls low: out of reset, while HP_IRQ_STATUS AND HP_IRQ_EN is not zero (R420, R424). -/
def State.irqLow (s : State) : Bool := s.outOfReset && s.hostWord &&& s.reg Reg.HP_IRQ_EN != 0

/-- Column "After reset", and what follows it once the block is configured. -/
def State.ballRunning (s : State) : Ball → BallDrive
  | .out n => if s.outOn n.val then .low else .released
  | .lath => if s.fld Fld.LK_STATUS_U_STATE = portClosed then .bypassed else .portOpen
  | .vcoreEn => if s.pins.vcoreEn then .high else .low
  | .irqN => if s.irqLow then .low else .released
  | .nvCsN => .high
  | .nvBus => .byBlock
  | .xsCsN => .high
  | .xsResetN => if s.flag Fld.SP_XS_STATUS_READY then .high else .low
  | .avs => .high
  | b => b.inReset

/-- What stands on a ball. VDDIO's own balls follow VDD_AON's condition: Table 2.10 gives no column for one supply without
the other (DESIGN CHOICE, log entry 42). -/
def State.ball (s : State) (b : Ball) : BallDrive :=
  if !s.pins.vddAon then b.unpowered
  else if s.boot.step = 0 then b.inReset
  else s.ballRunning b

end Sys2Proof.Machine
end

