-- ==== Sys2Proof/WellFormed.lean ====
section
/-! DEFINITION. Which commands are well formed: operands in the ranges that what sends them can bring. -/

namespace Sys2Proof

/-- A requester that exists: four cores, sixteen tiles. -/
def Requester.valid : Requester → Bool
  | .core n => decide (n < 4)
  | .tile t => decide (t < 16)
  | .mgmt | .dpLath | .dpHost | .debug | .gate | .verifier | .spill => true

/-- An op of a tile that exists. -/
def TileOp.valid (b : TileOp) : Bool := decide (b.tile < 16)

/-- Samples as a converter gives them: 12 bits each (R137). -/
def adcSamples (l : List Nat) : Bool := l.all (fun v => decide (v < 4096))

/-- A row of one of the two gains, with its own line among the converted ones, or with the cells of Skim. -/
def PixRow.valid (r : PixRow) : Bool :=
  decide (r.gain < 2) && r.lines.all (fun x => adcSamples x.hcg && adcSamples x.lcg) && r.cells.all adcSamples &&
    (r.lines.any (fun x => x.row == r.line) || !r.cells.isEmpty)

/-- A code of the aux converter: 14 bits (R457). -/
def adcCode (v : Int) : Bool := decide (-8192 ≤ v) && decide (v < 8192)

/-- A Lath frame of a length the link carries: header, at most 256 bytes of payload, CRC (R400). -/
def RxFrame.valid (f : RxFrame) : Bool := decide (f.bytes.length ≤ 274)

/-- Is the command well formed? -/
def Instr.wellFormed : Instr → Bool
  | .powerOn _ _ | .resetNAssert | .resetNRelease _ _ | .vddAonBrownout | .vddioModeLatch _ | .lholdNFall | .lholdNRise
  | .referenceStable | .bootNoRef | .bootVddio | .vcorePgHigh | .bootVcorePg | .bootAvs | .bootVmem
  | .packageLoad _ _ _ _ | .bootRunEntry | .bootTimeout | .bootRetryReset | .wdtStart _ | .wdtKick _ | .sysWdt
  | .dsTagQuery _ | .violCntClr | .dsCapFrameWrite _ | .dsCapRateWrite _ | .debugHaltTile _ _ | .faultIntervalEnd _
  | .budgetSlotAdvance | .outThermalShutdown _ | .outLimitTimeout _ | .outRetry _ | .outLatchClear _ | .heldLowSet _
  | .heldLowClear _ | .inputComparatorResolve _ _ | .inputSample _ _ | .exposureStart _
  | .chargeTransfer | .ringRowAck _ | .slotHeaderWrite | .pxRunStart | .pxRunStop | .pxApply | .pxApplyTakeEffect
  | .pxRingHoldRelease _ _ | .pxSupplyRestart | .taskScrubDone _ _ | .tfHang _ | .rowWriteLand _ _ | .bankWaitAdmit _
  | .supervisorDecision | .beatMonitorMeasure _ | .slowFloorLog | .tfSupMarginWrite _ | .spApplyTakeEffect
  | .spillSweepStart | .spillSweepRow _ _ _ | .spillSweepEnd | .xsResetRelease | .instructionFetch _ _
  | .wrongPathFetch _ _ _ | .coreLoad _ _ | .coreStore _ _ | .storeBufferDrain _ _ _ | .ntEntryDrain _ _ _ | .fence _
  | .fenceI _ | .lrW _ _ _ | .scW _ _ _ | .amoW _ _ _ | .reservationHoldEnd _ | .wfi _ | .ecall _ _ | .mret _
  | .csrAccess _ _ | .interruptTake _ | .cgDisp _ _ _ _ | .cgEnd _ _ _ | .cgSig _ _ _ | .cgCntrd _ _ _
  | .cgNtsw _ _ _ _ | .coreRst _ | .ccIrqPendClear _ | .partitionFrameStart _ | .svTileBusy _ | .deadlineInstant _
  | .frameAbandon _ | .overrunIntervalEnd _ | .partitionEnable _ | .partitionDisable _ | .epochBoundaryApply _
  | .csCheckDone | .csStagingDone | .csBoundary _ | .csDeferTimeout _ | .csQuiesce _ | .csOpenTimeout
  | .holdoffExpiry _ | .vacancyExpiry _ | .outCmdWrite _ _ | .outStale _ | .portOpen _ | .heartbeatSend _
  | .heartbeatReceive _ _ _ _ | .portLost _ | .info _ | .regRead _ | .events _ | .dpSetaddr _ | .dpRead _ _
  | .dpWrite _ _ | .sync | .enumerate | .delay _ _ | .delayMeasureStart | .delayResponse | .delayTimeout
  | .recordRead _ | .mboxWrite _ | .mboxRead _ | .powerReq _ | .wakePattern _ _ | .linkEnergyWake | .request _
  | .requestQuad _ | .response _ | .responseQuad _ | .irqClear _ | .wake | .hpBadCmd _ | .calendarRollover | .oscStop
  | .vbatSample _ | .rtcSet | .capture | .delayNow | .syncTimeout | .rtcFollowCheck | .start | .selfcal
  | .syscalZero _ | .syscalFull _ | .axRun _ | .axBankSwitch _ | .axImgMaskWrite _ | .axSigWrite _ _ | .axPowerUp
  | .axPassStart _ | .axPassEnd | .auxRowLanded _ | .enterTrim | .enterSkim | .enterDoze | .enterOff | .leaveTrim
  | .wakeFromSkim | .wakeFromDoze | .ldoHigh | .avsWriteAck _ | .avsReadResponse _ | .pwAvsTimeout _ | .avsLostPoll _
  | .tempSample _ _ _ | .vddCoreUv _ | .vddMemUv | .vddPixaUv | .mboxFillTimeout | .mboxInfo | .snagRead | .updBegin
  | .updData | .updFinish | .updAbort | .updTimeout | .arbAdvance | .keyProgram | .keyRevoke | .policyProgram
  | .lifecycle | .reset | .snagEntryWrite | .mgNvmProg _ | .mgWdt | .vddioGood | .vddioFall | .vddMemGood
  | .ldoOverload | .debugHaltCore _ _ | .debugPortAccess _ _ _ _ | .writeInProgressClear | .fuseProgramDone _ _ => true
  | .bootScrubDone _ _ bad => bad.all (fun l => decide (l < 3))
  | .softwareReset r _ | .registerWrite r _ _ | .digestStart r _ | .ringRowWrite r _ | .spApply r | .csOpen r
  | .csSubmit r | .csAbort r | .mboxDoorbell r _ | .fzProgKey r _ | .fzProgRevoke r _ | .fzProgArb r
  | .fzProgPolicy r | .pseudoGen r | .mgWdtKick r _ => r.valid
  | .provision r confirm | .sealOp r confirm | .returnOp r confirm => r.valid && decide (confirm < 65536)
  | .frameInstant means => means.all (fun l => decide (l.length = 8) && adcSamples l)
  | .digestDone _ hist => decide (hist.length = 64)
  | .taskEnd _ code _ => decide (code < 65536)
  | .nop b | .lda b | .adda b | .ldl b | .ldlr b | .loop b | .bnz b | .jump b | .setm b | .endOp b | .copy b
  | .push b | .ldv b | .stv b | .mm b | .drain b | .vecAdd b | .vecSub b | .vecMul b | .vecFma b | .vecMax b
  | .vecMin b | .vecLut b | .lutld b | .cvt b | .scl b | .redSum b | .redMax b | .redMin b | .argmax b | .sumsq b
  | .gath b | .tmaskFill b | .tmaskZero b | .syncWait b | .syncSig b => b.valid
  | .bankReady b | .bankReleaseScrubDone b _ => decide (b < 576)
  | .partitionFrameClose _ verdicts _ => verdicts.all (fun v => decide (v.2.length ≤ 512))
  | .csWrite r off bs => r.valid && decide (0 < bs.length) && decide (off + bs.length ≤ 4096)
  | .lathFrameRxU f | .lathFrameRxD f => f.valid
  | .status n => decide (0 < n)
  | .axEntryResult raw => raw.all adcCode
  | .selfcalDone sums => decide (sums.length = 5)
  | .syscalDone raw => decide (raw.length = 256) && raw.all adcCode
  | .supplyRestartEnd cond => cond == 1 || cond == 2 || cond == 4
  | .mboxFirmwareCmd code _ _ payload => decide (code < 65536) && decide (payload.length ≤ 2016)

end Sys2Proof
end

