-- ==== Sys2Proof/Safety.lean ====
section
/-! DEFINITION. What statements speak of: the canonical form of every memory, and what a command leaves unchanged. -/

namespace Sys2Proof.Machine

/-- The canonical form of a byte memory under what an unlisted byte reads as. -/
def Memory.wf (dflt : Nat → Byte) (m : List Host.Cell) : Bool := Sparse.wf dflt m

/-- Every memory of the block is in its canonical form: the address map's, the NVM, the spill memory, the tag plane and
the registers. -/
def State.memWf (s : State) : Bool :=
  Memory.wf memDefault s.mem && Memory.wf nvmDefault s.nvm && Memory.wf spillDefault s.spillMem &&
    Sparse.wf tagDefault s.tags && Sparse.wf RegMap.resetValue s.regs

/-- Every register outside the list reads as before. -/
def RegsKept (l : List Nat) (s t : State) : Prop := ∀ a, a ∉ l → t.reg a = s.reg a

/-- Every bit of register `a` outside [hi:lo] reads as before. -/
def BitsKept (a hi lo : Nat) (s t : State) : Prop :=
  ∀ k, k < 32 → k < lo ∨ hi < k → tstBit (t.reg a) k = tstBit (s.reg a) k

/-- Every register outside the list holds its reset value. -/
def AtReset (l : List Nat) (t : State) : Prop := ∀ a, a ∉ l → t.reg a = RegMap.resetValue a

/-- Every byte of near and far scratchpad reads 0 and no row is tagged (R87). -/
def ScratchClear (t : State) : Prop :=
  (∀ a, 0x20000000 ≤ a → a < 0x50000000 → t.byte a = 0) ∧ ∀ k, 0x100000 ≤ k → k < 0x280000 → t.tagged k = false

/-- Nothing but registers of the list has changed. -/
def OnlyRegs (l : List Nat) (s t : State) : Prop := t = { s with regs := t.regs } ∧ RegsKept l s t

/-- No byte of any memory and no tag has changed. -/
def MemoryKept (s t : State) : Prop := t.mem = s.mem ∧ t.tags = s.tags ∧ t.nvm = s.nvm ∧ t.spillMem = s.spillMem

/-- Every byte of the address map outside the listed addresses reads as before. -/
def BytesKept (l : List Nat) (s t : State) : Prop := ∀ a, a ∉ l → t.byte a = s.byte a

/-- Every row outside the listed keys has its tag as before. -/
def TagsKept (l : List Nat) (s t : State) : Prop := ∀ k, k ∉ l → t.tagged k = s.tagged k

/-- Every byte of the address map from `lo` up to `hi` reads as before. -/
def RangeKept (lo hi : Nat) (s t : State) : Prop := ∀ a, lo ≤ a → a < hi → t.byte a = s.byte a

/-- The error registers that raising a code writes beside the Snag Log: status and code registers. -/
def Raised (status codeReg code : Nat) (t : State) : Prop :=
  tstBit (t.reg status) (code % 256 - 1) = true ∧ bits (t.reg codeReg) 15 0 = code

/-- The registers that queueing a Snag Log entry writes (R531). -/
def snagRegs : List Nat := [Reg.MG_SNAG_QUEUE, Reg.MG_SNAG_LOST, Reg.MG_ERR_STATUS, Reg.MG_ERR_CODE]

/-- The registers that a published tile fault writes (R37, R198). -/
def faultRegs : List Nat := snagRegs ++ [Reg.TF_FAULT_STATUS, Reg.TF_FAULT_CODE, Reg.TF_FAULT_PC, Reg.TF_FAULT_ADDR,
  Reg.TF_FAULT_CNT, Reg.CC_IRQ_PEND]

/-! ## Tile ops -/

/-- A row a tile reaches without a fault and whose data carries no tag: its bank powered and in wide mode, its codes
good (R201, R205, R229). -/
def State.rowPlain (s : State) (key : Nat) : Bool :=
  s.bankPowered (bankOf key) && !s.bankNarrow (bankOf key) && !s.tagged key && s.rowEcc key == none

/-- The bundle of the tile's next op: the one that runs, or the one the program counter names (R179). -/
def State.nextBundle (s : State) (t : Nat) : Bundle := (s.tile t).bundle.getD (s.bundleAt t)

/-- That bundle runs already, or lies in a plain row of the program. -/
def State.fetchReady (s : State) (t : Nat) : Bool :=
  (s.tile t).bundle.isSome || (decide ((s.tile t).pc < 32 * (s.tile t).task.progRows) && s.rowPlain (s.programRow t))

/-- The bundle is legal (R180, R181). -/
def State.nextLegal (s : State) (t : Nat) : Bool :=
  let u := s.nextBundle t
  bundleLegal (isCTile t) u.header (u.slot false) (u.slot true)

/-- FENCE holds the bundle back (Table 6.6). -/
def State.nextFenced (s : State) (t : Nat) : Bool :=
  let u := s.nextBundle t
  !u.started && tstBit (word u.header) 8 && !(s.outstanding t).isEmpty

/-- The tile's task runs, its bundle is legal and holds the op of class `cls` and OPC `opc` in the command's slot, whose
phase has come, and neither FENCE nor an entry of the tile holds the op back (R179 to R182). -/
def State.opTaken (s : State) (b : TileOp) (cls opc : Nat) : Bool :=
  s.canIssue b && s.nextLegal b.tile && (s.nextBundle b.tile).takes b cls opc && !s.nextFenced b.tile && !s.opHeld b.tile

/-- That op is taken, and its bundle runs or can be fetched. -/
def State.opReady (s : State) (b : TileOp) (cls opc : Nat) : Bool := s.fetchReady b.tile && s.opTaken b cls opc

/-- The tile holds its bundle, begun, with nothing else changed: where an op waits (R181, R182). -/
def State.opWaiting (s : State) (b : TileOp) : State :=
  s.setTile b.tile { s.tile b.tile with bundle := some { s.nextBundle b.tile with started := true } }

/-- A fault of the op ends the task at once (R193). -/
def State.faultNow (s : State) (b : TileOp) : Bool := !(s.nextBundle b.tile).faultWaits b.y

/-- The end of the bundle ends no task and halts no tile: no fault of slot Y waits and no debug halt does (R193, R257). -/
def State.endQuiet (s : State) (b : TileOp) : Bool := (s.nextBundle b.tile).fault.isNone && !(s.tile b.tile).haltAfter

/-- The state whose tile is `x` when an op has completed: its slot is done, and the bundle ends once the other slot is done
too, the program counter then moving to `jump` or to the next bundle (R179, R181, R257). -/
def State.opDone (s : State) (b : TileOp) (x : Tile) (jump : Option Nat) : State :=
  (s.setTile b.tile { x with bundle := some ({ s.nextBundle b.tile with started := true }.mark b.y .done) }).endBundle b.tile jump

/-- The address registers after the post-increment of register `i`, when `on`: STEP is added to ROW modulo 2^19 and the
other fields stand (R183). -/
def stepped (a : Vector Word 16) (i : Nat) (on : Bool) : Vector Word 16 :=
  let w := vget 0 a i
  if on then vput a i (w.extractLsb 31 19 ++ (w.extractLsb 18 0 + (w.extractLsb 31 24).signExtend 19)) else a

/-- A row a tile writes without a fault: its bank powered and in wide mode, no program row of a running task. -/
def State.rowOpen (s : State) (key : Nat) : Bool :=
  s.bankPowered (bankOf key) && !s.bankNarrow (bankOf key) && !s.isProgramRow key

/-- The bytes of a row. -/
def bytesOfRow (key : Nat) : List Nat := (List.range 512).map (512 * key + ·)

/-- Outside their memory of remote writers (R217) the tiles but `t` are as before. -/
def TilesKept (t : Nat) (s u : State) : Prop :=
  ∀ v : Fin 16, v.val ≠ t → { u.tile v.val with remote := (s.tile v.val).remote } = s.tile v.val

/-- The `k`-th row from address register value `a`, where a task reads it without fault or tag. -/
def State.plainRow (s : State) (t : Nat) (a : Word) (k : Nat) : Option Row :=
  match s.locate t a k false with
  | .ok (.row key) => if s.rowPlain key then some (s.row key) else none
  | _ => none

/-- The `k`-th row of a V operand (R184), where it can be read without fault or tag. -/
def State.vRow (s : State) (t v k : Nat) : Option Row :=
  if v < 16 then some (vget 0 (s.tile t).v ((v + k) % 16)) else s.plainRow t (vget 0 (s.tile t).a (v - 16)) k

/-- Element `j` of `w` bits of consecutive rows (R236). -/
def lane (w : Nat) (rows : Nat → Row) (j : Nat) : Nat :=
  ((rows (w * j / 4096)).extractLsb' (w * (j % (4096 / w))) w).toNat

/-- The flags of a task after an op of `n` results. -/
def laneFlags (old : NumFlags) (n : Nat) (r : Nat → Nat × NumFlags) : NumFlags :=
  (List.range n).foldl (fun acc j => orFlags acc (r j).2) old

/-- The command of a tile op by CLASS and OPC (Tables 6.10 to 6.17). -/
def tileInstr (cls opc : Nat) (b : TileOp) : Option Instr :=
  match cls, opc with
  | 0, 0 => some (.nop b) | 0, 1 => some (.lda b) | 0, 2 => some (.adda b) | 0, 3 => some (.ldl b)
  | 0, 4 => some (.ldlr b) | 0, 5 => some (.loop b) | 0, 6 => some (.bnz b) | 0, 7 => some (.jump b)
  | 0, 8 => some (.setm b) | 0, 9 => some (.endOp b)
  | 1, 0 => some (.copy b) | 1, 1 => some (.push b) | 1, 2 => some (.ldv b) | 1, 3 => some (.stv b)
  | 2, 0 => some (.mm b) | 2, 1 => some (.drain b)
  | 3, 0 => some (.vecAdd b) | 3, 1 => some (.vecSub b) | 3, 2 => some (.vecMul b) | 3, 3 => some (.vecFma b)
  | 3, 4 => some (.vecMax b) | 3, 5 => some (.vecMin b) | 3, 6 => some (.vecLut b) | 3, 7 => some (.lutld b)
  | 3, 8 => some (.cvt b) | 3, 9 => some (.scl b)
  | 4, 0 => some (.redSum b) | 4, 1 => some (.redMax b) | 4, 2 => some (.redMin b) | 4, 3 => some (.argmax b)
  | 4, 4 => some (.sumsq b)
  | 5, 0 => some (.gath b)
  | 6, 0 => some (.tmaskFill b) | 6, 1 => some (.tmaskZero b)
  | 7, 0 => some (.syncWait b) | 7, 1 => some (.syncSig b)
  | _, _ => none

end Sys2Proof.Machine
end

