-- ==== Sys2Proof/Certificates/Slice0/Obligations.lean ====
section
/-! DEFINITION. The statements about the block, for the provers: the step and reset first, then the spec's chapters in order. -/

open Sys2Proof Sys2Proof.Machine

/-- The row's rule of a step: the command at the front of the queue runs on the state with the queue's rest, and what follows
it waits in its order behind it. (The queue is the block model's, log entry 3.) -/
def Obligations.StepRunsFrontCommand : Prop :=
  ∀ (s : State) (c : Instr) (rest : List Instr),
    s.pending = c :: rest → step s = exec c { s with pending := rest }

/-- R31, R84, R108, R553 and the register tables: the machine right after reset. Every register reads the reset value of its
table, or where the table states none the model's choice
(log entry 4), the memories list nothing and are in canonical form, the boot stands at its first step with nothing waiting,
and the hundred egress slots stand at their full one-hundredth charge. -/
def Obligations.ResetLeavesTablesValues : Prop :=
  (∀ a, a ∉ [Reg.TM_RTC_TIME, Reg.TM_RTC_DATE] → State.reset.reg a = RegMap.resetValue a) ∧
  State.reset.memWf = true ∧ State.reset.pending = [] ∧ State.reset.snagQueue = [] ∧ State.reset.boot.step = 1 ∧
  (∀ k, State.reset.tagged k = false) ∧
  State.reset.eg.slots = List.replicate 100 6400 ∧
  [(Fld.PX_MODE_E, 1), (Fld.PX_FRAME_PERIOD_PERIOD, 833333), (Fld.PX_EXP_MAX_EMAX, 800000), (Fld.PX_EXP_MIN_EMIN, 200),
    (Fld.PX_KNEE_KNEE, 0xF00), (Fld.PX_BLACK_LEVEL, 0x040), (Fld.PX_BLACK_PEDESTAL, 0x040), (Fld.PX_SKIM_PERIOD_PERIOD, 50000000),
    (Fld.PX_RING_SLOTS_SLOTS, 2), (Fld.TF_SUP_CTRL_STEP, 10), (Fld.TF_SUP_CEIL_CEIL, 850), (Fld.TF_SUP_MARGIN_LO, 500),
    (Fld.TF_SUP_MARGIN_HI, 2000), (Fld.TF_SUP_STATUS_REQ, 800), (Fld.SP_STATUS_BOOT_MAP, 1), (Fld.SP_XS_CMD_READ, 0xEE),
    (Fld.SP_XS_CMD_WRITE, 0xDE), (Fld.SV_CFG_DIV 3, 1), (Fld.SV_CFG_FAULT_LIMIT 0, 3), (Fld.SV_DEADLINE_US 2, 16000),
    (Fld.EG_SHARE_SHARE 1, 64), (Fld.EG_OUT_VACDELAY_S 0, 600), (Fld.EG_RETRY_MS, 1000), (Fld.EG_IN_CFG_DEBOUNCE 1, 20),
    (Fld.LK_CFG_FIXED_ADDR, 1), (Fld.LK_CFG_RECORDS, 1), (Fld.LK_ATTN_EN_EN, 0x7F3F), (Fld.TM_CFG_STEP_NS, 1000),
    (Fld.AX_CAL_GAIN_GAIN 4, 0x4000), (Fld.AX_SEQA_PERIOD_CLOCKS, 40000), (Fld.PW_AVS_CFG_TIMEOUT, 1000),
    (Fld.PW_FLOOR_MV_MV, 700), (Fld.PW_TEMP_WARN_DEGC, 105), (Fld.MG_NVM_CFG_DIV, 7)].all
    (fun e => State.reset.fld e.1 == e.2) = true ∧
  (∀ k : Fin 4, State.reset.reg (Reg.CC_MTIMECMP_LO k.val) = 0xFFFFFFFF ∧
    State.reset.reg (Reg.CC_MTIMECMP_HI k.val) = 0xFFFFFFFF) ∧
  ∀ k : Fin 16, State.reset.reg (Reg.SP_NEAR_PWR k.val) = 0xFFFFFFFF

/-- The memories of the address map, the NVM, the spill memory, the tags and the registers keep their canonical form in every
step, a tick included: addresses rise strictly, and none is listed with what an unlisted one reads as. -/
def Obligations.StepKeepsCanonicalMemories : Prop :=
  ∀ s t : State, s.memWf = true → step s = .next t → t.memWf = true

/-- R41, R49, Tables 1.4, 1.8 to 1.10: with no digest run, no lifecycle command and no fuse program in progress, a permitted
lifecycle command of the management core with the right CONFIRM starts its fuse program, RETURN after the front end stops,
every task ends and the gate drops the candidates and the records it has not released; a command the state, the token or
CONFIRM forbids is denied with DS_LC_CMD_DENIED and starts none; another requester's write raises DS_LC_CMD_DENIED and is
ignored; during a digest run the management core's command is held. -/
def Obligations.LifecycleCommands : Prop :=
  ∀ (s : State) (k : Fin 3) (r : Requester) (confirm : Nat),
    let cmd : Requester → Nat → Instr := match k with
      | 0 => .provision
      | 1 => .sealOp
      | 2 => .returnOp
    let may := match k with
      | 0 => s.lifecycle == 0 && (List.range 4).any s.fuses.programmed
      | 1 => s.lifecycle == 1
      | 2 => s.inService && s.tokenOk
    let free := s.flag Fld.DS_DIG_STATUS_BUSY = false ∧ s.flag Fld.DS_LC_STATUS_BUSY = false ∧ s.mg.job = none
    let begun := fun t : State => t.mg.job = some { op := 6 + k.val } ∧ t.flag Fld.DS_LC_STATUS_BUSY = true ∧
      t.lifecycle = s.lifecycle
    let denied := fun t : State => t.mg.job = none ∧ t.ds = s.ds ∧ t.tiles = s.tiles ∧ t.px = s.px ∧
      t.flag Fld.DS_LC_STATUS_FAIL = true ∧ t.fld Fld.DS_LC_STATUS_CODE = 0x010A ∧
      Raised Reg.DS_VIOL_STATUS Reg.DS_VIOL_CODE 0x010A t
    (free → k ≠ 2 → may = true → ∃ t, exec (cmd .mgmt 0x5EA1) s = .next t ∧ MemoryKept s t ∧ t.fuses = s.fuses ∧ begun t ∧
      OnlyRegs [Reg.DS_LC_STATUS] { s with mg := t.mg } t) ∧
    (free → k = 2 → s.inService = true → ∃ t, exec (cmd .mgmt 0x5EA1) s = .next t ∧ MemoryKept s t ∧ t.fuses = s.fuses ∧
      (s.tokenOk = false → denied t) ∧
      (s.tokenOk = true → begun t ∧ t.ds.pixelStopped = true ∧ t.px.frames = [] ∧ t.px.fifo = [] ∧ t.eg.gateRecs = [] ∧
        t.eg.queue = s.eg.queue ∧
        t.fld Fld.PX_STATUS_STATE = 0 ∧ (∀ i : Fin 16, (t.tile i.val).busy = false) ∧
        ∀ p : Fin 4, (t.partition p.val).frame = none ∧ (t.partition p.val).copies = [])) ∧
    (free → (may = false ∨ confirm % 65536 ≠ 0x5EA1) → ∃ t, exec (cmd .mgmt confirm) s = .next t ∧ MemoryKept s t ∧
      t.fuses = s.fuses ∧ denied t) ∧
    (r ≠ .mgmt → ∃ t, exec (cmd r confirm) s = .next t ∧ MemoryKept s t ∧ t.fuses = s.fuses ∧ t.mg.job = s.mg.job ∧
      t.ds = s.ds ∧ t.reg Reg.DS_LC_STATUS = s.reg Reg.DS_LC_STATUS ∧ Raised Reg.DS_VIOL_STATUS Reg.DS_VIOL_CODE 0x010A t ∧
      t.fld Fld.DS_VIOL_CODE_SRC = srcCode r % 256) ∧
    (s.flag Fld.DS_DIG_STATUS_BUSY = true → ∃ t, exec (cmd .mgmt confirm) s = .next t ∧
      t = { s with ds := { s.ds with lcHeld := some (lcWord (k.val + 1) confirm).toNat } })

/-- R42, R49, Tables 1.14 and 1.15: a tag query of a scratchpad address shows the row's tag, one of another address shows
VALID 0; START begins a digest run in Pattern mode outside lifecycle state 6, or in Array mode in Blank, while the sensor is
stopped, the boot has ended, no run is in progress and none began in the last 100 ms, and is denied with DS_DIGEST_DENIED in
every other case; a write without START only sets DS_DIG_CTRL; the end of a run shows digest and histogram, and then carries
out a lifecycle command held meanwhile; without a run in progress DIGEST_DONE does nothing. -/
def Obligations.TagQueriesAndDigestRuns : Prop :=
  ∀ (s : State) (v : Word) (r : Requester) (sha : BitVec 256) (hist : List Nat),
    let started := { s with ds := { s.ds with lastDigest := some s.localNs } }
    let may := (bits v 1 0 = 1 ∧ s.lifecycle ≠ 6 ∨ bits v 1 0 = 2 ∧ s.lifecycle = 0) ∧ s.sensorStopped = true ∧
      s.flag Fld.DS_DIG_STATUS_BUSY = false ∧ s.flag Fld.SYS_BOOT_STATUS_BOOT_DONE = true ∧
      ∀ u, s.ds.lastDigest = some u → 100000000 ≤ (s.localNs - u).toNat
    let ended := fun t : State => t = { s with regs := t.regs } ∧ t.flag Fld.DS_DIG_STATUS_BUSY = false ∧
      t.flag Fld.DS_DIG_STATUS_DONE = true ∧
      (∀ i : Fin 8, t.reg (Reg.DS_DIG_SHA i.val) = sha.extractLsb' (32 * i.val) 32) ∧
      (∀ j : Fin 32, t.reg (Reg.DS_DIG_HIST j.val) = histWord hist j.val) ∧
      RegsKept (Reg.DS_DIG_STATUS :: (List.range 8).map Reg.DS_DIG_SHA ++ (List.range 32).map Reg.DS_DIG_HIST) s t
    ((regionOf v.toNat = some 4 ∨ regionOf v.toNat = some 5) → ∃ t, exec (.dsTagQuery v) s = .next t ∧
      OnlyRegs [Reg.DS_TAG_QUERY, Reg.DS_TAG_RESULT] s t ∧ t.reg Reg.DS_TAG_QUERY = v ∧
      t.flag Fld.DS_TAG_RESULT_VALID = true ∧ t.flag Fld.DS_TAG_RESULT_TAGGED = s.tagged (v.toNat / 512)) ∧
    (regionOf v.toNat ≠ some 4 → regionOf v.toNat ≠ some 5 → ∃ t, exec (.dsTagQuery v) s = .next t ∧
      OnlyRegs [Reg.DS_TAG_QUERY, Reg.DS_TAG_RESULT] { s with freeIdx := s.freeIdx + 1 } t ∧ t.reg Reg.DS_TAG_QUERY = v ∧
      t.flag Fld.DS_TAG_RESULT_VALID = false) ∧
    (tstBit v 16 = true → may → ∃ t, exec (.digestStart r v) s = .next t ∧
      OnlyRegs [Reg.DS_DIG_CTRL, Reg.DS_DIG_STATUS] started t ∧
      t.flag Fld.DS_DIG_STATUS_BUSY = true ∧ t.fld Fld.DS_DIG_CTRL_MODE = bits v 1 0 ∧
      t.fld Fld.DS_DIG_CTRL_PATTERN = bits v 7 4 ∧ t.fld Fld.DS_DIG_CTRL_STRIPE = bits v 11 8) ∧
    (tstBit v 16 = true → ¬ may → ∃ t, exec (.digestStart r v) s = .next t ∧ MemoryKept s t ∧ t.ds = s.ds ∧
      t.flag Fld.DS_DIG_STATUS_BUSY = s.flag Fld.DS_DIG_STATUS_BUSY ∧ t.flag Fld.DS_DIG_STATUS_DENIED = true ∧
      Raised Reg.DS_VIOL_STATUS Reg.DS_VIOL_CODE 0x010C t ∧ t.fld Fld.DS_VIOL_CODE_SRC = srcCode r % 256) ∧
    (tstBit v 16 = false → ∃ t, exec (.digestStart r v) s = .next t ∧ OnlyRegs [Reg.DS_DIG_CTRL] s t) ∧
    (s.flag Fld.DS_DIG_STATUS_BUSY = true →
      (s.ds.lcHeld = none → ∃ t, exec (.digestDone sha hist) s = .next t ∧ ended t) ∧
      ∀ w, s.ds.lcHeld = some w → ∃ u, ended u ∧
        exec (.digestDone sha hist) s = .next ({ u with ds := { u.ds with lcHeld := none } }.lcBegin (word w))) ∧
    (s.flag Fld.DS_DIG_STATUS_BUSY = false → exec (.digestDone sha hist) s = .next s)

/-- R36, R87, R244, R257, R296, R540, Table 17.9: before step 8 of the boot ends the debug port reaches no tile, core or
address. Later, while debug is open, it halts an untagged tile between bundles, holds back the halt while a bundle runs, ends
a tagged task in place of halting it, steps and resumes a halted tile, and reads a register of a halted untagged one; it halts
a core it reaches, sets a trigger there, and reads the pc and writes a register of a halted core; it reads and writes an
untagged row in narrow use and is refused a tagged one. While debug is closed a tile and a core are refused with MG_DEBUG, and
the management core always is in Sealed. That an idle tile is held and what a trigger matches are the model's choice (log
entry 27). -/
def Obligations.DebugPortReach : Prop :=
  ∀ (s : State) (i : Fin 16) (c : Fin 5) (a v : Word) (size : Fin 3) (k : Fin 2) (q : DebugReq) (cq : CoreDebug)
      (data : Option Word) (m : Met) (g : Fin 32),
    let x := s.tile i.val
    let n := 2 ^ size.val
    let later := s.boot.step ≥ 8
    let near := 0x20000000 ≤ a.toNat ∧ a.toNat % n = 0 ∧ a.toNat + n ≤ 0x22000000 ∧
      s.bankPowered (bankOf (a.toNat / 512)) = true ∧ s.bankNarrow (bankOf (a.toNat / 512)) = true ∧ s.sp.ecc = [] ∧
      s.sp.badParity = []
    let refused := fun t : State => MemoryKept s t ∧ t.tiles = s.tiles ∧ t.cores = s.cores ∧
      tstBit (t.reg Reg.MG_ERR_STATUS) 12 = true
    (s.boot.step < 8 → exec (.debugHaltTile i q) s = .next s ∧ exec (.debugHaltCore c cq) s = .next s ∧
      exec (.debugPortAccess a size data m) s = .next { s with debug := ⟨true, 0⟩ }) ∧
    (later → s.debugOpen = false → (∃ t, exec (.debugHaltTile i q) s = .next t ∧ refused t) ∧
      ∃ t, exec (.debugHaltCore c cq) s = .next t ∧ refused t) ∧
    (later → s.lifecycle = 3 → ∃ t, exec (.debugHaltCore 4 cq) s = .next t ∧ refused t) ∧
    (later → s.debugOpen = true → x.run = .running → x.bundle = none → x.tag = false →
      exec (.debugHaltTile i .halt) s = .next (s.setTile i.val { x with run := .halted, haltAfter := false })) ∧
    (later → s.debugOpen = true → x.run = .running → x.bundle ≠ none →
      exec (.debugHaltTile i .halt) s = .next (s.setTile i.val { x with haltAfter := true })) ∧
    (later → s.debugOpen = true → x.run = .running → x.bundle = none → x.tag = true →
      ∃ t, exec (.debugHaltTile i .halt) s = .next t ∧ MemoryKept s t ∧ (t.tile i.val).run = .scrubbing ∧
      Raised Reg.DS_VIOL_STATUS Reg.DS_VIOL_CODE 0x0108 t ∧ t.fld Fld.DS_VIOL_CODE_SRC = 0x30) ∧
    (later → s.debugOpen = true → x.run = .halted →
      exec (.debugHaltTile i .step) s = .next (s.setTile i.val { x with run := .running, haltAfter := true }) ∧
      exec (.debugHaltTile i .resume) s = .next (s.setTile i.val { x with run := .running, haltAfter := false }) ∧
      (x.tag = false → exec (.debugHaltTile i (.read (.addr 3))) s = .next { s with debug := ⟨false, vget 0 x.a 3⟩ } ∧
        exec (.debugHaltTile i (.read .flags)) s = .next { s with debug := ⟨false, word (flagBits x.flags)⟩ })) ∧
    (later → s.debugOpen = true → s.corePowered c.val = true → ¬ (c.val = 4 ∧ s.lifecycle = 3) →
      exec (.debugHaltCore c .halt) s = .next (s.haltCore c.val 3) ∧
      exec (.debugHaltCore c (.trigger k (some a))) s = .next
        (s.setCore c.val { s.core c.val with triggers := (s.core c.val).triggers.set k.val (some a) }) ∧
      ((s.core c.val).halted = true →
        exec (.debugHaltCore c .readPc) s = .next { s with debug := ⟨false, (s.core c.val).pc⟩ } ∧
        exec (.debugHaltCore c (.writeReg g v)) s = .next { (s.coreWrite c.val g.val v) with debug := ⟨false, 0⟩ })) ∧
    (later → near → s.debugOpen = true → s.tagged (a.toNat / 512) = false →
      (∃ t, exec (.debugPortAccess a size none .clean) s = .next t ∧ MemoryKept s t ∧ (t.debug).error = false ∧
        (t.debug).data = word (le (s.bytes a.toNat n) 0 n)) ∧
      ∃ t, exec (.debugPortAccess a size (some v) .clean) s = .next t ∧ t.debug = ⟨false, 0⟩ ∧ t.tags = s.tags ∧
        t.regs = s.regs ∧ BytesKept ((List.range n).map (a.toNat + ·)) s t ∧
        ∀ j : Fin 4, j.val < n → t.byte (a.toNat + j.val) = v.extractLsb' (8 * j.val) 8) ∧
    (later → near → s.debugOpen = true → s.tagged (a.toNat / 512) = true →
      (∃ t, exec (.debugPortAccess a size none .clean) s = .next t ∧ MemoryKept s t ∧ t.debug = ⟨true, 0⟩ ∧
        Raised Reg.DS_VIOL_STATUS Reg.DS_VIOL_CODE 0x0101 t ∧ t.fld Fld.DS_VIOL_CODE_SRC = 0x30 ∧
        t.reg Reg.DS_VIOL_ADDR = a) ∧
      ∃ t, exec (.debugPortAccess a size (some v) .clean) s = .next t ∧ MemoryKept s t ∧ t.debug = ⟨true, 0⟩ ∧
        Raised Reg.DS_VIOL_STATUS Reg.DS_VIOL_CODE 0x0102 t)

/-- R80, R84, R85, R108, R134, R551: what each reset records as its cause and what it keeps, while every other register holds
its reset value; power-on and the rise of RESET_N take TEST_EN as it stands and start the boot at step 1, the watchdog and a
software reset reset and start it too, as one reset with cause watchdog where both fall at one instant. Memory is kept, and the
NVM where no program or erase runs. -/
def Obligations.ResetsAndTheirCauses : Prop :=
  ∀ (s : State) (vb te : Bool) (r : Requester) (v : Word),
    let cause := fun t : State => t.fld Fld.SYS_RESET_CAUSE_CAUSE
    let kept := keptRegs ++ [Reg.TM_STATUS, Reg.TM_RATE, Reg.SYS_BOOT_STATUS, Reg.SYS_RESET_CAUSE]
    let nvmKept := fun t : State => s.mg.current = none → t.nvm = s.nvm
    let rose := fun t : State => t.pins.vddAon = true ∧ t.pins.resetN = true ∧ t.pins.testEn = te ∧ t.boot.step = 1 ∧
      t.localNs = 0 ∧ t.eg.slots = List.replicate 100 (s.fuses.rateBudget / 10) ∧ t.reg Reg.EG_SEQ = 0 ∧ AtReset kept t ∧
      nvmKept t ∧ t.fuses = s.fuses ∧ cause t = (if vb && s.boot.brownout then 2 else 0) ∧
      (vb = true → ∀ a ∈ keptRegs, a ≠ Reg.EG_SEQ → t.reg a = s.reg a)
    let reset := fun t : State => AtReset kept t ∧ t.mem = s.mem ∧ t.tags = s.tags ∧ t.spillMem = s.spillMem ∧ nvmKept t ∧
      t.fuses = s.fuses ∧ t.eg.slots = s.eg.slots ∧ t.time.localT = s.time.localT ∧ t.time.plumbT = s.time.plumbT ∧
      t.pins.vcoreEn = false ∧ ∀ a ∈ keptRegs, t.reg a = s.reg a
    (∃ t, exec (.powerOn vb te) s = .next t ∧ rose t) ∧
    (s.pins.vddAon = true → ∃ t, exec .resetNAssert s = .next t ∧ reset t ∧ t.pins.resetN = false ∧ t.boot.step = 0 ∧
      cause t = 1) ∧
    (s.pins.resetN = false → s.pins.vddAon = true → ∃ t, exec (.resetNRelease vb te) s = .next t ∧ MemoryKept s t ∧
      t.regs = s.regs ∧ t.pins = { s.pins with resetN := true, testEn := te } ∧ t.boot.step = 1) ∧
    (s.pins.resetN = false → s.pins.vddAon = false → ∃ t, exec (.resetNRelease vb te) s = .next t ∧ rose t) ∧
    (∃ t, exec .vddAonBrownout s = .next t ∧ reset t ∧ t.pins.vddAon = false ∧ t.boot.brownout = true ∧ t.boot.step = 0) ∧
    (s.flag Fld.PW_STATUS_LDO_NORMAL = false → (s.power = 2 ∨ s.power = 3 ∨ s.power = 4) →
      ∃ t, exec .ldoOverload s = .next t ∧ cause t = 2 ∧ t.boot.step = 1 ∧ t.localNs = 0 ∧ AtReset kept t ∧ nvmKept t ∧
        t.boot.held = [⟨2, 0, 2⟩, ⟨1, 0x0D07, 0⟩]) ∧
    (bits v 31 16 = 0x5352 → s.resetNow causeWatchdog = false →
      ∃ t, exec (.softwareReset r v) s = .next t ∧ reset t ∧ cause t = 4 ∧ t.boot.step = 1) ∧
    (bits v 31 16 ≠ 0x5352 → ∃ t, exec (.softwareReset r v) s = .next t ∧ MemoryKept s t ∧ t.boot = s.boot ∧
      Raised Reg.SYS_ERR_STATUS Reg.SYS_ERR_CODE 0x0005 t) ∧
    (s.flag Fld.SYS_WDT_CTRL_EN = true → s.power < 2 → ∃ t, exec .sysWdt s = .next t ∧ reset t ∧ cause t = 6 ∧
      t.boot.step = 1 ∧ ⟨1, 0x0006, 0⟩ ∈ t.boot.held ∧
      (bits v 31 16 = 0x5352 → exec (.softwareReset r v) t = .next t)) ∧
    (bits v 31 16 = 0x5352 → s.resetNow causeWatchdog = false → s.flag Fld.SYS_WDT_CTRL_EN = true →
      ∃ t u, exec (.softwareReset r v) s = .next t ∧ exec .sysWdt t = .next u ∧ cause u = 6 ∧ u.boot.step = 1 ∧
        ⟨1, 0x0006, 0⟩ ∈ u.boot.held ∧ OnlyRegs [Reg.SYS_RESET_CAUSE] { t with boot := u.boot } u)

/-- R106, R112, Table 3.9: a boot failure shows its code, holds it for the Snag Log before step 10 and drives VCORE_EN low
where the table says so; 1 s later the boot is tried again, or, for the third time in a row, ends in Safe Halt. -/
def Obligations.BootFailuresRetry : Prop :=
  ∀ s : State,
    let failed := fun (c : Nat) (t : State) => t.boot.failed = some c ∧ t.boot.step = s.boot.step ∧
      s.boot.stopped = t.boot.stopped ∧ t.fld Fld.SYS_BOOT_CODE_CODE = c ∧ t.mem = s.mem ∧ t.tags = s.tags ∧
      t.spillMem = s.spillMem ∧
      (s.boot.step < 10 → t.nvm = s.nvm ∧ t.boot.held = s.boot.held ++ [⟨1, c, 0⟩] ∧ OnlyRegs [Reg.SYS_BOOT_CODE]
        { s with boot := t.boot, pins := t.pins } t)
    (s.booting = true → s.boot.step = 1 → ∃ t, exec .bootNoRef s = .next t ∧ failed 0x0F01 t) ∧
    (s.booting = true → s.boot.step = 4 → ∃ t, exec .bootVddio s = .next t ∧ failed 0x0F02 t) ∧
    (s.booting = true → s.boot.step = 5 → ∃ t, exec .bootVcorePg s = .next t ∧ failed 0x0F03 t ∧ t.pins.vcoreEn = false) ∧
    (s.booting = true → s.boot.step = 6 → ∃ t, exec .bootAvs s = .next t ∧ failed 0x0F04 t ∧ t.pins.vcoreEn = false) ∧
    (s.booting = true → s.boot.step = 7 → s.pins.vddMemGood = false →
      ∃ t, exec .bootVmem s = .next t ∧ failed 0x0F05 t ∧ t.pins = s.pins) ∧
    (s.booting = true → 3 ≤ s.boot.step → ∃ t, exec .bootTimeout s = .next t ∧ failed 0x0F12 t ∧ t.pins = s.pins) ∧
    (s.boot.failed.isSome = true → s.fld Fld.SYS_BOOT_STATUS_RETRIES < 2 →
      ∃ t, exec .bootRetryReset s = .next t ∧ t.mem = s.mem ∧ t.tags = s.tags ∧ (s.mg.current = none → t.nvm = s.nvm) ∧
        t.fld Fld.SYS_RESET_CAUSE_CAUSE = 3 ∧ t.boot.step = 1 ∧
        t.boot.failed = none ∧ t.fld Fld.SYS_BOOT_STATUS_RETRIES = s.fld Fld.SYS_BOOT_STATUS_RETRIES + 1) ∧
    (s.boot.failed.isSome = true → s.fld Fld.SYS_BOOT_STATUS_RETRIES = 2 →
      ∃ t, exec .bootRetryReset s = .next t ∧ ScratchClear t ∧ t.fld Fld.SYS_BOOT_STATUS_PHASE = 3 ∧
        t.boot.stopped = true ∧ t.boot.failed = none ∧ t.fld Fld.SYS_BOOT_CODE_CODE = 0x0F11 ∧
        (s.boot.step < 10 → t.nvm = s.nvm) ∧
        t.pins = s.pins ∧ t.reg (Reg.SP_FAR_PWR 0) = 0 ∧ t.reg (Reg.SP_FAR_PWR 1) = 0 ∧
        ∀ k : Fin 16, t.reg (Reg.SP_NEAR_PWR k.val) = 0)

/-- R40, R57, R69, R80, R86, R110, R134, R509, Table 3.1: steps 2 to 7 of the boot up to the acknowledged AVSBus write, internal
scan where TEST_EN selects it, the pins the steps wait for, the two Lath hold edges, and the watchdog's registers. That an
Invalid lifecycle gives SRC 0x10 and address 0 is the model's choice (log entry 40). -/
def Obligations.BootStepsAndPins : Prop :=
  ∀ (s : State) (v33 : Bool) (ack : Fin 4) (mv : Nat) (v : Word),
    let a := s.pw.avs
    (s.booting = true → s.boot.step = 1 → s.power ≠ 3 → s.fuses.lifecycle ≠ 6 →
      ∃ t, exec .referenceStable s = .next t ∧ MemoryKept s t ∧ t.boot.step = (if s.pins.vddioGood then 5 else 4) ∧
        t.pins = { s.pins with vcoreEn := s.pins.vddioGood || s.pins.vcoreEn, scan := s.pins.testEn && t.lifecycle == 0 } ∧
        t.time.refRuns = true ∧
        t.fld Fld.DS_LC_STATE = s.fuses.lifecycle ∧ t.reg Reg.SYS_UID_LO = loWord s.fuses.uid ∧
        t.reg Reg.SYS_UID_HI = hiWord s.fuses.uid ∧ t.layout = t.layoutTable) ∧
    (s.booting = true → s.boot.step = 1 → s.power ≠ 3 → s.fuses.lifecycle = 6 →
      ∃ t, exec .referenceStable s = .next t ∧ t.mem = s.mem ∧ t.tags = s.tags ∧ t.boot.stopped = true ∧
        t.pins = { s.pins with scan := false } ∧ Raised Reg.DS_VIOL_STATUS Reg.DS_VIOL_CODE 0x0109 t ∧
        t.fld Fld.DS_VIOL_CODE_SRC = 0x10 ∧ t.reg Reg.DS_VIOL_ADDR = 0) ∧
    (∃ t, exec (.vddioModeLatch v33) s = .next t ∧ t = { s with pins := { s.pins with
      vddioMode := if s.pins.vddioMode = 0 then (if v33 then 2 else 1) else s.pins.vddioMode } }) ∧
    (∃ t, exec .vddioFall s = .next t ∧ OnlyRegs [Reg.PW_MON_STATUS]
        { s with pins := { s.pins with vddioMode := 0, vddioGood := false } } t ∧ tstBit (t.reg Reg.PW_MON_STATUS) 4 = true ∧
      BitsKept Reg.PW_MON_STATUS 4 4 s t) ∧
    (s.pins.vddioMode ≠ 0 → ∃ t, exec .vddioGood s = .next t ∧
      OnlyRegs [Reg.PW_MON_STATUS] { s with boot := t.boot, pins := t.pins } t ∧
      tstBit (t.reg Reg.PW_MON_STATUS) 4 = false ∧ BitsKept Reg.PW_MON_STATUS 4 4 s t ∧ t.pins.vddioGood = true ∧
      (s.booting = true → s.boot.step = 4 → t.boot.step = 5 ∧ t.pins.vcoreEn = true)) ∧
    (s.pins.vcoreEn = true → s.booting = true → s.boot.step = 5 → s.power ≠ 3 →
      ∃ t, exec .vcorePgHigh s = .next t ∧ MemoryKept s t ∧ t.boot.step = 6 ∧ t.pw.avs.current = some (800, false) ∧
        t.fld Fld.PW_AVS_STATUS_TARGET_MV = 800 ∧ t.flag Fld.PW_AVS_STATUS_OUTSTANDING = true ∧
        tstBit (t.reg Reg.PW_MON_STATUS) 3 = false ∧ tstBit (t.reg Reg.PW_MON_STATUS) 0 = false) ∧
    (∃ t, exec .vddMemGood s = .next t ∧ OnlyRegs [Reg.PW_MON_STATUS]
        { s with pins := { s.pins with vddMemGood := true } } t ∧ tstBit (t.reg Reg.PW_MON_STATUS) 1 = false) ∧
    (a.current.isSome = true → a.written = false →
      ∃ t, exec (.avsWriteAck ack) s = .next t ∧ MemoryKept s t ∧
        t.pw = { s.pw with avs := if ack = 0 then { a with written := true } else { a with nacks := a.nacks + 1 } } ∧
        (ack ≠ 0 → a.nacks = 2 → Raised Reg.PW_ERR_STATUS Reg.PW_ERR_CODE 0x0D03 t) ∧
        (ack = 0 ∨ a.nacks < 2 → t.regs = s.regs)) ∧
    (a.current = some (800, false) → a.written = true → a.waiting = none → 792 ≤ mv → mv ≤ 808 → s.booting = true →
      s.boot.step = 6 → s.power ≠ 3 → ∃ t, exec (.avsReadResponse mv) s = .next t ∧ MemoryKept s t ∧ t.boot.step = 7 ∧
        t.fld Fld.PW_AVS_STATUS_ACK_MV = mv ∧ t.flag Fld.PW_AVS_STATUS_OUTSTANDING = false ∧ t.pw.avs.current = none) ∧
    (∃ t, exec .lholdNFall s = .next t ∧ MemoryKept s t ∧ t.pins = { s.pins with lholdN := false } ∧
      RegsKept [Reg.LK_STATUS, Reg.TM_STATUS] s t ∧ t.fld Fld.LK_STATUS_U_STATE = portClosed ∧
      t.fld Fld.LK_STATUS_D_STATE = portClosed ∧ t.link.up = [] ∧ t.eg = s.eg) ∧
    (∃ t, exec .lholdNRise s = .next t ∧ t = { s with
      pins := { s.pins with lholdN := true }
      link := { s.link with opening := s.link.opening || ({ s with pins := { s.pins with lholdN := true } }.mayOpen &&
        s.fld Fld.LK_STATUS_U_STATE == portClosed) } }) ∧
    (s.flag Fld.SYS_WDT_CTRL_EN = false → ∃ t, exec (.wdtStart v) s = .next t ∧ t = { s with regs := t.regs, boot := t.boot } ∧
      RegsKept [Reg.SYS_WDT_CTRL] s t ∧ t.fld Fld.SYS_WDT_CTRL_TIMEOUT = bits v 31 16 ∧
      t.flag Fld.SYS_WDT_CTRL_EN = (tstBit v 0 && bits v 31 16 != 0)) ∧
    ∃ t, exec (.wdtKick v) s = .next t ∧ t = { s with boot := { s.boot with
      wdtFrom := if bits v 15 0 = 0xA55A then s.localNs else s.boot.wdtFrom } }

/-- R80, R87, R90, R101, R107, Table 3.1: the end of the boot scrub leaves every row zero and untagged whatever follows: a part
that does not answer ends in BOOT_NVM, a Returned unit that fails its verification stops and one that passes it has internal
scan where TEST_EN selects it, no valid Primer header ends in Safe Halt, and Primer A, valid, preferred and passing its full
check, is applied and its images are then read. -/
def Obligations.BootScrubThenPrimer : Prop :=
  ∀ (s : State) (part : NvmPart) (bad : List Nat),
    let u := (((s.bootScrub).nvmDiscover part).bootSnag)
    let img := u.primerImage 0
    let none3 := (List.range 3).all (fun k => s.slotExcluded k || !primerHeaderOk (s.primerImage k))
    let due := s.booting = true ∧ s.boot.step = 7 ∧ s.pins.vddMemGood = true
    (due → s.lifecycle ≠ 7 → part.responds = false →
      ∃ t, exec (.bootScrubDone part true bad) s = .next t ∧ ScratchClear t ∧ t.nvm = s.nvm ∧ t.boot.step = 8 ∧
        t.boot.failed = some 0x0F06 ∧ t.fld Fld.SYS_BOOT_CODE_CODE = 0x0F06 ∧ t.flag Fld.SP_STATUS_BOOT_MAP = true ∧
        t.reg (Reg.SP_FAR_PWR 0) = 0xFFFFFFFF ∧ ∀ k : Fin 16, t.reg (Reg.SP_NEAR_PWR k.val) = 0xFFFFFFFF) ∧
    (due → s.lifecycle = 7 → part.responds = false →
      ∃ t, exec (.bootScrubDone part true bad) s = .next t ∧ ScratchClear t ∧ t.boot.failed = some 0x0F06 ∧
        t.pins = { s.pins with scan := s.pins.testEn } ∧ t.ds.eraseVerified = true ∧ t.fuses.pixOff = true) ∧
    (due → s.lifecycle = 7 →
      ∃ t, exec (.bootScrubDone part false bad) s = .next t ∧ ScratchClear t ∧ t.boot.stopped = true ∧
        t.boot.step = 8 ∧ t.pins = s.pins ∧ Raised Reg.DS_VIOL_STATUS Reg.DS_VIOL_CODE 0x010B t) ∧
    (due → s.lifecycle ≠ 7 → part.responds = true → none3 = true →
      ∃ t, exec (.bootScrubDone part true bad) s = .next t ∧ ScratchClear t ∧ t.boot.stopped = true ∧
        t.fld Fld.SYS_BOOT_STATUS_PHASE = 3 ∧ t.fld Fld.SYS_BOOT_CODE_CODE = 0x0F11 ∧ t.reg (Reg.SP_FAR_PWR 0) = 0 ∧
        t.pins = s.pins) ∧
    (due → s.lifecycle ≠ 7 → s.ax.passes = [] → s.ax.calNext = false → part.responds = true → part.sfdp = true →
      part.size ≤ 0x1000000 →
      s.slotExcluded 0 = false → s.slotExcluded 1 = false → primerHeaderOk img = true →
      primerHeaderOk (u.primerImage 1) = true → primerGeneration (u.primerImage 1) ≤ primerGeneration img →
      u.primerCode img 0 (bad.contains 0) = none → ((u.setFld Fld.SYS_BOOT_STATUS_PRIMER 0).applyPrimer img).isSome = true →
      ∃ t, exec (.bootScrubDone part true bad) s = .next t ∧ ScratchClear t ∧ t.boot.step = 14 ∧
        t.boot.locators = primerLocators img ∧ t.boot.declared = primerParts img ∧ t.boot.primerArb = le img 0x14 1 ∧
        t.boot.nvmSize = part.size ∧ t.flag Fld.AX_STATUS_CAL_BUSY = true)

/-- R102, R105, R532: a management firmware with one slot that passes its checks is placed byte for byte at its load address,
with its slot, version and entry shown; one refused is recorded with its code, of MG's table, and changes no memory but the
NVM's Snag Log; a read of the slot that fails (`io`, the byte it fails at) counts where it falls in the image. -/
def Obligations.BootFirmwareLoads : Prop :=
  ∀ (s : State) (l : Locator) (ls : List Locator) (io : Option Nat),
    let img := s.nvmBytes l.aOff (min l.aLen (le (s.nvmBytes l.aOff 64) 8 4))
    let load := le img 0x1C 4
    let n := le img 0x20 4 - 0x40
    let code := s.fwCode img 2 l.aLen (io.any (fun a => decide (a < img.length)))
    s.booting = true → s.boot.step = 14 → s.boot.toLoad = l :: ls → s.boot.locators = l :: ls → l.kind = 2 → l.part = 0 →
    l.hasB = false →
    (code = none →
      ∃ t, exec (.packageLoad 2 0 io none) s = .next t ∧ t.boot.toLoad = ls ∧ t.fld (bootSlotFld 2 0) = 1 ∧
        t.reg Reg.MG_FW_VERSION = word (le img 0x10 4) ∧ t.boot.mgmtEntry = le img 0x24 4 ∧
        t.boot.imageFailed = s.boot.imageFailed ∧ RegsKept [Reg.SYS_BOOT_SLOTS, Reg.MG_FW_VERSION] s t ∧
        BytesKept ((List.range n).map (load + ·)) s t ∧ t.bytes load n = slice img 0x40 n) ∧
    (code.isSome = true →
      ∃ t, exec (.packageLoad 2 0 io none) s = .next t ∧ t.mem = s.mem ∧ t.tags = s.tags ∧ t.spillMem = s.spillMem ∧
        t.boot.toLoad = ls ∧ t.fld (bootSlotFld 2 0) = 3 ∧ t.boot.imageFailed = true ∧
        t.fld Fld.SYS_BOOT_CODE_CODE = 0x0F0F ∧ bits (t.reg Reg.SYS_BOOT_CODE) 31 16 = code.getD 0)

/-- R103, R104, R105: with every image read and no AVSBus request outstanding, step 17 ends in Run with the boot done, the
retries and excluded slots forgotten and the cores' boot addresses those of their firmware, or, where the recovery Primer
booted or an image failed under PKG_FAIL 1, in recovery Run with no partition declared: no bank and no tile is any
partition's and the boot map stands as it stood; before that, it does nothing. -/
def Obligations.StepSeventeenEntersRun : Prop :=
  ∀ s : State,
    let due := s.booting = true ∧ s.boot.step = 14 ∧ s.boot.toLoad = [] ∧ s.pw.avs.current = none
    (s.booting = true → (s.boot.step ≠ 14 ∨ s.boot.toLoad ≠ [] ∨ s.pw.avs.current ≠ none) →
      exec .bootRunEntry s = .next s) ∧
    (due → s.recoveryDue = false → s.boot.startSkim = false →
      ∃ t, exec .bootRunEntry s = .next t ∧ t.boot.step = 17 ∧ t.fld Fld.SYS_BOOT_STATUS_PHASE = 1 ∧
        t.flag Fld.SYS_BOOT_STATUS_BOOT_DONE = true ∧ t.fld Fld.SYS_BOOT_STATUS_RETRIES = 0 ∧
        t.fld Fld.SYS_BOOT_STATUS_EXCLUDED = 0 ∧ t.nvm = s.nvm ∧
        (∀ c : Fin 4, t.reg (Reg.CC_BOOT_ADDR c.val) = (s.boot.clusterEntries[c.val]?).getD (s.reg (Reg.CC_BOOT_ADDR c.val)))) ∧
    (due → s.recoveryDue = true →
      ∃ t, exec .bootRunEntry s = .next t ∧ t.boot.step = 17 ∧ t.fld Fld.SYS_BOOT_STATUS_PHASE = 2 ∧
        t.flag Fld.SYS_BOOT_STATUS_BOOT_DONE = true ∧ t.boot.declared = [] ∧ t.nvm = s.nvm ∧
        t.fld Fld.PX_STATUS_STATE = s.fld Fld.PX_STATUS_STATE ∧
        t.flag Fld.SP_STATUS_BOOT_MAP = s.flag Fld.SP_STATUS_BOOT_MAP ∧
        ∀ p : Fin 4, (t.partition p.val).pkg = none ∧
          ((s.partition p.val).pkg.isSome = true → t.fld (Fld.PK_PART_STATUS_STATE p.val) = 0) ∧
          (∀ b : Fin 64, ownerOf t.sp.inForce b.val ≠ p.val + 1) ∧ ∀ n : Fin 16, partOf t.sp.inForce n.val ≠ p.val + 1)

/-- R7, R34, R41, R124, R125, R131, R289, Table 0.6, Table 4.12: a write by the management core to one of the listed registers
acts on every bit under its access code and touches nothing else, but that one to a CC register notes which core's WFI has
ended and one to AX_IRQ_EN may pend its interrupt; a misaligned one, one to an offset without a register, one by a requester
that does not reach the region, one to the Layout Table, and those that only the management core may make do what the rules
say. -/
def Obligations.RegisterWritesByAccessCode : Prop :=
  ∀ (s : State) (i : Fin 21) (k : Fin 32) (n : Fin 4) (a v : Word),
    let plain := [Reg.SYS_ERR_STATUS, Reg.DS_VIOL_STATUS, Reg.PX_ERR_STATUS, Reg.TF_SUP_CEIL, Reg.SP_NEAR_DECL 3,
      Reg.SP_BANKMODE_F 1, Reg.SP_ERR_STATUS, Reg.CC_MSIP, Reg.CC_BOOT_ADDR 2, Reg.CC_DISP_MASK, Reg.SV_ERR_STATUS,
      Reg.PK_ERR_STATUS, Reg.EG_RETRY, Reg.EG_ERR_STATUS, Reg.TM_CFG, Reg.TM_ALARM_TIME, Reg.AX_IRQ_EN, Reg.PW_WAKE_EN,
      Reg.PW_WAKE_CAUSE, Reg.MG_ERR_STATUS, Reg.FZ_ERR_STATUS]
    let b := plain.getD i.val 0
    let row := (RegMap.find b).getD ⟨0, 0, 0, 0, 0, 0, 0⟩
    let sysRaised := fun (code : Nat) (t : State) => MemoryKept s t ∧ t.cores = s.cores ∧
      Raised Reg.SYS_ERR_STATUS Reg.SYS_ERR_CODE code t ∧ t.reg Reg.SYS_ERR_ADDR = a ∧
      RegsKept [Reg.SYS_ERR_STATUS, Reg.SYS_ERR_CODE, Reg.SYS_ERR_ADDR, Reg.SYS_ERR_CNT, Reg.MG_SNAG_QUEUE,
        Reg.MG_SNAG_LOST, Reg.MG_ERR_STATUS, Reg.MG_ERR_CODE] s t
    (∃ t, exec (.registerWrite .mgmt (word b) v) s = .next t ∧
      OnlyRegs (if b = Reg.AX_IRQ_EN then [b, Reg.CC_IRQ_PEND] else [b])
        (if b / 0x10000 = 0x1005 then s.wakeWfi else s) t ∧
      tstBit (t.reg b) k.val = if tstBit (word row.rw) k.val then tstBit v k.val
        else tstBit (s.reg b) k.val && !(tstBit (word row.w1c) k.val && tstBit v k.val)) ∧
    (0x10000000 ≤ a.toNat → a.toNat + 4 ≤ 0x10100000 → a.toNat % 4 ≠ 0 →
      ∃ t, exec (.registerWrite (.core n.val) a v) s = .next t ∧ sysRaised 0x0004 t ∧ t.fld Fld.SYS_ERR_CODE_SRC = n.val) ∧
    (0x10000040 ≤ a.toNat → a.toNat < 0x10010000 → a.toNat % 4 = 0 → (s.core n.val).resetDue = false →
      ∃ t, exec (.registerWrite (.core n.val) a v) s = .next t ∧ t = s) ∧
    (0x10000000 ≤ a.toNat → a.toNat + 4 ≤ 0x10100000 → ∃ t, exec (.registerWrite .dpHost a v) s = .next t ∧ sysRaised 0x0001 t) ∧
    (a.toNat + 4 ≤ 0x1000 → ∃ t, exec (.registerWrite .mgmt a v) s = .next t ∧ sysRaised 0x0002 t) ∧
    ((s.core n.val).resetDue = false →
      ∃ t, exec (.registerWrite (.core n.val) (word Reg.PW_REQ) v) s = .next t ∧ t = s) ∧
    (∃ t, exec (.registerWrite (.core n.val) (word (Reg.DS_LC_TOKEN 0)) v) s = .next t ∧ MemoryKept s t ∧
      t.reg (Reg.DS_LC_TOKEN 0) = s.reg (Reg.DS_LC_TOKEN 0) ∧ Raised Reg.DS_VIOL_STATUS Reg.DS_VIOL_CODE 0x010A t)

/-- R265, R267, R298, Table 9.10: where every core is drained, CC_CTRL resets each core whose bit is 1 to its boot address, or
keeps it in reset where that is 0; a bit of CC_IRQ_PEND written 1 clears with its core's CC_ASYNC registers, a source that
still stands sets it again, and a core whose WFI the interrupt has ended stays awake. -/
def Obligations.CoreResetAndIrqClear : Prop :=
  ∀ (s : State) (v : Word) (n : Fin 4) (k : Fin 15),
    let x := s.core n.val
    let boot := s.reg (Reg.CC_BOOT_ADDR n.val)
    ((∀ m : Fin 4, s.drained m.val = true) → s.heldStores = [] →
      ∃ t, exec (.coreRst v) s = .next t ∧ MemoryKept s t ∧ t.regs = s.regs ∧ t.core 4 = s.core 4 ∧
        (tstBit v n.val = false → t.core n.val = x) ∧
        (tstBit v n.val = true → (t.core n.val).running = (boot != 0) ∧ (t.core n.val).resetDue = false ∧
          (t.core n.val).reserved = none ∧ (t.core n.val).user = false ∧ (t.core n.val).mieBit = false ∧
          (boot ≠ 0 → (t.core n.val).pc = boot &&& ~~~1#32))) ∧
    ∃ t, exec (.ccIrqPendClear v) s = .next t ∧ t = { s.wakeWfi with regs := t.regs } ∧
      tstBit (t.reg Reg.CC_IRQ_PEND) k.val = ((tstBit (s.reg Reg.CC_IRQ_PEND) k.val && !tstBit v k.val) ||
        (k.val == 13 && (s.reg Reg.TM_ERR_STATUS != 0 || s.reg Reg.TM_EVENT != 0)) ||
        (k.val == 14 && (s.reg Reg.AX_ERR_STATUS != 0 || s.reg Reg.AX_EVENT &&& s.reg Reg.AX_IRQ_EN != 0))) ∧
      t.reg (Reg.CC_ASYNC_CODE n.val) = (if tstBit v n.val then 0 else s.reg (Reg.CC_ASYNC_CODE n.val)) ∧
      t.reg (Reg.CC_ASYNC_ADDR n.val) = (if tstBit v n.val then 0 else s.reg (Reg.CC_ASYNC_ADDR n.val)) ∧
      RegsKept (Reg.CC_IRQ_PEND :: (List.range 4).map Reg.CC_ASYNC_CODE ++ (List.range 4).map Reg.CC_ASYNC_ADDR) s t

/-- R149, R154, R158, R28: at the frame instant of a running sensor with no set waiting and no Plumb lock the counter advances,
a budget frame begins and the first free slot in ring order after the last one is taken for the partitions of
PX_RING_READERS, by a frame that keeps the configuration and the black level of this instant, or, every slot held, the frame
is counted and dropped with PX_RING_FULL; a sensor that neither runs nor finishes a begun frame has no instant; the first
exposure puts a frame in progress and a later charge transfer moves the newest frame on. -/
def Obligations.FrameInstantsTakeSlots : Prop :=
  ∀ (s : State) (means : Option (List Nat)) (k : Fin 16) (j : Fin 3),
    let run := s.fld Fld.PX_STATUS_STATE = 1 ∧ s.px.captured = none ∧ s.px.skimNext = none ∧
      s.pxFld Fld.PX_LOCK_CTRL_EN = 0 ∧ 2 ≤ s.ringSlots ∧ s.ringSlots ≤ 16
    let first := match s.px.lastSlot with
      | none => 0
      | some l => l + 1
    let counted := fun t : State => MemoryKept s t ∧ t.reg Reg.PX_FRAME_CNT = s.reg Reg.PX_FRAME_CNT + 1 ∧
      t.reg Reg.PX_LAST_T_HI ++ t.reg Reg.PX_LAST_T_LO = s.plumbNs ∧ t.px.exposing = false ∧ t.px.first = false ∧
      t.px.black = (if means.isSome then means else s.px.black) ∧
      t.fld Fld.DS_FRAME_USED_BITS = s.ds.frameUsed % 16384 ∧ t.px.fifo = s.px.fifo
    (run → k.val < s.ringSlots → s.hold ((first + k.val) % s.ringSlots) = 0 →
      (∀ i : Fin 16, i < k → s.hold ((first + i.val) % s.ringSlots) ≠ 0) →
      ∃ t, exec (.frameInstant means) s = .next t ∧ counted t ∧ t.px.lastSlot = some ((first + k.val) % s.ringSlots) ∧
        t.hold ((first + k.val) % s.ringSlots) = s.pxFld Fld.PX_RING_READERS_MASK ∧
        t.px.frames.length = s.px.frames.length + 1 ∧
        (t.px.frames.getLast?).map (fun f => (f.number, f.slot, f.cfg, f.skim, f.black)) =
          some ((s.reg Reg.PX_FRAME_CNT + 1).toNat, (first + k.val) % s.ringSlots, s.px.inForce, s.px.skim, s.blackOf means) ∧
        t.reg Reg.PX_DROP_CNT = s.reg Reg.PX_DROP_CNT) ∧
    (run → (∀ i : Fin 16, i.val < s.ringSlots → s.hold i.val ≠ 0) →
      ∃ t, exec (.frameInstant means) s = .next t ∧ counted t ∧ t.px.lastSlot = s.px.lastSlot ∧ t.px.frames = s.px.frames ∧
        t.reg Reg.PX_RING_HOLD_LO = s.reg Reg.PX_RING_HOLD_LO ∧ t.reg Reg.PX_RING_HOLD_HI = s.reg Reg.PX_RING_HOLD_HI ∧
        t.fld Fld.PX_DROP_CNT_COUNT = min (s.fld Fld.PX_DROP_CNT_COUNT + 1) 65535 ∧
        Raised Reg.PX_ERR_STATUS Reg.PX_ERR_CODE 0x0203 t) ∧
    (s.instantComes = false → exec (.frameInstant means) s = .next s) ∧
    (∃ t, exec (.exposureStart j) s = .next t ∧ t = { s with px := { s.px with
      exposing := s.px.exposing || (j == 0 && s.fld Fld.PX_STATUS_STATE == 1 && s.px.supplyGood) } }) ∧
    ∃ t, exec .chargeTransfer s = .next t ∧ t = { s with px := t.px } ∧ t.px = { s.px with frames := t.px.frames } ∧
      t.px.frames.dropLast = s.px.frames.dropLast ∧
      (t.px.frames.getLast?).map (·.exposure) = (s.px.frames.getLast?).map (fun f =>
        if f.exposure < f.exposures then f.exposure + 1 else f.exposure)

/-- R14, R146, R148, R150 to R153, R201: a row due enters the crossing FIFO, the staging rows it is merged from being readable;
a full FIFO abandons the frame with PX_FIFO_OVF, and a staging row that its bank refuses leaves the row unwritten with that
SP code; an acknowledged row stands, tagged, in its ring bank, a held one once it is admitted; with every row of a frame
acknowledged its header row is written, tagged, and the ring names its slot; before that the header waits. Band signals
are outside this statement: every frame in readout has them off. -/
def Obligations.RowsReachTheRing : Prop :=
  ∀ (s : State) (r : PixRow) (held : Bool) (e : FifoRow) (f : FrameState) (k : Nat) (ks : List Nat) (code : Nat),
    let landed := fun t : State => t.row e.dest = e.data ∧ t.tagged e.dest = true ∧ t.px.fifo = [] ∧ t.nvm = s.nvm ∧
      t.spillMem = s.spillMem ∧ BytesKept ((List.range 512).map (512 * e.dest + ·)) s t ∧ t.regs = s.regs
    let quiet := s.px.frames.all (fun f => (List.range 4).all (fun p => f.fld (Fld.PX_RING_SIG_EN p) == 0)) = true
    let due := s.px.frames = [f] ∧ f.complete = true
    (due → s.px.fifo.length < 64 → (∀ k ∈ f.mergedFrom r, s.wideCode k = none ∧ s.rowEcc k = none) →
      ∃ t, exec (.ringRowWrite r held) s = .next t ∧ MemoryKept s t ∧
        t.px.fifo = s.px.fifo ++ [⟨f.number, f.ringKey (s.pixRow f r).2.1, (s.pixRow f r).1, (s.pixRow f r).2.2.1, held⟩] ∧
        RegsKept [Reg.PX_CONFLICT_CNT] s t ∧
        t.fld Fld.PX_CONFLICT_CNT_COUNT = min (s.fld Fld.PX_CONFLICT_CNT_COUNT + bit held) 0xFFFFFFFF) ∧
    (due → 64 ≤ s.px.fifo.length →
      ∃ t, exec (.ringRowWrite r held) s = .next t ∧ MemoryKept s t ∧ t.px.fifo = s.px.fifo ∧
        t.px.frames.map (·.complete) = [false] ∧ Raised Reg.PX_ERR_STATUS Reg.PX_ERR_CODE 0x0204 t) ∧
    (due → quiet → s.px.fifo.length < 64 → f.mergedFrom r = k :: ks → s.wideCode k = some code →
      ∃ t, exec (.ringRowWrite r held) s = .next t ∧ MemoryKept s t ∧ t.px.fifo = s.px.fifo ∧
        Raised Reg.SP_ERR_STATUS Reg.SP_ERR_CODE code t ∧ t.reg Reg.SP_ERR_ADDR = word (keyCode k)) ∧
    (s.px.fifo = [e] → s.wideCode e.dest = none → quiet → e.held = false →
      ∃ t, exec (.ringRowAck 0) s = .next t ∧ landed t) ∧
    (s.px.fifo = [e] → s.wideCode e.dest = none → quiet → e.held = true → exec (.ringRowAck 0) s = .next s ∧
      ∃ t, exec (.bankWaitAdmit 0) s = .next t ∧ landed t) ∧
    (due → s.px.fifo = [] → f.acked.length = f.imageRows → quiet → 1 ≤ f.exposures → s.wideCode f.slotKey = none →
      f.slot < 16 → s.fld Fld.PX_STATUS_STATE ≠ 2 →
      ∃ t, exec .slotHeaderWrite s = .next t ∧ t.px.frames = [] ∧
        t.tagged f.slotKey = true ∧ t.fld Fld.PX_RING_LAST_SLOT = f.slot ∧ RegsKept [Reg.PX_RING_LAST] s t ∧
        le (t.bytes (512 * f.slotKey) 4) 0 4 = f.number % 2 ^ 32 ∧
        le (t.bytes (512 * f.slotKey + 0x0E) 2) 0 2 =
          1 + 2 * f.fld Fld.PX_MODE_DPC_EN + 4 * f.fld Fld.PX_MODE_AE_EN + 8 * bit f.locked ∧
        le (t.bytes (512 * f.slotKey + 0x2C) 4) 0 4 = f.subst % 2 ^ 32 ∧
        le (t.bytes (512 * f.slotKey + 0x10) 4) 0 4 = f.e1 % 2 ^ 32 ∧
        BytesKept ((List.range 512).map (512 * f.slotKey + ·)) s t) ∧
    (s.px.frames = [f] → s.headerDue f = false → exec .slotHeaderWrite s = .next s)

/-- R149, R155, R158, R160, R164: RUN starts the sensor where R158 allows it and is refused with PX_STATE or PX_RING_GEOM
elsewhere, RUN 0 stops it, APPLY copies a legal shadow set and refuses another, a copied set that may takes effect whole and
one made while a stop completes waits for the stop, hold bits written 1 clear, and the sensor restarts once VDD_PIXA is
good. -/
def Obligations.SensorRunAndApply : Prop :=
  ∀ (s : State) (high : Bool) (v : Word) (m : List (Nat × Word)),
    let set := s.pxShadow
    let may := s.inService = true ∧ s.flag Fld.DS_DIG_STATUS_BUSY = false ∧ s.ds.pixelStopped = false
    let up := s.fld Fld.SYS_BOOT_STATUS_PHASE = 1 ∧
      (s.fld Fld.PW_STATE_STATE < 2 ∨ s.fld Fld.PW_STATE_STATE = 2 ∧ s.px.skim = true)
    let ring := s.ringOk s.px.inForce s.px.skim
    let a := if high then Reg.PX_RING_HOLD_HI else Reg.PX_RING_HOLD_LO
    (may → ring = true → ∃ t, exec .pxRunStart s = .next t ∧ MemoryKept s t ∧ RegsKept [Reg.PX_CTRL, Reg.PX_STATUS] s t ∧
      t.flag Fld.PX_CTRL_RUN = true ∧ (up ∧ s.px.supplyGood = true → t.fld Fld.PX_STATUS_STATE = 1) ∧
      (¬ (up ∧ s.px.supplyGood = true) → t.fld Fld.PX_STATUS_STATE = s.fld Fld.PX_STATUS_STATE)) ∧
    (¬ may → ∃ t, exec .pxRunStart s = .next t ∧ MemoryKept s t ∧ t.px = s.px ∧
      t.reg Reg.PX_CTRL = s.reg Reg.PX_CTRL ∧ Raised Reg.PX_ERR_STATUS Reg.PX_ERR_CODE 0x0206 t) ∧
    (may → ring = false → ∃ t, exec .pxRunStart s = .next t ∧ MemoryKept s t ∧ t.px = s.px ∧
      t.reg Reg.PX_CTRL = s.reg Reg.PX_CTRL ∧ Raised Reg.PX_ERR_STATUS Reg.PX_ERR_CODE 0x0202 t) ∧
    (∃ t, exec .pxRunStop s = .next t ∧ OnlyRegs [Reg.PX_CTRL, Reg.PX_STATUS] s t ∧ t.flag Fld.PX_CTRL_RUN = false ∧
      t.fld Fld.PX_STATUS_STATE = (if s.sensorStopped then s.fld Fld.PX_STATUS_STATE
        else if s.px.exposing || !s.px.frames.isEmpty then 2 else 0)) ∧
    (pxCfgOk set = true → (ringCountOf set = 0 ∨ s.ringOk set s.px.skim = true) → ∃ t, exec .pxApply s = .next t ∧
      OnlyRegs [Reg.PX_STATUS] { s with px := { s.px with
        captured := some set, atStop := s.fld Fld.PX_STATUS_STATE == 2 } } t ∧ t.flag Fld.PX_STATUS_APPLY_PENDING = true) ∧
    (pxCfgOk set = false → ∃ t, exec .pxApply s = .next t ∧ MemoryKept s t ∧ t.px = s.px ∧
      Raised Reg.PX_ERR_STATUS Reg.PX_ERR_CODE 0x0201 t) ∧
    (s.px.captured = some m → s.px.skimNext = none → s.pxAfterStop = false → s.geomChanges m s.px.skim = false →
      ringCountOf m ≠ 0 →
      ∃ t, exec .pxApplyTakeEffect s = .next t ∧ MemoryKept s t ∧ RegsKept [Reg.PX_STATUS] s t ∧ t.px.inForce = m ∧
        t.px.captured = none ∧ t.flag Fld.PX_STATUS_APPLY_PENDING = false ∧ t.sp.ringRelease = s.sp.ringRelease) ∧
    (s.pxAfterStop = true → exec .pxApplyTakeEffect s = .next s) ∧
    (∃ t, exec (.pxRingHoldRelease high v) s = .next t ∧ OnlyRegs [a] s t ∧ t.reg a = s.reg a &&& ~~~v) ∧
    ∃ t, exec .pxSupplyRestart s = .next t ∧ MemoryKept s t ∧ RegsKept [Reg.PX_STATUS, Reg.PW_MON_STATUS] s t ∧
      t.px.supplyGood = true ∧ tstBit (t.reg Reg.PW_MON_STATUS) 2 = false ∧
      (may ∧ up ∧ ring = true ∧ s.flag Fld.PX_CTRL_RUN = true → t.fld Fld.PX_STATUS_STATE = 1) ∧
      (¬ (may ∧ up ∧ ring = true ∧ s.flag Fld.PX_CTRL_RUN = true) →
        t.fld Fld.PX_STATUS_STATE = s.fld Fld.PX_STATUS_STATE)

/-- R176 to R182, R198: a command of a tile op does nothing where no task runs, where the tile's bundle does not hold the op or
its phase has not come; FENCE holds the bundle while asynchronous ops are outstanding; a program counter outside the program
rows ends the task with TF_PC, an illegal bundle with TF_ILLEGAL, each published with tile, partition and bundle. -/
def Obligations.OpsWaitOrFault : Prop :=
  ∀ (s : State) (b : TileOp) (cls opc : Nat) (i : Instr),
    let x := s.tile b.tile
    let u := s.nextBundle b.tile
    let issues := tileInstr cls opc b = some i ∧ s.canIssue b = true
    let alone := (s.partition x.task.part).frame = none ∧ (vget {} s.ds.faults x.task.part).running = false ∧ x.tag = false
    let faulted := fun (code : Nat) (t : State) => MemoryKept s t ∧ (t.tile b.tile).run = .scrubbing ∧
      Raised Reg.TF_FAULT_STATUS Reg.TF_FAULT_CODE code t ∧ t.fld Fld.TF_FAULT_CODE_TILE = b.tile ∧
      t.fld Fld.TF_FAULT_CODE_PART = x.task.part % 4 ∧ t.reg Reg.TF_FAULT_PC = word x.pc ∧
      t.fld Fld.TF_FAULT_CNT_COUNT = min (s.fld Fld.TF_FAULT_CNT_COUNT + 1) 65535 ∧
      RegsKept (Reg.SV_NUMFLAGS x.task.part :: faultRegs) s t ∧
      ∀ u : Fin 16, u.val ≠ b.tile → t.tile u.val = s.tile u.val
    (tileInstr cls opc b = some i → s.canIssue b = false → exec i s = .next s) ∧
    (issues → alone → x.bundle = none → 32 * x.task.progRows ≤ x.pc → ∃ t, exec i s = .next t ∧ faulted 0x0304 t) ∧
    (issues → alone → s.fetchReady b.tile = true → s.nextLegal b.tile = false → ∃ t, exec i s = .next t ∧ faulted 0x0301 t) ∧
    (issues → s.fetchReady b.tile = true → s.nextLegal b.tile = true → u.takes b cls opc = false → exec i s = .next s) ∧
    (issues → s.fetchReady b.tile = true → s.nextLegal b.tile = true → u.takes b cls opc = true → s.nextFenced b.tile = true →
      exec i s = .next (s.setTile b.tile { x with bundle := some u }))

/-- R177, R181, R185, R255, Table 6.10: the CTL ops but END write the one register or bit the table names and complete their
slot, LOOP, BNZ and JUMP branch by OFF from the bundle that holds them, and a tagged program row tags the task. -/
def Obligations.ControlOpsAct : Prop :=
  ∀ (s : State) (b : TileOp) (key : Nat),
    let x := s.tile b.tile
    let ready := fun opc => s.opReady b 0 opc = true
    let l := opBits b 10 8
    let target := some (unsigned 18 ((x.pc : Int) + signed 18 (opBits b 29 12)))
    let a := vget 0 x.a (opBits b 11 8)
    let sum := a.extractLsb 31 19 ++ (a.extractLsb 18 0 + (BitVec.ofNat 20 (opBits b 31 12)).extractLsb 18 0)
    let half := ((s.row key).extractLsb' (16 * opBits b 23 16) 16).toNat
    (ready 0 → exec (.nop b) s = .next (s.opDone b x none)) ∧
    (ready 1 → exec (.lda b) s =
      .next (s.opDone b { x with a := vput x.a (opBits b 11 8) (word (opBits b 43 12)) } none)) ∧
    (ready 2 → exec (.adda b) s = .next (s.opDone b { x with a := vput x.a (opBits b 11 8) sum } none)) ∧
    (ready 3 → exec (.ldl b) s = .next (s.opDone b { x with l := vput x.l l (opBits b 27 12) } none)) ∧
    (ready 4 → (s.locate b.tile (vget 0 x.a (opBits b 15 12)) 0 false).toOption = some (.row key) → s.rowPlain key = true →
      b.clash = [] → exec (.ldlr b) s = .next (s.opDone b { x with l := vput x.l l half } none)) ∧
    (ready 5 → vget 0 x.l l = 0 → exec (.loop b) s = .next (s.opDone b x none)) ∧
    (ready 5 → vget 0 x.l l ≠ 0 →
      exec (.loop b) s = .next (s.opDone b { x with l := vput x.l l (vget 0 x.l l - 1) } target)) ∧
    (ready 6 → vget 0 x.l l = 0 → exec (.bnz b) s = .next (s.opDone b x none)) ∧
    (ready 6 → vget 0 x.l l ≠ 0 → exec (.bnz b) s = .next (s.opDone b x target)) ∧
    (ready 7 → exec (.jump b) s = .next (s.opDone b x target)) ∧
    (ready 8 → exec (.setm b) s = .next (s.opDone b { x with ftz := b.fields.getLsbD 0 } none)) ∧
    (s.opTaken b 0 0 = true → x.bundle = none → x.pc < 32 * x.task.progRows → s.wideCode (s.programRow b.tile) = none →
      s.rowEcc (s.programRow b.tile) = none → s.sp.badParity = [] → s.tagged (s.programRow b.tile) = true →
      exec (.nop b) s = .next (s.opDone b { x with tag := true } none))

/-- R17, R18, R174, R177, R188, R192, Table 6.17: a WAIT at its threshold gives the count up and takes the counter's tag,
below it waits, on a saturated counter ends the task; a SIG adds VALUE to the counter of every tile it names, and one that
would pass 0xFFFF saturates and ends its owner's task; an absent neighbour ends the task with TF_SPACE. -/
def Obligations.CountersWaitAndSignal : Prop :=
  ∀ (s : State) (b : TileOp) (u : Fin 16),
    let x := s.tile b.tile
    let k := opBits b 11 8
    let c := s.counter b.tile k
    let n := opBits b 24 17
    let alone := (s.partition x.task.part).frame = none ∧ (vget {} s.ds.faults x.task.part).running = false ∧ x.tag = false
    let named := fun v : Nat => (v = b.tile ∧ b.fields.getLsbD 4 = true) ∨
      ∃ d : Fin 4, b.fields.getLsbD (5 + d.val) = true ∧ neighbour b.tile d.val = some v
    let faulted := fun (code : Nat) (t : State) => MemoryKept s t ∧ (t.tile b.tile).run = .scrubbing ∧
      Raised Reg.TF_FAULT_STATUS Reg.TF_FAULT_CODE code t ∧ RegsKept (Reg.SV_NUMFLAGS x.task.part :: faultRegs) s t
    (s.opReady b 7 0 = true → c.saturated = false → opBits b 27 12 ≤ c.value → exec (.syncWait b) s = .next (s.opDone b
      { x with cnt := vput x.cnt k { c with value := c.value - opBits b 27 12 }, tag := x.tag || c.tag } none)) ∧
    (s.opReady b 7 0 = true → c.saturated = false → c.value < opBits b 27 12 →
      exec (.syncWait b) s = .next (s.opWaiting b)) ∧
    (s.opReady b 7 0 = true → alone → c.saturated = true → ∃ t, exec (.syncWait b) s = .next t ∧ faulted 0x0305 t ∧
      t.counter b.tile k = c) ∧
    (s.opReady b 7 1 = true → s.endQuiet b = true →
      (∀ d : Fin 4, b.fields.getLsbD (5 + d.val) = true → (neighbour b.tile d.val).isSome = true) →
      (∀ v : Fin 16, named v.val → (s.counter v.val k).saturated = false ∧ (s.counter v.val k).value + n ≤ 0xFFFF) →
      ∃ t, exec (.syncSig b) s = .next t ∧ t = { s with tiles := t.tiles } ∧
        (named u.val → t.counter u.val k = { s.counter u.val k with
          value := (s.counter u.val k).value + n, tag := (s.counter u.val k).tag || x.tag }) ∧
        (¬ named u.val → t.counter u.val k = s.counter u.val k) ∧
        (∀ j : Fin 16, j.val ≠ k → t.counter u.val j.val = s.counter u.val j.val) ∧
        { t.tile u.val with cnt := (s.tile u.val).cnt } =
          if u.val = b.tile then ((s.opDone b x none).tile u.val) else s.tile u.val) ∧
    (s.opReady b 7 1 = true → alone → (∃ d : Fin 4, b.fields.getLsbD (5 + d.val) = true ∧ neighbour b.tile d.val = none) →
      ∃ t, exec (.syncSig b) s = .next t ∧ faulted 0x0302 t) ∧
    (s.opReady b 7 1 = true → alone → b.fields.getLsbD 4 = true → opBits b 16 13 = 0 → c.saturated = false →
      0xFFFF < c.value + n → ∃ t, exec (.syncSig b) s = .next t ∧ faulted 0x0305 t ∧
        t.counter b.tile k = { value := 0xFFFF, tag := c.tag, saturated := true }) ∧
    (s.opReady b 7 1 = true → opBits b 16 13 = 0 → c.saturated = true → exec (.syncSig b) s = .next (s.opDone b x none))

/-- R15, R18, R39, R178, R196, R213, R214, R217, R235, R244: END, an end from outside and TF_HANG end the task: the tile
scrubs, an untagged task's flags reach SV_NUMFLAGS, its writes in flight stand; a failed access that ends it raises its SP
code with the absolute row (DEDUCED, log entry 17); the scrub, which waits for those writes, zeroes and untags the tagged rows
of the task's windows, clears the tile's state and the counter tags, and leaves every other row. -/
def Obligations.TasksEndAndScrub : Prop :=
  ∀ (s : State) (b : TileOp) (u : Fin 16) (code key waited : Nat) (row : Word),
    let x := s.tile u.val
    let p := x.task.part
    let busy := x.run = .running ∨ x.run = .halted
    let flags := fun t : State => t.reg (Reg.SV_NUMFLAGS p) =
      s.reg (Reg.SV_NUMFLAGS p) ||| (if x.tag then 0 else word (flagBits x.flags))
    let ended := fun t : State => MemoryKept s t ∧
      t.tile u.val = { x with run := .scrubbing, statusHeld := x.tag, bundle := none } ∧
      (∀ v : Fin 16, v ≠ u → t.tile v.val = s.tile v.val) ∧ flags t ∧ RegsKept [Reg.SV_NUMFLAGS p, Reg.CC_IRQ_PEND] s t ∧
      t.inFlight.map (fun w => (w.dest, w.data, w.tag, w.sig)) = s.inFlight.map (fun w => (w.dest, w.data, w.tag, w.sig))
    let faulted := fun (code : Nat) (t : State) => (t.tile u.val).run = .scrubbing ∧ MemoryKept s t ∧
      t.fld Fld.TF_FAULT_CODE_CODE = code ∧ flags t
    let rel := x.task.rel
    let window := (nearKey u.val rel.nearBase ≤ key ∧ key < nearKey u.val (rel.nearBase + rel.nearSize)) ∨
      (farKey rel.taskBase ≤ key ∧ key < farKey (rel.taskBase + rel.taskSize)) ∨
      ∃ k ∈ x.remote, nearKey u.val (128 * k) ≤ key ∧ key < nearKey u.val (128 * k + 128)
    let alone := (s.partition p).frame = none ∧ (vget {} s.ds.faults p).running = false ∧ x.tag = false
    (b.tile = u.val → s.opReady b 0 9 = true → ∃ t, exec (.endOp b) s = .next t ∧ ended t) ∧
    (busy → ∃ t, exec (.taskEnd u 0 row) s = .next t ∧ ended t) ∧
    (busy → alone → 0x0301 ≤ code → code ≤ 0x0308 → ∃ t, exec (.taskEnd u code row) s = .next t ∧ faulted code t ∧
      Raised Reg.TF_FAULT_STATUS Reg.TF_FAULT_CODE code t ∧ t.reg Reg.TF_FAULT_ADDR = word (relAddr row 0) ∧
      RegsKept (Reg.SV_NUMFLAGS p :: faultRegs) s t) ∧
    (busy → alone → 0x0401 ≤ code → code ≤ 0x0408 → ∃ t, exec (.taskEnd u code row) s = .next t ∧ faulted code t ∧
      Raised Reg.SP_ERR_STATUS Reg.SP_ERR_CODE code t ∧ t.fld Fld.SP_ERR_CODE_SRC = 0x40 + u.val ∧
      t.reg Reg.SP_ERR_ADDR = word (s.absRow u.val row 0) ∧ t.reg Reg.TF_FAULT_ADDR = word (relAddr row 0) ∧
      t.fld Fld.SP_CONFLICT_CNT_COUNT = (if code = 0x0401 then min (s.fld Fld.SP_CONFLICT_CNT_COUNT + 1) 0xFFFFFFFF
        else s.fld Fld.SP_CONFLICT_CNT_COUNT)) ∧
    (¬ busy → exec (.taskEnd u code row) s = .next s) ∧
    (busy → alone → s.flag Fld.TF_CTRL_HANG_EN = true → x.task.limit ≠ 0 →
      ∃ t, exec (.tfHang u) s = .next t ∧ faulted 0x0306 t ∧ RegsKept (Reg.SV_NUMFLAGS p :: faultRegs) s t) ∧
    ((¬ busy ∨ s.flag Fld.TF_CTRL_HANG_EN = false ∨ x.task.limit = 0) → exec (.tfHang u) s = .next s) ∧
    (x.run = .scrubbing → s.tileLanding u.val = false → s.sp.badParity = [] →
      ∃ t, exec (.taskScrubDone u waited) s = .next t ∧ RegsKept [Reg.SP_WAIT_CNT] s t ∧
      t.fld Fld.SP_WAIT_CNT_COUNT = min (s.fld Fld.SP_WAIT_CNT_COUNT + waited) 0xFFFFFFFF ∧
      t.nvm = s.nvm ∧ t.spillMem = s.spillMem ∧
      (window → s.tagged key = true → t.row key = 0 ∧ t.tagged key = false) ∧
      (¬ (window ∧ s.tagged key = true) → t.row key = s.row key ∧ t.tagged key = s.tagged key) ∧
      (∀ v : Fin 16, v ≠ u → t.tile v.val = s.tile v.val) ∧
      t.tile u.val = { x with
        run := .idle, a := Vector.replicate 16 0, l := Vector.replicate 8 0, v := Vector.replicate 16 0,
        acc := Vector.replicate 4 {}, lut := 0, cnt := x.cnt.map (fun c => { c with tag := false }), ftz := false,
        flags := {}, bundle := none, tag := false, remote := [] }) ∧
    (x.run ≠ .scrubbing ∨ s.tileLanding u.val = true → exec (.taskScrubDone u waited) s = .next s)

/-- R14, R17, R20, R173, R183, R184, R193, R198, R201, R210, R214, R235, Tables 6.11 and 7.4: LDV takes a whole row and its
tag, STV writes one with the task's tag, each with its post-increment; a row outside its window ends the task with SP_BOUND
and shows the absolute row in SP_ERR_ADDR (which row is DEDUCED, log entry 17), a space that may not be used with TF_SPACE, an
overlap with a tile or the narrow view with SP_CONFLICT; one with an engine or the scrubber only waits; a fault of slot Y
beside an unfinished memory or compute op of slot X is held until that op has run. -/
def Obligations.VectorRowsLoadAndStore : Prop :=
  ∀ (s : State) (b : TileOp) (key c : Nat) (u : BankUser),
    let x := s.tile b.tile
    let a := vget 0 x.a (opBits b 11 8)
    let v := vget 0 x.v (opBits b 15 12)
    let loads := s.opReady b 1 2 = true ∧ (s.locate b.tile a 0 false).toOption = some (.row key) ∧
      s.wideCode key = none ∧ s.rowEcc key = none ∧ s.sp.badParity = []
    let stores := s.opReady b 1 3 = true ∧ (s.locate b.tile a 0 true).toOption = some (.row key) ∧ s.rowOpen key = true
    let load := s.opDone b { x with v := vput x.v (opBits b 15 12) (s.row key), a := stepped x.a (opBits b 11 8) (opBit b 16),
                                    tag := x.tag || s.tagged key } none
    let stored := fun t : State => t.row key = v ∧ t.tagged key = (s.tagged key || x.tag) ∧ BytesKept (bytesOfRow key) s t ∧
      TagsKept [key] s t ∧ t.nvm = s.nvm ∧ t.spillMem = s.spillMem ∧ TilesKept b.tile s t ∧
      t.tile b.tile = (s.opDone b { x with a := stepped x.a (opBits b 11 8) (opBit b 17) } none).tile b.tile
    let alone := (s.partition x.task.part).frame = none ∧ (vget {} s.ds.faults x.task.part).running = false ∧
      x.tag = false ∧ s.faultNow b = true
    let faulted := fun (code : Nat) (t : State) => MemoryKept s t ∧ (t.tile b.tile).run = .scrubbing ∧
      (t.tile b.tile).v = x.v ∧ (t.tile b.tile).a = x.a ∧ t.fld Fld.TF_FAULT_CODE_CODE = code
    let bound := fun t : State => c = 0x0402 →
      Raised Reg.SP_ERR_STATUS Reg.SP_ERR_CODE 0x0402 t ∧ t.reg Reg.SP_ERR_ADDR = word (s.absRow b.tile a 0)
    let held := { { s.nextBundle b.tile with started := true }.mark true .done with fault := some (0x0302, relAddr a 0) }
    (loads → b.clash = [] → exec (.ldv b) s = .next load) ∧
    (stores → s.endQuiet b = true → b.clash = [] → ∃ t, exec (.stv b) s = .next t ∧ stored t ∧ t.regs = s.regs) ∧
    (stores → s.endQuiet b = true → (u = .engine ∨ u = .scrubber) → b.clash = [(0, u)] →
      ∃ t, exec (.stv b) s = .next t ∧ stored t ∧ RegsKept [Reg.SP_WAIT_CNT] s t ∧
      t.fld Fld.SP_WAIT_CNT_COUNT = (if x.tag then s.fld Fld.SP_WAIT_CNT_COUNT
        else min (s.fld Fld.SP_WAIT_CNT_COUNT + 1) 0xFFFFFFFF)) ∧
    (stores → alone → (u = .tile ∨ u = .narrow) → b.clash = [(0, u)] → ∃ t, exec (.stv b) s = .next t ∧ faulted 0x0401 t ∧
      Raised Reg.SP_ERR_STATUS Reg.SP_ERR_CODE 0x0401 t ∧ t.reg Reg.SP_ERR_ADDR = word (keyCode key)) ∧
    (s.opReady b 1 2 = true → alone → s.locate b.tile a 0 false = .error c → ∃ t, exec (.ldv b) s = .next t ∧
      faulted c t ∧ bound t) ∧
    (s.opReady b 1 3 = true → alone → s.locate b.tile a 0 true = .error c → ∃ t, exec (.stv b) s = .next t ∧
      faulted c t ∧ bound t) ∧
    (s.opReady b 1 3 = true → alone → (s.locate b.tile a 0 true).toOption = some (.row key) → s.isProgramRow key = true →
      ∃ t, exec (.stv b) s = .next t ∧ faulted 0x0303 t) ∧
    (s.opReady b 1 2 = true → s.faultNow b = false → s.locate b.tile a 0 false = .error 0x0302 →
      exec (.ldv b) s = .next (s.setTile b.tile { x with bundle := some held }))

/-- R171, R185, Tables 6.11 and 6.15: a synchronous COPY, PUSH or GATH of N untagged plain rows leaves each destination row with
what its source row held, every other row as it was, and with SIG the counter of the tile that owns the destination (the
issuer for a far one) N higher; PUSH does so in each neighbour of its mask. -/
def Obligations.RowsCopied : Prop :=
  ∀ (s : State) (b : TileOp) (sk : Nat → Nat) (dk : Nat → Nat → Nat) (key : Nat),
    let x := s.tile b.tile
    let reg := fun hi : Nat => vget 0 x.a (opBits b hi (hi - 3))
    let sound := fun (n : Nat) (ds : List Nat) =>
      (∀ i, i < n → s.rowPlain (sk i) = true) ∧
      (∀ d ∈ ds, ∀ i, i < n → s.rowOpen (dk d i) = true ∧ ∀ j, j < n → dk d i ≠ sk j) ∧
      (∀ d ∈ ds, ∀ i, i < n → ∀ e ∈ ds, ∀ j, j < n → dk d i = dk e j → d = e ∧ i = j)
    let counts := fun (owner k n : Nat) => owner < 16 ∧ (s.counter owner k).saturated = false ∧
      (s.counter owner k).value + n ≤ 0xFFFF
    let copied := fun (n : Nat) (ds : List Nat) (t : State) =>
      (∀ d ∈ ds, ∀ i, i < n → t.row (dk d i) = s.row (sk i)) ∧
      BytesKept (ds.flatMap (fun d => (List.range n).flatMap (fun i => bytesOfRow (dk d i)))) s t ∧
      t.tags = s.tags ∧ t.nvm = s.nvm ∧ t.spillMem = s.spillMem ∧ t.regs = s.regs ∧ t.inFlight = s.inFlight
    let plain := x.tag = false ∧ b.clash = [] ∧ s.sp.requests = [] ∧ s.endQuiet b = true
    let moved := fun (i j : Nat) (p q : Bool) (t : State) => { t.tile b.tile with cnt := x.cnt } =
      (s.opDone b { x with a := stepped (stepped x.a i p) j q, asyncSeq := x.asyncSeq + 1 } none).tile b.tile
    let n := opBits b 25 18 + 1
    let m := opBits b 27 20 + 1
    let dirs := (List.range 4).filter (fun d => opBit b (32 + d))
    let width := if opBit b 28 then 16 else 32
    let index := fun i : Nat => ((s.row key).extractLsb' (width * i) width).toNat
    let owner := fun k : Nat => if 0x200000 ≤ k then b.tile else (k - 0x100000) / 4096
    (s.opReady b 1 0 = true → plain → opBit b 26 = false → sound n [0] →
      (∀ i, i < n → (s.locate b.tile (reg 11) i false).toOption = some (.row (sk i)) ∧
        (s.locate b.tile (reg 15) i true).toOption = some (.row (dk 0 i))) →
      (opBit b 27 = true → counts (owner (dk 0 0)) (opBits b 31 28) n) →
      ∃ t, exec (.copy b) s = .next t ∧ copied n [0] t ∧
        moved (opBits b 11 8) (opBits b 15 12) (opBit b 16) (opBit b 17) t ∧
        (opBit b 27 = true → t.counter (owner (dk 0 0)) (opBits b 31 28) =
          { s.counter (owner (dk 0 0)) (opBits b 31 28) with value := (s.counter (owner (dk 0 0)) (opBits b 31 28)).value + n }) ∧
        (opBit b 27 = false → TilesKept b.tile s t ∧ (t.tile b.tile).cnt = x.cnt)) ∧
    (s.opReady b 1 1 = true → plain → opBit b 26 = false → sound n dirs → bits (reg 11) 21 20 = 0 →
      (∀ i, i < n → (s.locate b.tile (reg 11) i false).toOption = some (.row (sk i)) ∧
        ∀ d ∈ dirs, (s.locate b.tile (setBits (setBits (reg 15) 21 20 1) 23 22 d) i true).toOption = some (.row (dk d i))) →
      (∀ d ∈ dirs, counts (owner (dk d 0)) (opBits b 31 28) n) →
      ∃ t, exec (.push b) s = .next t ∧ copied n dirs t ∧
        moved (opBits b 11 8) (opBits b 15 12) (opBit b 16) (opBit b 17) t ∧
        ∀ d ∈ dirs, (t.counter (owner (dk d 0)) (opBits b 31 28)).value =
          (s.counter (owner (dk d 0)) (opBits b 31 28)).value + n) ∧
    (s.opReady b 5 0 = true → plain → opBit b 29 = false → sound m [0] → (opBit b 28 = true ∨ m ≤ 128) →
      bits (reg 15) 21 20 ≠ 1 → (bits (reg 19) 21 20 = 0 ∨ bits (reg 19) 21 20 = 2) →
      (s.locate b.tile (reg 11) 0 false).toOption = some (.row key) → s.rowPlain key = true →
      (∀ i, i < m → bits (reg 15) 18 0 + index i < 2 ^ 19 ∧
        (bits (reg 15) 21 20 = 2 → (bits (reg 15) 18 0 + index i) / 2 ^ 18 = bits (reg 15) 18 0 / 2 ^ 18) ∧
        (s.locate b.tile (reg 15) (index i) false).toOption = some (.row (sk i)) ∧
        (s.locate b.tile (reg 19) i true).toOption = some (.row (dk 0 i))) →
      (opBit b 30 = true → counts b.tile (opBits b 34 31) m) →
      ∃ t, exec (.gath b) s = .next t ∧ copied m [0] t ∧ TilesKept b.tile s t ∧
        moved (opBits b 11 8) (opBits b 19 16) (opBit b 35) (opBit b 36) t ∧
        (opBit b 30 = true → (t.counter b.tile (opBits b 34 31)).value = (s.counter b.tile (opBits b 34 31)).value + m) ∧
        (opBit b 30 = false → (t.tile b.tile).cnt = x.cnt))

/-- R171, R172, R178, R182, R194, R232: an asynchronous COPY puts its rows in flight and leaves memory as it was, a ninth
outstanding op waits; a row in flight lands, with its tag and its increment, once no earlier write of its tile waits for the
same bank, also after its task's end; one that overlaps a tile's access is lost with SP_CONFLICT. -/
def Obligations.RowsInFlightLand : Prop :=
  ∀ (s : State) (b : TileOp) (sk dk : Nat → Nat) (i : Nat) (w : RowWrite) (u : BankUser),
    let x := s.tile b.tile
    let n := opBits b 25 18 + 1
    let first := !(s.inFlight.take i).any (fun v => v.tile == w.tile && bankOf v.dest == bankOf w.dest)
    let rest := s.inFlight.eraseIdx i
    let lands := s.inFlight[i]? = some w ∧ first = true ∧ s.rowOpen w.dest = true
    let counts := w.sig.all (fun e => !(s.counter e.1 e.2).saturated && decide ((s.counter e.1 e.2).value + 1 ≤ 0xFFFF)) = true
    (s.opReady b 1 0 = true → s.endQuiet b = true → x.tag = false → b.clash = [] → opBit b 26 = true →
      (s.outstanding b.tile).length < 8 → s.sp.requests = [] → (∀ j, j < n → s.rowPlain (sk j) = true ∧
        (s.locate b.tile (vget 0 x.a (opBits b 11 8)) j false).toOption = some (.row (sk j)) ∧
        (s.locate b.tile (vget 0 x.a (opBits b 15 12)) j true).toOption = some (.row (dk j))) →
      ∃ t, exec (.copy b) s = .next t ∧ MemoryKept s t ∧ t.regs = s.regs ∧
        t.inFlight.map (fun w => (w.tile, w.dest, w.data, w.tag)) = s.inFlight.map (fun w => (w.tile, w.dest, w.data, w.tag)) ++
          (List.range n).map (fun j => (b.tile, dk j, s.row (sk j), false)) ∧
        t.tile b.tile = (s.opDone b { x with
          a := stepped (stepped x.a (opBits b 11 8) (opBit b 16)) (opBits b 15 12) (opBit b 17)
          asyncSeq := x.asyncSeq + 1 } none).tile b.tile) ∧
    (s.opReady b 1 0 = true → 8 ≤ (s.outstanding b.tile).length → opBit b 26 = true →
      exec (.copy b) s = .next (s.opWaiting b)) ∧
    (lands → counts → ∃ t, exec (.rowWriteLand i none) s = .next t ∧ t.row w.dest = w.data ∧
      t.tagged w.dest = (s.tagged w.dest || w.tag) ∧ BytesKept (bytesOfRow w.dest) s t ∧ t.inFlight = rest ∧
      t.regs = s.regs ∧ t.nvm = s.nvm ∧ t.spillMem = s.spillMem ∧
      ∀ o : Fin 16, ∀ k : Fin 16, t.counter o.val k.val = if w.sig = some (o.val, k.val) then
        { s.counter o.val k.val with value := (s.counter o.val k.val).value + 1, tag := (s.counter o.val k.val).tag || w.tag }
        else s.counter o.val k.val) ∧
    (lands → (u = .tile ∨ u = .narrow) → w.tag = false → w.ended = true → ∃ t, exec (.rowWriteLand i (some u)) s = .next t ∧
      MemoryKept s t ∧ t.inFlight = rest ∧ t.tiles = s.tiles ∧ Raised Reg.SP_ERR_STATUS Reg.SP_ERR_CODE 0x0401 t ∧
      t.fld Fld.SP_CONFLICT_CNT_COUNT = min (s.fld Fld.SP_CONFLICT_CNT_COUNT + 1) 0xFFFFFFFF) ∧
    (s.inFlight[i]? = some w → first = false → exec (.rowWriteLand i none) s = .next s) ∧
    (s.inFlight.length ≤ i → exec (.rowWriteLand i none) s = .next s)

/-- R184, R236, R239, R242, R243, R248 to R250, Table 6.13: a VEC op on plain operands computes every element of its result from
the elements at the same place, writes the result to VD, register or row, ORs the elements' flags into the task's, and
post-increments; SCL takes element 0 of VB throughout, LUT and CVT take as many rows as their formats need, LUTLD loads the
table. -/
def Obligations.VectorElementsComputed : Prop :=
  ∀ (s : State) (b : TileOp) (op : VecOp) (src : Nat → Row) (rb rd : Row) (dk : Nat → Nat),
    let x := s.tile b.tile
    let vd := opBits b 12 8
    let va := opBits b 17 13
    let vb := opBits b 22 18
    let f := fmtOf (opBits b 25 23)
    let f2 := fmtOf (opBits b 31 29)
    let w := fmtWidth f
    let w2 := fmtWidth f2
    let n := max (4096 / w) (4096 / w2)
    let incs := stepped (stepped (stepped x.a (vd - 16) (opBit b 26 && decide (16 ≤ vd))) (va - 16)
      (opBit b 27 && decide (16 ≤ va))) (vb - 16) (opBit b 28 && decide (16 ≤ vb))
    let code := match op with
      | .add => 0 | .sub => 1 | .mul => 2 | .fma => 3 | .max => 4 | .min => 5
    let cmd : Instr := match op with
      | .add => .vecAdd b | .sub => .vecSub b | .mul => .vecMul b | .fma => .vecFma b | .max => .vecMax b | .min => .vecMin b
    let ready := fun opc => s.opReady b 3 opc = true ∧ x.tag = false ∧ b.clash = []
    let reads := fun m : Nat => ∀ k, k < m → s.vRow b.tile va k = some (src k)
    let free := fun m : Nat => vd < 16 ∨ s.endQuiet b = true ∧ ∀ k, k < m → s.rowOpen (dk k) = true ∧
      (s.locate b.tile (vget 0 x.a (vd - 16)) k true).toOption = some (.row (dk k)) ∧ ∀ l, l < k → dk l ≠ dk k
    let out := fun (t : State) (k : Nat) => if vd < 16 then vget 0 (t.tile b.tile).v ((vd + k) % 16) else t.row (dk k)
    let lands := fun (m : Nat) (fl : NumFlags) (t : State) =>
      if vd < 16 then
        t = { s with freeIdx := t.freeIdx }.opDone b { x with v := (t.tile b.tile).v, flags := fl, a := incs } none ∧
          ∀ k : Fin 16, (∀ i, i < m → (vd + i) % 16 ≠ k.val) → vget 0 (t.tile b.tile).v k.val = vget 0 x.v k.val
      else BytesKept ((List.range m).flatMap (fun k => bytesOfRow (dk k))) s t ∧ t.tags = s.tags ∧ t.regs = s.regs ∧
        t.nvm = s.nvm ∧ t.spillMem = s.spillMem ∧ TilesKept b.tile s t ∧
        { t.tile b.tile with remote := x.remote } = (s.opDone b { x with flags := fl, a := incs } none).tile b.tile
    let elem := fun j => vecElem op f x.ftz (if op = .fma then lane w (fun _ => rd) j else 0) (lane w src j)
      (lane w (fun _ => rb) j)
    let scaled := fun j => vecElem .mul f x.ftz 0 (lane w src j) (lane w (fun _ => rb) 0)
    let looked := fun j => lutElem x.lut f f2 x.ftz (lane w src j)
    let converted := fun j => cvtElem f f2 x.ftz (lane w src j)
    (ready code → reads 1 → s.vRow b.tile vb 0 = some rb → (op = .fma → s.vRow b.tile vd 0 = some rd) → free 1 →
      ∃ t, exec cmd s = .next t ∧ lands 1 (laneFlags x.flags (4096 / w) elem) t ∧
        ∀ j, j < 4096 / w → lane w (out t) j = (elem j).1) ∧
    (ready 9 → reads 1 → s.vRow b.tile vb 0 = some rb → free 1 →
      ∃ t, exec (.scl b) s = .next t ∧ lands 1 (laneFlags x.flags (4096 / w) scaled) t ∧
        ∀ j, j < 4096 / w → lane w (out t) j = (scaled j).1) ∧
    (ready 6 → reads 1 → free ((4096 / w * w2 + 4095) / 4096) →
      ∃ t, exec (.vecLut b) s = .next t ∧
        lands ((4096 / w * w2 + 4095) / 4096) (laneFlags x.flags (4096 / w) looked) t ∧
        ∀ j, j < 4096 / w → lane w2 (out t) j = (looked j).1) ∧
    (ready 7 → reads 1 → exec (.lutld b) s = .next (s.opDone b { x with lut := src 0, a := incs } none)) ∧
    (ready 8 → reads (n / (4096 / w)) → free (n / (4096 / w2)) →
      ∃ t, exec (.cvt b) s = .next t ∧ lands (n / (4096 / w2)) (laneFlags x.flags n converted) t ∧
        ∀ j, j < n → lane w2 (out t) j = (converted j).1)

/-- R245 to R247, R251, R252, Tables 6.12, 6.14 and 6.16: MM adds X · W to each accumulator element and gives the accumulator
its class, DRAIN writes the 1,024 elements row-major, RED gives one 32-bit result per group and zeros after them, TMASK copies
the scores its mask keeps and replaces the others; each ends with its flags and post-increments, and MM into an accumulator of
the other class without CLR ends the task. -/
def Obligations.BlocksGroupsAndTreesComputed : Prop :=
  ∀ (s : State) (b : TileOp) (op : RedOp) (src wsrc : Nat → Row) (mask : Row) (dk : Nat → Nat) (fill : Bool),
    let x := s.tile b.tile
    let reg := fun hi : Nat => vget 0 x.a (opBits b hi (hi - 3))
    let ready := fun cls opc => s.opReady b cls opc = true ∧ x.tag = false ∧ b.clash = []
    let writes := fun (a : Word) (m : Nat) => s.endQuiet b = true ∧ ∀ k, k < m → s.rowOpen (dk k) = true ∧
      (s.locate b.tile a k true).toOption = some (.row (dk k)) ∧ ∀ l, l < k → dk l ≠ dk k
    let landed := fun (m : Nat) (y : Tile) (t : State) =>
      BytesKept ((List.range m).flatMap (fun k => bytesOfRow (dk k))) s t ∧ t.tags = s.tags ∧ t.regs = s.regs ∧
        t.nvm = s.nvm ∧ t.spillMem = s.spillMem ∧ TilesKept b.tile s t ∧
        { t.tile b.tile with remote := x.remote } = (s.opDone b y none).tile b.tile
    let out := fun (t : State) (k : Nat) => t.row (dk k)
    let i := opBits b 17 16
    let a := vget ({} : Accum) x.acc i
    let old := fun e : Nat => (a.elems.extractLsb' (32 * e) 32).toNat
    -- MM
    let f := fmtOf (opBits b 20 18)
    let k := mmK f
    let cls := !fmtIsInt f
    let product := fun e : Nat => mmElem f x.ftz (if opBit b 21 then 0 else old e)
      ((List.range k).map (fun l => lane (fmtWidth f) src (e / 32 * k + l)))
      ((List.range k).map (fun l => lane (fmtWidth f) wsrc (e % 32 * k + l)))
    -- DRAIN
    let ofmt := opBits b 19 18
    let dw := if ofmt = 0 then 32 else 16
    let drained := fun e : Nat => drainElem (a.cls == some true) ofmt x.ftz (old e)
    -- RED
    let vd := opBits b 12 8
    let va := opBits b 17 13
    let rf := fmtOf (opBits b 25 23)
    let rw := fmtWidth rf
    let g := 2 ^ opBits b 31 28
    let groups := 4096 / rw / g
    let rows := (groups * 32 + 4095) / 4096
    let code := match op with
      | .sum => 0 | .max => 1 | .min => 2 | .argmax => 3 | .sumsq => 4
    let cmd : Instr := match op with
      | .sum => .redSum b | .max => .redMax b | .min => .redMin b | .argmax => .argmax b | .sumsq => .sumsq b
    let group := fun j : Nat => redGroup op rf x.ftz ((List.range g).map (fun l => lane rw src (j * g + l)))
    let rout := fun (t : State) (l : Nat) => if vd < 16 then vget 0 (t.tile b.tile).v ((vd + l) % 16) else t.row (dk l)
    let rinc := stepped (stepped x.a (vd - 16) (opBit b 26 && decide (16 ≤ vd))) (va - 16) (opBit b 27 && decide (16 ≤ va))
    -- TMASK
    let tf := fmtOf (opBits b 22 20)
    let tw := fmtWidth tf
    let m := 256 * (opBits b 28 25 + 1)
    let trows := (m * tw + 4095) / 4096
    let tinc := stepped (stepped (stepped x.a (opBits b 11 8) (opBit b 29)) (opBits b 15 12) (opBit b 23)) (opBits b 19 16)
      (opBit b 24)
    let alone := (s.partition x.task.part).frame = none ∧ (vget {} s.ds.faults x.task.part).running = false ∧
      s.faultNow b = true
    (ready 2 0 → (opBit b 21 = true ∨ a.cls ≠ some (!cls)) →
      (∀ l : Fin 2, s.plainRow b.tile (reg 11) l.val = some (src l.val) ∧ s.plainRow b.tile (reg 15) l.val = some (wsrc l.val)) →
      ∃ t, exec (.mm b) s = .next t ∧ t = s.opDone b { x with
          acc := vput x.acc i { elems := (vget {} (t.tile b.tile).acc i).elems, cls := some cls }
          a := stepped (stepped x.a (opBits b 11 8) (opBit b 22)) (opBits b 15 12) (opBit b 23)
          flags := laneFlags x.flags 1024 product } none ∧
        ∀ e, e < 1024 → ((vget {} (t.tile b.tile).acc i).elems.extractLsb' (32 * e) 32).toNat = (product e).1) ∧
    (ready 2 0 → alone → opBit b 21 = false → a.cls = some (!cls) → ∃ t, exec (.mm b) s = .next t ∧ MemoryKept s t ∧
      (t.tile b.tile).run = .scrubbing ∧ (t.tile b.tile).acc = x.acc ∧ Raised Reg.TF_FAULT_STATUS Reg.TF_FAULT_CODE 0x0301 t) ∧
    (ready 2 1 → (ofmt = 0 ∨ a.cls ≠ some false) → writes (reg 11) (dw / 4) → ∃ t, exec (.drain b) s = .next t ∧
      landed (dw / 4) { x with
        acc := if opBit b 21 then vput x.acc i {} else x.acc
        a := stepped x.a (opBits b 11 8) (opBit b 22), flags := laneFlags x.flags 1024 drained } t ∧
      ∀ e, e < 1024 → lane dw (out t) e = (drained e).1) ∧
    (ready 4 code → s.vRow b.tile va 0 = some (src 0) → vd < 16 → ∃ t, exec cmd s = .next t ∧
      t = s.opDone b { x with v := (t.tile b.tile).v, a := rinc, flags := laneFlags x.flags groups group } none ∧
      (∀ l : Fin 16, (∀ e, e < rows → (vd + e) % 16 ≠ l.val) → vget 0 (t.tile b.tile).v l.val = vget 0 x.v l.val) ∧
      ∀ j, j < 128 * rows → lane 32 (rout t) j = if j < groups then (group j).1 else 0) ∧
    (ready 4 code → s.vRow b.tile va 0 = some (src 0) → 16 ≤ vd → writes (vget 0 x.a (vd - 16)) rows →
      ∃ t, exec cmd s = .next t ∧ landed rows { x with a := rinc, flags := laneFlags x.flags groups group } t ∧
      ∀ j, j < 128 * rows → lane 32 (rout t) j = if j < groups then (group j).1 else 0) ∧
    (ready 6 (if fill then 0 else 1) → s.plainRow b.tile (reg 11) 0 = some mask →
      (∀ l, l < trows → s.plainRow b.tile (reg 15) l = some (src l)) → writes (reg 19) trows →
      ∃ t, exec (if fill then .tmaskFill b else .tmaskZero b) s = .next t ∧ landed trows { x with a := tinc } t ∧
        ∀ j, j < m → lane tw (out t) j = if mask.getLsbD j then lane tw src j else if fill then fillCode tf else 0)

/-- R254, Tables 8.6 to 8.10: what each op class gives, code and flags, at the smallest subnormal and the largest finite value
of each floating format and at the integer limits, with FTZ 0 and FTZ 1. -/
def Obligations.ResultsAtTheExtremes : Prop :=
  ∀ (z : Bool) (nf : Fmt) (code : Nat),
    -- format, M, what an overflow gives, M × s
    let fs : List (Fmt × Nat × Nat × Nat) := [(.e4m3, 0x7E, 0x7E, 0x36), (.e5m2, 0x7B, 0x7C, 0x3B), (.bf16, 0x7F7F, 0x7F80,
      0x3CFF),
      (.fp16, 0x7BFF, 0x7C00, 0x1BFF), (.fp32, 0x7F7FFFFF, 0x7F800000, 0x34FFFFFF)]
    -- format, accumulator, X, W, result, flags
    let mms : List (Fmt × Nat × Nat × Nat × Nat × NumFlags) := [
        (.e4m3, 0x0, 0x7E, 0x7E, 0x4AC40000, noFlags), (.e4m3, 0x0, 1, 1, 0x39000000, noFlags),
        (.e4m3, 0x0, 0x7E, 1, 0x41E00000, noFlags), (.e4m3, 0x7F7FFFFF, 0x7E, 0x7E, 0x7F7FFFFF, onlyNx),
        (.e5m2, 0x0, 0x7B, 0x7B, 0x51C40000, noFlags), (.e5m2, 0x0, 1, 1, 0x32000000, noFlags),
        (.e5m2, 0x0, 0x7B, 1, 0x41E00000, noFlags), (.e5m2, 0x7F7FFFFF, 0x7B, 0x7B, 0x7F7FFFFF, onlyNx),
        (.bf16, 0x0, 0x7F7F, 0x7F7F, 0x7F800000, ofNx), (.bf16, 0x0, 1, 1, 0x0, ufNx),
        (.bf16, 0x0, 0x7F7F, 1, 0x3EFF0000, noFlags), (.bf16, 0x7F7FFFFF, 0x7F7F, 0x7F7F, 0x7F800000, ofNx),
        (.fp16, 0x0, 0x7BFF, 0x7BFF, 0x517FC004, noFlags), (.fp16, 0x0, 1, 1, 0x29800000, noFlags),
        (.fp16, 0x0, 0x7BFF, 1, 0x3D7FE000, noFlags), (.fp16, 0x7F7FFFFF, 0x7BFF, 0x7BFF, 0x7F7FFFFF, onlyNx),
        (.int8, 0, 0x7F, 0x7F, 516128, noFlags), (.int4, 0, 7, 7, 3136, noFlags),
        (.int8, 0, 0x80, 0x80, 524288, noFlags), (.int4, 0, 8, 8, 4096, noFlags),
        (.int8, 2146959360, 0x80, 0x80, 2147483647, onlySat)]
    -- accumulator, OFMT, result, flags, result and flags with FTZ
    let drains : List (Nat × Nat × Nat × NumFlags × Nat × NumFlags) := [
        (0x7F7FFFFF, 0, 0x7F7FFFFF, noFlags, 0x7F7FFFFF, noFlags), (0x7F7FFFFF, 1, 0x7F80, ofNx, 0x7F80, ofNx),
        (0x7F7FFFFF, 2, 0x7C00, ofNx, 0x7C00, ofNx), (0x477FEF00, 0, 0x477FEF00, noFlags, 0x477FEF00, noFlags),
        (0x477FEF00, 1, 0x4780, onlyNx, 0x4780, onlyNx), (0x477FEF00, 2, 0x7BFF, onlyNx, 0x7BFF, onlyNx),
        (0x477FF000, 0, 0x477FF000, noFlags, 0x477FF000, noFlags), (0x477FF000, 1, 0x4780, onlyNx, 0x4780, onlyNx),
        (0x477FF000, 2, 0x7C00, ofNx, 0x7C00, ofNx), (0x10000, 0, 0x10000, noFlags, 0, ufNx),
        (0x10000, 1, 0x1, noFlags, 0, ufNx), (0x10000, 2, 0x0, ufNx, 0, ufNx),
        (0x1, 0, 0x1, noFlags, 0, ufNx), (0x1, 1, 0x0, ufNx, 0, ufNx),
        (0x1, 2, 0x0, ufNx, 0, ufNx)]
    -- source, target, code, result, flags, result and flags with FTZ
    let cvts : List (Fmt × Fmt × Nat × Nat × NumFlags × Nat × NumFlags) := [
        (.e4m3, .e5m2, 0x7E, 0x5F, noFlags, 0x5F, noFlags), (.e4m3, .fp16, 0x7E, 0x5F00, noFlags, 0x5F00, noFlags),
        (.e4m3, .int8, 0x7E, 0x7F, onlySat, 0x7F, onlySat), (.e4m3, .e5m2, 0x1, 0x18, noFlags, 0x18, noFlags),
        (.e4m3, .int8, 0x1, 0x0, onlyNx, 0x0, onlyNx), (.e5m2, .e4m3, 0x7B, 0x7E, ofNx, 0x7E, ofNx),
        (.e5m2, .e4m3, 0x1, 0x0, ufNx, 0x0, ufNx), (.e5m2, .fp16, 0x1, 0x100, noFlags, 0, ufNx),
        (.e5m2, .e4m3, 0x7C, 0x7E, onlyOf, 0x7E, onlyOf), (.e5m2, .fp16, 0x7C, 0x7C00, noFlags, 0x7C00, noFlags),
        (.e5m2, .int8, 0x7C, 0x7F, onlyNv, 0x7F, onlyNv), (.fp16, .e4m3, 0x7BFF, 0x7E, ofNx, 0x7E, ofNx),
        (.fp16, .e5m2, 0x7BFF, 0x7C, ofNx, 0x7C, ofNx), (.fp16, .bf16, 0x7BFF, 0x4780, onlyNx, 0x4780, onlyNx),
        (.fp16, .int16, 0x7BFF, 0x7FFF, onlySat, 0x7FFF, onlySat), (.fp16, .bf16, 0x1, 0x3380, noFlags, 0x3380, noFlags),
        (.fp16, .e5m2, 0x1, 0x0, ufNx, 0x0, ufNx), (.bf16, .fp16, 0x7F7F, 0x7C00, ofNx, 0x7C00, ofNx),
        (.bf16, .fp32, 0x7F7F, 0x7F7F0000, noFlags, 0x7F7F0000, noFlags), (.bf16, .fp32, 0x1, 0x10000, noFlags, 0, ufNx),
        (.bf16, .fp16, 0x1, 0x0, ufNx, 0x0, ufNx), (.fp32, .bf16, 0x7F7FFFFF, 0x7F80, ofNx, 0x7F80, ofNx),
        (.fp32, .e4m3, 0x7F7FFFFF, 0x7E, ofNx, 0x7E, ofNx), (.fp32, .bf16, 0x1, 0x0, ufNx, 0x0, ufNx),
        (.int16, .fp16, 0x7FFF, 0x7800, onlyNx, 0x7800, onlyNx), (.int16, .bf16, 0x7FFF, 0x4700, onlyNx, 0x4700, onlyNx),
        (.int16, .e5m2, 0x7FFF, 0x78, onlyNx, 0x78, onlyNx), (.int16, .e4m3, 0x7FFF, 0x7E, ofNx, 0x7E, ofNx),
        (.fp32, .fp32, 0x7FFFFFFF, 0x4F000000, onlyNx, 0x4F000000, onlyNx), (.int8, .int4, 0x80, 0x8, onlySat, 0x8, onlySat)]
    (∀ e ∈ fs, let f := e.1
      let m := e.2.1
      let neg := m + fmtSign f
      let flushed := fun (c : Nat) (fl : NumFlags) => if z then (0, ufNx) else (c, fl)
      vecElem .add f z 0 m m = (e.2.2.1, ofNx) ∧ vecElem .sub f z 0 m m = (0, noFlags) ∧
      vecElem .add f z 0 1 1 = flushed 2 noFlags ∧ vecElem .mul f z 0 1 1 = (0, ufNx) ∧
      vecElem .mul f z 0 m m = (e.2.2.1, ofNx) ∧ vecElem .mul f z 0 m 1 = (e.2.2.2, noFlags) ∧
      vecElem .fma f z 1 1 1 = flushed 1 ufNx ∧ vecElem .max f z 0 1 0 = flushed 1 noFlags ∧
      vecElem .max f z 0 m neg = (m, noFlags) ∧ vecElem .min f z 0 neg m = (neg, noFlags)) ∧
    (∀ f ∈ [Fmt.int4, Fmt.int8, Fmt.int16], let w := fmtWidth f
      let top := 2 ^ (w - 1) - 1
      let low := 2 ^ (w - 1)
      vecElem .add f z 0 top top = (top, onlySat) ∧ vecElem .sub f z 0 low top = (low, onlySat) ∧
      vecElem .mul f z 0 low low = (top, onlySat) ∧ vecElem .mul f z 0 top 1 = (top, noFlags) ∧
      vecElem .fma f z low top 1 = (2 ^ w - 1, noFlags)) ∧
    (∀ e ∈ mms, mmElem e.1 z e.2.1 (List.replicate (mmK e.1) e.2.2.1) (List.replicate (mmK e.1) e.2.2.2.1) =
      (e.2.2.2.2.1, e.2.2.2.2.2)) ∧
    (∀ e ∈ drains, drainElem true e.2.1 z e.1 = if z then (e.2.2.2.2.1, e.2.2.2.2.2) else (e.2.2.1, e.2.2.2.1)) ∧
    (∀ e ∈ cvts, cvtElem e.1 e.2.1 z e.2.2.1 = if z then (e.2.2.2.2.2.1, e.2.2.2.2.2.2) else (e.2.2.2.1, e.2.2.2.2.1)) ∧
    (fmtIsInt nf = false → decodeF nf code = .nan → cvtElem nf .e4m3 z code = (0x7F, noFlags) ∧
      ∀ g ∈ [Fmt.int4, Fmt.int8, Fmt.int16], cvtElem nf g z code = (0, onlyNv))

/-- R189, R190, R508, R509, R516, Table 6.19: while SLOW is clear each 8 ms decision raises by STEP to the ceiling when the
smallest margin is below LO, sets SATURATED at the ceiling, lowers by STEP to V_floor after LOWER_AFTER periods above HI, and
holds otherwise, while a request is unacknowledged and during an entry or exit, which still end SATURATED in a period with
no margin below LO; a target that was not acknowledged is issued again; with EN 0 the request is the set point; a change is
sent as a target; a write of TF_SUP_MARGIN whose HI does not exceed its LO is ignored. -/
def Obligations.SupervisorDecides : Prop :=
  ∀ (s : State) (v : Word) (tgt : Nat × Bool),
    let lo : Int := s.fld Fld.TF_SUP_MARGIN_LO
    let hi : Int := s.fld Fld.TF_SUP_MARGIN_HI
    let req := s.fld Fld.TF_SUP_STATUS_REQ
    let low := s.sup.margin.any (fun m => decide (m < lo)) = true
    let high := s.sup.margin.all (fun m => decide (hi < m)) = true
    let due := max 1 (s.fld Fld.TF_SUP_CTRL_LOWER_AFTER)
    let idle := s.flag Fld.PW_STATE_BUSY = false ∧ s.pw.avs.reissue = none ∧ s.pw.avs.current = none ∧
      s.flag Fld.PW_AVS_STATUS_LOST = false
    let on := idle ∧ s.flag Fld.TF_SUP_CTRL_EN = true ∧ s.flag Fld.TF_SUP_STATUS_AVS_WAIT = false ∧
      s.flag Fld.TF_SUP_STATUS_SLOW = false
    let sent := fun (mv : Nat) (t : State) => t.fld Fld.TF_SUP_STATUS_REQ = mv % 1024 ∧ t.pw.avs.current = some (mv, false) ∧
      t.fld Fld.PW_AVS_STATUS_TARGET_MV = mv % 1024 ∧ t.flag Fld.PW_AVS_STATUS_OUTSTANDING = true ∧
      t.flag Fld.TF_SUP_STATUS_AVS_WAIT = true
    let kept := fun t : State => MemoryKept s t ∧ t.sup.margin = none ∧
      RegsKept [Reg.TF_SUP_STATUS, Reg.TF_SUP_EVENTS, Reg.PW_AVS_STATUS] s t
    let held := fun t : State => t.fld Fld.TF_SUP_STATUS_REQ = req ∧ t.pw = s.pw ∧
      t.reg Reg.TF_SUP_EVENTS = s.reg Reg.TF_SUP_EVENTS ∧ t.reg Reg.PW_AVS_STATUS = s.reg Reg.PW_AVS_STATUS
    (on → low → req < s.ceiling → ∃ t, exec .supervisorDecision s = .next t ∧ kept t ∧
      sent (min s.ceiling (req + s.fld Fld.TF_SUP_CTRL_STEP)) t ∧
      t.fld Fld.TF_SUP_EVENTS_RAISES = min (s.fld Fld.TF_SUP_EVENTS_RAISES + 1) 0xFFFF) ∧
    (on → low → s.ceiling ≤ req → ∃ t, exec .supervisorDecision s = .next t ∧ kept t ∧ held t ∧
      t.flag Fld.TF_SUP_STATUS_SATURATED = true) ∧
    (on → ¬ low → high → due ≤ s.sup.periods + 1 → s.vFloor < req → ∃ t, exec .supervisorDecision s = .next t ∧ kept t ∧
      sent (max s.vFloor (req - s.fld Fld.TF_SUP_CTRL_STEP)) t ∧ t.sup.periods = 0 ∧
      t.flag Fld.TF_SUP_STATUS_SATURATED = false ∧
      t.fld Fld.TF_SUP_EVENTS_LOWERS = min (s.fld Fld.TF_SUP_EVENTS_LOWERS + 1) 0xFFFF) ∧
    (on → ¬ low → (high → s.sup.periods + 1 < due ∨ req ≤ s.vFloor) → ∃ t, exec .supervisorDecision s = .next t ∧ kept t ∧
      held t ∧ t.flag Fld.TF_SUP_STATUS_SATURATED = false ∧ t.sup.periods = if high then s.sup.periods + 1 else 0) ∧
    (idle → s.flag Fld.TF_SUP_CTRL_EN = true → s.flag Fld.TF_SUP_STATUS_AVS_WAIT = true →
      ∃ t, exec .supervisorDecision s = .next t ∧ kept t ∧ held t) ∧
    (s.flag Fld.PW_STATE_BUSY = true → ∃ t, exec .supervisorDecision s = .next t ∧ kept t ∧ held t ∧
      t.flag Fld.TF_SUP_STATUS_AVS_WAIT = s.flag Fld.TF_SUP_STATUS_AVS_WAIT ∧
      t.flag Fld.TF_SUP_STATUS_SATURATED = (if s.flag Fld.TF_SUP_CTRL_EN = true ∧ ¬ low then false
        else s.flag Fld.TF_SUP_STATUS_SATURATED)) ∧
    (s.flag Fld.PW_STATE_BUSY = false → s.pw.avs.reissue = some tgt → s.pw.avs.current = none →
      s.flag Fld.PW_AVS_STATUS_LOST = false → ∃ t, exec .supervisorDecision s = .next t ∧ kept t ∧
      t.pw.avs.current = some tgt ∧ t.pw.avs.reissue = none ∧ t.fld Fld.PW_AVS_STATUS_TARGET_MV = tgt.1 % 1024 ∧
      t.flag Fld.PW_AVS_STATUS_OUTSTANDING = true ∧ t.flag Fld.TF_SUP_STATUS_AVS_WAIT = true) ∧
    (idle → s.flag Fld.TF_SUP_CTRL_EN = false → req ≠ s.setPoint → ∃ t, exec .supervisorDecision s = .next t ∧ kept t ∧
      sent s.setPoint t ∧ t.reg Reg.TF_SUP_EVENTS = s.reg Reg.TF_SUP_EVENTS) ∧
    ((v.toNat % 65536 < v.toNat / 65536) → ∃ t, exec (.tfSupMarginWrite v) s = .next t ∧
      OnlyRegs [Reg.TF_SUP_MARGIN] s t ∧ t.reg Reg.TF_SUP_MARGIN = v) ∧
    (v.toNat / 65536 ≤ v.toNat % 65536 → ∃ t, exec (.tfSupMarginWrite v) s = .next t ∧ t = s)

/-- R191, R509, R510, R552, Table 18.2: the third slow measurement in a row at or above V_floor raises TF_SLOW_FLOOR, sets SLOW
and requests the ceiling with a Snag Log entry, a good second ends SLOW and a minute of it logs again; a transaction that
times out raises PW_AVS_TIMEOUT and is issued again at the next decision, the third sets LOST, and a read answered clears it. -/
def Obligations.BeatMonitorAndAvsTimeouts : Prop :=
  ∀ (s : State) (rate : Nat) (back : Option Nat) (tgt : Nat) (ceil answered : Bool),
    let mv := back.getD 0
    let slow := s.flag Fld.TF_SUP_STATUS_SLOW = true
    let arg := word (s.fld Fld.TF_BEAT_RATE_RATE + 65536 * s.fld Fld.PW_AVS_STATUS_ACK_MV)
    let room := s.snagQueue.length < 64
    let shown := fun t : State => MemoryKept s t ∧ t.fld Fld.TF_BEAT_RATE_RATE = min rate 65535
    let quiet := s.pw.avs.current = none ∧ s.flag Fld.PW_AVS_STATUS_LOST = false
    (¬ slow → rate < 900 → 2 ≤ s.sup.slowRuns → s.vFloor ≤ s.pw.avs.acked → room → quiet →
      ∃ t, exec (.beatMonitorMeasure rate) s = .next t ∧ shown t ∧ t.flag Fld.TF_SUP_STATUS_SLOW = true ∧
        tstBit (t.reg Reg.TF_FAULT_STATUS) 6 = true ∧ t.fld Fld.TF_SUP_STATUS_REQ = t.ceiling % 1024 ∧
        t.pw.avs.current = some (s.ceiling, true) ∧ (t.snagQueue.getLast?).map (fun e => (e.kind, e.code, e.count, e.arg)) =
          some (1, 0x0307, 1, word (min rate 65535 + 65536 * s.fld Fld.PW_AVS_STATUS_ACK_MV))) ∧
    (¬ slow → (900 ≤ rate ∨ s.sup.slowRuns < 2 ∨ s.pw.avs.acked < s.vFloor) →
      ∃ t, exec (.beatMonitorMeasure rate) s = .next t ∧ shown t ∧ RegsKept [Reg.TF_BEAT_RATE] s t ∧ t.pw = s.pw ∧
        t.snagQueue = s.snagQueue ∧ t.sup.slowRuns = if rate < 900 then s.sup.slowRuns + 1 else 0) ∧
    (slow → ∃ t, exec (.beatMonitorMeasure rate) s = .next t ∧ shown t ∧ t.pw = s.pw ∧ t.snagQueue = s.snagQueue ∧
      (t.flag Fld.TF_SUP_STATUS_SLOW = false ↔ 900 ≤ rate ∧ 1000 ≤ s.sup.goodRuns + 1)) ∧
    (slow → room → ∃ t, exec .slowFloorLog s = .next t ∧ MemoryKept s t ∧ RegsKept [Reg.MG_SNAG_QUEUE] s t ∧
      (t.snagQueue.getLast?).map (fun e => (e.kind, e.code, e.count, e.arg)) =
        some (1, 0x0307, min (s.sup.slowMinutes + 1) 65535, arg) ∧ t.sup = { s.sup with slowMinutes := s.sup.slowMinutes + 1 }) ∧
    (¬ slow → ∃ t, exec .slowFloorLog s = .next t ∧ t = s) ∧
    (s.pw.avs.current = some (tgt, ceil) → ∃ t, exec (.pwAvsTimeout back) s = .next t ∧ MemoryKept s t ∧
      t.pw.avs.current = none ∧ t.pw.avs.waiting = none ∧ t.pw.avs.reissue = some (s.pw.avs.waiting.getD (tgt, ceil)) ∧
      t.pw.avs.fails = s.pw.avs.fails + 1 ∧ tstBit (t.reg Reg.PW_ERR_STATUS) 3 = true ∧
      t.flag Fld.PW_AVS_STATUS_OUTSTANDING = false ∧
      t.fld Fld.PW_AVS_STATUS_ACK_MV = (if 650 ≤ mv ∧ mv ≤ 900 then mv else s.fld Fld.PW_AVS_STATUS_ACK_MV) ∧
      t.flag Fld.TF_SUP_STATUS_AVS_WAIT = (s.flag Fld.TF_SUP_STATUS_AVS_WAIT && !(decide (650 ≤ mv) && decide (mv ≤ 900))) ∧
      t.flag Fld.PW_AVS_STATUS_LOST = (s.flag Fld.PW_AVS_STATUS_LOST || decide (2 ≤ s.pw.avs.fails)) ∧
      t.fld Fld.PW_ERR_CODE_CODE = (if 2 ≤ s.pw.avs.fails then 0x0D05 else 0x0D04)) ∧
    (s.pw.avs.current = none → ∃ t, exec (.pwAvsTimeout back) s = .next t ∧ t = s) ∧
    ∃ t, exec (.avsLostPoll answered) s = .next t ∧ OnlyRegs [Reg.PW_AVS_STATUS] { s with pw := t.pw } t ∧
      t.flag Fld.PW_AVS_STATUS_LOST = (s.flag Fld.PW_AVS_STATUS_LOST && !answered) ∧ t.pw.avs.current = s.pw.avs.current

/-- R156, R204 to R207, R211, R214, R218, Table 7.9: a write to SP_CTRL.APPLY is ignored while one waits; a shadow set with a
reserved code, a window past its level, or a partition's bank in the ring raises SP_GEOM and changes nothing; a set that
passes is captured, its newly declared banks made ready, and it takes effect whole once no scrub, no power-up, no ring bank
still to be scrubbed and no running task holds it back, when an undeclared bank that the ring does not use is powered down and
loses its rows, and one that stays keeps them unless it changes owner without zero-initialisation (R206); the scrub of a bank
that is released clears its tagged rows and, where nothing declares the bank, powers it down. -/
def Obligations.AppliesTakeEffectWhole : Prop :=
  ∀ (s : State) (r : Requester) (m : List (Nat × Word)) (b : Fin 576) (u : Fin 16) (key waited : Nat),
    let owner := fun k : Fin 64 => s.fld (Fld.SP_FAR_OWNER_OWNER k.val)
    let part := fun k : Fin 16 => s.fld (Fld.SP_TILE_PART_PART k.val)
    let bad := (∃ k : Fin 64, 4 < owner k ∧ owner k ≠ 8) ∨ (∃ k : Fin 16, 4 < part k) ∨
      (∃ k : Fin 64, s.ringBank k.val = true ∧ 1 ≤ owner k ∧ owner k ≤ 4) ∨
      ∃ n : Fin 32, s.fld (Fld.SP_RS_CTRL_VALID n.val) = 1 ∧
        (4096 < s.fld (Fld.SP_RS_NEAR_BASE n.val) + s.fld (Fld.SP_RS_NEAR_SIZE n.val) ∨
         4096 < s.fld (Fld.SP_RS_NBR_BASE n.val) + s.fld (Fld.SP_RS_NBR_SIZE n.val) ∨
         524288 < s.fld (Fld.SP_RS_TASK_BASE_ROW n.val) + s.fld (Fld.SP_RS_TASK_SIZE_ROWS n.val) ∨
         524288 < s.fld (Fld.SP_RS_PART_BASE_ROW n.val) + s.fld (Fld.SP_RS_PART_SIZE_ROWS n.val))
    let quiet := ∀ t : Fin 16, (s.tile t.val).run = .idle
    let stays := bankDeclared m b.val = true ∨ s.ringBank b.val = true ∨ b.val ∈ s.sp.ringRelease
    let inBank := bankFirst b.val ≤ key ∧ key < bankFirst b.val + bankRows b.val
    let due := b.val ∈ s.sp.ringRelease ∨
      s.sp.captured = some m ∧ bankLeaves s.sp.inForce m b.val = true ∧ s.applyBlocked m = false
    let wanted := bankDeclared s.sp.inForce b.val = true ∨ s.sp.captured.any (fun m => bankDeclared m b.val) = true ∨
      s.ringBank b.val = true ∨ s.flag Fld.SP_STATUS_BOOT_MAP = true
    let scrubbed := fun t : State => RegsKept [Reg.SP_WAIT_CNT, (bankBit Reg.SP_FAR_PWR Reg.SP_NEAR_PWR b.val).1] s t ∧
      t.fld Fld.SP_WAIT_CNT_COUNT = min (s.fld Fld.SP_WAIT_CNT_COUNT + waited) 0xFFFFFFFF ∧ t.nvm = s.nvm ∧
      t.spillMem = s.spillMem ∧ b.val ∉ t.sp.toScrub ∧ b.val ∉ t.sp.ringRelease ∧
      (¬ inBank → t.row key = s.row key ∧ t.tagged key = s.tagged key)
    (s.sp.captured.isSome = true → exec (.spApply r) s = .next s) ∧
    (s.sp.captured = none → bad → ∃ t, exec (.spApply r) s = .next t ∧ MemoryKept s t ∧ t.sp = s.sp ∧
      Raised Reg.SP_ERR_STATUS Reg.SP_ERR_CODE 0x0406 t ∧ t.fld Fld.SP_ERR_CODE_SRC = srcCode r % 256 ∧
      t.reg Reg.SP_ERR_ADDR = 0 ∧
      RegsKept ([Reg.SP_ERR_STATUS, Reg.SP_ERR_CODE, Reg.SP_ERR_ADDR, Reg.CC_IRQ_PEND] ++ snagRegs) s t) ∧
    (s.sp.captured = none → s.spCheck s.spShadow = true → ∃ t, exec (.spApply r) s = .next t ∧ t = { s with sp := t.sp } ∧
      t.sp.captured = some s.spShadow ∧ t.sp.inForce = s.sp.inForce ∧
      (bankPartition s.sp.inForce b.val ≠ 0 → bankPartition s.spShadow b.val ≠ bankPartition s.sp.inForce b.val →
        b.val ∈ t.sp.toScrub) ∧
      (bankDeclared s.spShadow b.val = true → bankDeclared s.sp.inForce b.val = false →
        (s.bankOn b.val = false ∨ bankZinit s.spShadow b.val = true) → b.val ∈ t.sp.toReady) ∧
      (bankPartition s.spShadow b.val ≠ 0 → bankPartition s.spShadow b.val ≠ bankPartition s.sp.inForce b.val →
        bankZinit s.spShadow b.val = true → b.val ∈ t.sp.toReady)) ∧
    (s.sp.captured = some m → s.sp.toScrub = [] → s.sp.toReady = [] → (∀ k ∈ s.sp.ringRelease, bankDeclared m k = false) →
      (∀ k ∈ s.tags.map (·.1) ++ s.sp.badParity, bankLeaves s.sp.inForce m (bankOf k) = false) → quiet →
      s.pk.undeclare = [] → ∃ t, exec .spApplyTakeEffect s = .next t ∧ t.sp.inForce = m ∧ t.sp.captured = none ∧
        t.flag Fld.SP_STATUS_BOOT_MAP = false ∧ tstBit (t.reg Reg.CC_IRQ_PEND) 6 = true ∧ t.nvm = s.nvm ∧
        t.spillMem = s.spillMem ∧ t.tiles = s.tiles ∧
        (stays → t.bankOn b.val = s.bankOn b.val ∧
          (inBank → t.tagged key = s.tagged key ∧ (bankOpens s.sp.inForce m b.val = false → t.row key = s.row key))) ∧
        (¬ stays → s.bankOn b.val = true → t.bankOn b.val = false ∧ (inBank → t.row key = 0 ∧ t.tagged key = false))) ∧
    (s.sp.captured = some m → (s.sp.toScrub ≠ [] ∨ s.sp.toReady ≠ [] ∨
      (b.val ∈ s.sp.ringRelease ∧ bankDeclared m b.val = true) ∨
      ((s.tile u.val).run = .running ∧ relOf m (s.tile u.val).task.relIdx ≠ relOf s.sp.inForce (s.tile u.val).task.relIdx)) →
      exec .spApplyTakeEffect s = .next s) ∧
    (s.sp.captured = none → exec .spApplyTakeEffect s = .next s) ∧
    (b.val ∈ s.sp.toReady → (bankDeclared s.sp.inForce b.val = false ∨
      (b.val ∉ s.sp.toScrub ∧ s.sp.captured.all (fun m => !s.applyBlocked m) = true)) → ∃ t,
        exec (.bankReady b.val) s = .next t ∧ t.nvm = s.nvm ∧ t.spillMem = s.spillMem ∧
      tstBit (t.reg (bankBit Reg.SP_FAR_PWR Reg.SP_NEAR_PWR b.val).1) (bankBit Reg.SP_FAR_PWR Reg.SP_NEAR_PWR b.val).2 = true ∧
      RegsKept [(bankBit Reg.SP_FAR_PWR Reg.SP_NEAR_PWR b.val).1] s t ∧ b.val ∉ t.sp.toReady ∧
      (inBank → t.row key = 0 ∧ t.tagged key = false) ∧
      (¬ inBank → t.row key = s.row key ∧ t.tagged key = s.tagged key)) ∧
    (b.val ∉ s.sp.toReady → exec (.bankReady b.val) s = .next s) ∧
    (due → wanted → s.sp.badParity = [] → ∃ t, exec (.bankReleaseScrubDone b.val waited) s = .next t ∧ scrubbed t ∧
      t.bankOn b.val = s.bankOn b.val ∧
      (inBank → s.tagged key = true → t.row key = 0 ∧ t.tagged key = false) ∧
      (inBank → s.tagged key = false → t.row key = s.row key ∧ t.tagged key = false)) ∧
    (due → ¬ wanted → s.sp.badParity = [] → ∃ t, exec (.bankReleaseScrubDone b.val waited) s = .next t ∧ scrubbed t ∧
      t.bankOn b.val = false ∧ (inBank → t.row key = 0 ∧ t.tagged key = false)) ∧
    (b.val ∉ s.sp.ringRelease → s.sp.captured.all (fun m => !bankLeaves s.sp.inForce m b.val || s.applyBlocked m) = true →
      exec (.bankReleaseScrubDone b.val waited) s = .next s)

/-- R16, R35, R171, R219, R222 to R226, R234: a sweep starts only where it may, a late start is counted; each step reads one
spill row and hands it, with the entry's tag, to the entry waiting on it, a failed read ends its task with SP_SPILL_IO and
shows the spill row (DEDUCED, log entry 17), a full crossing FIFO leaves every entry for the next sweep; the end performs the
queued write and its increment; the reset of the spill device is released where it is enabled. -/
def Obligations.SpillSweepServesEntries : Prop :=
  ∀ (s : State) (p : Fin 4) (k taken waited : Nat) (e : SpillReq) (w : SpillWrite),
    let data : Row := BitVec.ofNat 4096 (le (Sparse.gets spillDefault s.spillMem (512 * (s.spFld (Fld.SP_SPILL_BASE_ROW p.val) + k)) 512) 0 512)
    let mine := s.sp.requests.filter (fun q => q.part == p.val && q.row == k && !q.waiting)
    let at' := s.sp.sweep = some (p.val, k)
    let one := at' ∧ s.sp.requests = [e] ∧ e.part = p.val ∧ e.row = k ∧ e.waiting = false
    let calm := ∀ v : Fin 16, (s.tile v.val).haltAfter = false ∧ (s.tile v.val).bundle.all (·.fault.isNone) = true
    let idle := (s.tile e.tile).task.part = p.val ∧ (s.partition p.val).frame = none ∧
      (vget {} s.ds.faults p.val).running = false ∧ (s.tile e.tile).tag = false ∧ (s.tile e.tile).run = .running
    (s.maySweep = true → s.sp.sweep = none → ∃ t, exec .spillSweepStart s = .next t ∧ t = { s with sp := t.sp } ∧
      t.sp = { s.sp with sweep := t.sp.sweep } ∧ t.sp.sweep.isSome = true ∧
      (∀ q : Fin 4, t.sp.sweep.map (·.1) = some q.val → t.sp.sweep = some (q.val, 0) ∧ 0 < s.sweepRows q.val)) ∧
    (s.maySweep = true → s.sp.sweep.isSome = true → ∃ t, exec .spillSweepStart s = .next t ∧
      t.sp = { s.sp with sweepLate := true } ∧ OnlyRegs [Reg.SP_SWEEP_LATE] { s with sp := t.sp } t ∧
      t.fld Fld.SP_SWEEP_LATE_COUNT = min (s.fld Fld.SP_SWEEP_LATE_COUNT + 1) 0xFFFF) ∧
    (s.maySweep = false → exec .spillSweepStart s = .next s) ∧
    (one → calm → e.sig = none → s.rowOpen e.dest = true → 0 < taken →
      ∃ t, exec (.spillSweepRow false taken waited) s = .next t ∧
      t.row e.dest = data ∧ t.tagged e.dest = (s.tagged e.dest || e.tag) ∧ BytesKept (bytesOfRow e.dest) s t ∧
      RegsKept [Reg.SP_WAIT_CNT] s t ∧ t.spillMem = s.spillMem ∧ t.nvm = s.nvm ∧ t.sp.requests = [] ∧
      t.fld Fld.SP_WAIT_CNT_COUNT = min (s.fld Fld.SP_WAIT_CNT_COUNT + min waited (bit (!e.tag))) 0xFFFFFFFF ∧
      (k + 1 < s.sweepRows p.val → t.sp.sweep = some (p.val, k + 1))) ∧
    (one → calm → idle → ∃ t, exec (.spillSweepRow true taken waited) s = .next t ∧ MemoryKept s t ∧
      Raised Reg.SP_ERR_STATUS Reg.SP_ERR_CODE 0x0407 t ∧ t.fld Fld.SP_ERR_CODE_SRC = 0x70 ∧
      t.reg Reg.SP_ERR_ADDR = word k ∧ (t.tile e.tile).run = .scrubbing ∧ t.fld Fld.TF_FAULT_CODE_CODE = 0x0407 ∧
      t.reg Reg.TF_FAULT_ADDR = word e.srcAddr ∧ t.reg Reg.TF_FAULT_PC = word e.pc) ∧
    (at' → calm → ∃ t, exec (.spillSweepRow false 0 waited) s = .next t ∧ MemoryKept s t ∧ RegsKept [Reg.SP_SPILL_RETRY] s t ∧
      t.sp.requests.length = s.sp.requests.length ∧
      t.fld Fld.SP_SPILL_RETRY_COUNT = min (s.fld Fld.SP_SPILL_RETRY_COUNT + mine.length) 0xFFFF) ∧
    (s.sp.sweep = none → ∀ io, exec (.spillSweepRow io taken waited) s = .next s) ∧
    (s.sp.sweep = some (4, k) → s.sp.sweepLate = false → s.sp.writes = [w] → s.sp.narrowWrites = [] → calm →
      (∀ n : Fin 4, (s.core n.val).resetDue = false) →
      w.sig.all (fun x => !(s.counter x.1 x.2).saturated && decide ((s.counter x.1 x.2).value + 1 ≤ 0xFFFF)) = true →
      ∃ t, exec .spillSweepEnd s = .next t ∧ t.sp.sweep = none ∧ t.sp.writes = [] ∧ t.mem = s.mem ∧ t.tags = s.tags ∧
        t.nvm = s.nvm ∧ t.regs = s.regs ∧
        Sparse.gets spillDefault t.spillMem (512 * w.row) 512 = rowBytes w.data ∧
        ∀ o : Fin 16, ∀ c : Fin 16, t.counter o.val c.val = if w.sig = some (o.val, c.val) then
          { s.counter o.val c.val with value := (s.counter o.val c.val).value + 1 } else s.counter o.val c.val) ∧
    (at' → exec .spillSweepEnd s = .next s) ∧
    (s.flag Fld.SP_XS_CFG_EN = true → ∃ t, exec .xsResetRelease s = .next t ∧ OnlyRegs [Reg.SP_XS_STATUS] s t ∧
      t.flag Fld.SP_XS_STATUS_READY = true) ∧
    (s.flag Fld.SP_XS_CFG_EN = false → exec .xsResetRelease s = .next s)

/-- R124, R263, R291: with no load outstanding a fetch of an ADDI from cluster SRAM carries it out and changes no memory; one
from the register region takes an instruction access fault with SYS_NO_EXEC; a wrong-path fetch of cluster SRAM is counted,
one of a region without ICACHE is not issued, and neither faults. -/
def Obligations.FetchRunsOrFaults : Prop :=
  ∀ (s : State) (c : Fin 5) (c4 : Fin 4) (m : Met) (rd rs1 : Fin 32) (imm : BitVec 12) (w : Word),
    let x := s.core c.val
    let a := x.pc.toNat
    (c.val < 4 → s.coreReady c.val = true → s.triggered c.val a = false → x.icache = [] → x.loads = [] →
      s.pmpOk c.val 2 a 2 = true → s.pmpOk c.val 2 (a + 2) 2 = true → 0x60000000 ≤ a → a + 4 ≤ 0x60100000 → a % 4 = 0 →
      s.sramEcc = [] → le (s.bytes a 4) 0 4 = imm.toNat * 2 ^ 20 + rs1.val * 2 ^ 15 + rd.val * 2 ^ 7 + 0x13 →
      ∃ t, exec (.instructionFetch c m) s = .next t ∧ MemoryKept s t ∧ (t.core c.val).pc = x.pc + 4 ∧
        (∀ i : Fin 32, (t.core c.val).reg i.val =
          if i = rd ∧ rd ≠ 0 then x.reg rs1.val + BitVec.ofInt 32 imm.toInt else x.reg i.val) ∧
        (t.core c.val).csrs = x.csrs ∧ (t.core c.val).stores = x.stores ∧ (t.core c.val).reserved = x.reserved) ∧
    (c.val < 4 → s.coreReady c.val = true → s.triggered c.val a = false → x.icache = [] → x.loads = [] →
      s.heldStores = [] → s.pmpOk c.val 2 a 2 = true → 0x10000000 ≤ a → a + 2 ≤ 0x10100000 →
      ∃ t, exec (.instructionFetch c m) s = .next t ∧ MemoryKept s t ∧ (t.core c.val).csr Csr.mcause = 1 ∧
        (t.core c.val).csr Csr.mepc = x.pc ∧ (t.core c.val).csr Csr.mtval = x.pc ∧ (t.core c.val).user = false ∧
        t.reg (Reg.CC_FAULT_CODE c.val) = 0x0003 ∧ t.reg (Reg.CC_FAULT_ADDR c.val) = x.pc) ∧
    (s.coreReady c4.val = true → (regionOf w.toNat = none ∨ regionOf w.toNat = some 0 ∨ regionOf w.toNat = some 2 ∨
        regionOf w.toNat = some 3 ∨ regionOf w.toNat = some 7) →
      exec (.wrongPathFetch c4 w m) s = .next s) ∧
    (s.coreReady c4.val = true → regionOf w.toNat = some 6 →
      ∃ t, exec (.wrongPathFetch c4 w m) s = .next t ∧ MemoryKept s t ∧ t.regs = s.regs ∧
        (t.core c4.val).wrongPath = (s.core c4.val).wrongPath + 1 ∧ (t.core c4.val).pc = (s.core c4.val).pc ∧
        (t.core c4.val).x = (s.core c4.val).x)

/-- R275, R276, R281, R282: a load from cluster SRAM gives the bytes there, at once, or waits as one of the core's outstanding
loads; a store waits in the store buffer, and a non-temporal one in the combining buffer, with memory unchanged, until a
drain writes exactly the masked bytes. -/
def Obligations.LoadsStoresAndDrains : Prop :=
  ∀ (s : State) (c : Fin 5) (c4 : Fin 4) (o : MemOp) (m : Met) (rs1 rs2 : Fin 32) (imm : BitVec 12) (e : StoreEntry)
    (n : NtEntry),
    let x := s.core c.val
    let y := s.core c4.val
    let a := (x.reg o.base.val + BitVec.ofInt 32 o.offset.toInt).toNat
    let b := (x.reg rs1.val + BitVec.ofInt 32 imm.toInt).toNat
    let k := 2 ^ o.size.val
    (c.val < 4 → s.coreReady c.val = true → s.triggered c.val a = false → s.pmpOk c.val 0 a k = true →
      0x60000000 ≤ a → a + k ≤ 0x60100000 → x.stores = [] → x.nts = [] → x.loads = [] → o.late = true →
      exec (.coreLoad c o) s = .next (s.setCore c.val { x with
        loads := [⟨o.reg.val, a, k, o.zeroExt, x.pc, if o.short then 2 else 4, none⟩]
        pc := x.pc + word (if o.short then 2 else 4), stepping := false })) ∧
    (c.val < 4 → s.coreReady c.val = true → s.triggered c.val a = false → s.pmpOk c.val 0 a k = true →
      0x60000000 ≤ a → a + k ≤ 0x60100000 → x.stores = [] → x.nts = [] → x.loads = [] → s.sramEcc = [] → o.met = .clean →
      o.late = false → ∃ t, exec (.coreLoad c o) s = .next t ∧ MemoryKept s t ∧ t.regs = s.regs ∧
        (t.core c.val).pc = x.pc + (if o.short then 2 else 4) ∧ (o.reg ≠ 0 → (t.core c.val).reg o.reg.val =
          if o.zeroExt then word (le (s.bytes a k) 0 k) else BitVec.ofInt 32 (signed (8 * k) (le (s.bytes a k) 0 k)))) ∧
    (c.val < 4 → s.coreReady c.val = true → s.triggered c.val a = false → s.pmpOk c.val 1 a k = true →
      0x60000000 ≤ a → a + k ≤ 0x60100000 → a % 32 + k ≤ 32 → x.stores = [] → x.nts = [] → x.loads = [] →
      s.heldStores = [] → ∃ t, exec (.coreStore c o) s = .next t ∧ MemoryKept s t ∧ t.regs = s.regs ∧
        (t.core c.val).pc = x.pc + (if o.short then 2 else 4) ∧ (t.core c.val).x = x.x ∧
        (t.core c.val).stores =
          [⟨false, a / 32 * 32, (List.range k).map (fun i => (a + i, (x.reg o.reg.val).extractLsb' (8 * i) 8))⟩]) ∧
    (c.val < 4 → s.coreReady c.val = true → s.triggered c.val b = false → s.pmpOk c.val 1 b 4 = true → x.user = false →
      b % 4 = 0 → 0x60000000 ≤ b → b + 4 ≤ 0x60100000 → x.stores = [] → x.nts = [] → x.loads = [] → s.heldStores = [] →
      ∃ t, exec (.cgNtsw c rs2 rs1 imm) s = .next t ∧ MemoryKept s t ∧ t.regs = s.regs ∧ (t.core c.val).pc = x.pc + 4 ∧
        (t.core c.val).nts =
          [⟨b / 64 * 64, (List.range 4).map (fun i => (b + i, (x.reg rs2.val).extractLsb' (8 * i) 8))⟩]) ∧
    (s.clusterOn = true → y.resetDue = false → y.loads = [] → y.stores = [e] → e.isReg = false → 0x60000000 ≤ e.line →
      e.line + 32 ≤ 0x60100000 → e.line % 32 = 0 → (∀ d ∈ e.bytes, e.line ≤ d.1 ∧ d.1 < e.line + 32) →
      e.bytes.Pairwise (fun p q => p.1 < q.1) → s.sramEcc = [] → s.granuleHeld (some c4.val) e.line 32 = false →
      ∃ t, exec (.storeBufferDrain c4 0 m) s = .next t ∧ t.tags = s.tags ∧ t.regs = s.regs ∧
        (t.core c4.val).stores = [] ∧ (∀ d ∈ e.bytes, t.byte d.1 = d.2) ∧
        BytesKept (e.bytes.map (·.1)) s t) ∧
    (s.clusterOn = true → y.resetDue = false → y.loads = [] → y.nts = [n] → n.bytes.length = 64 → 0x60000000 ≤ n.line →
      n.line + 64 ≤ 0x60100000 → n.line % 64 = 0 → (∀ d ∈ n.bytes, n.line ≤ d.1 ∧ d.1 < n.line + 64) →
      n.bytes.Pairwise (fun p q => p.1 < q.1) → s.sramEcc = [] → s.granuleHeld (some c4.val) n.line 64 = false →
      ∃ t, exec (.ntEntryDrain c4 0 m) s = .next t ∧ t.tags = s.tags ∧ t.regs = s.regs ∧ (t.core c4.val).nts = [] ∧
        (∀ d ∈ n.bytes, t.byte d.1 = d.2) ∧
        BytesKept (n.bytes.map (·.1)) s t)

/-- R279, R281: with no load outstanding and the two buffers holding stores to cluster SRAM that nothing holds back, FENCE and
FENCE.I end with both buffers empty; FENCE.I also empties the I-cache; a load outstanding completes before the FENCE does,
and a store to the spill window that waits for a sweep holds it back. -/
def Obligations.FencesDrainBuffers : Prop :=
  ∀ (s : State) (c : Fin 5) (l : OutLoad) (a : Nat) (bs : List Byte),
    let x := s.core c.val
    let ready := s.coreReady c.val = true ∧ c.val < 4 ∧ (∀ i : Fin 4, (s.core i.val).holding = false)
    let buffers := x.stores.length ≤ 8 ∧ x.nts.length ≤ 4 ∧ (∀ e ∈ x.stores, e.isReg = false ∧ inSram e.line = true) ∧
      (∀ e ∈ x.nts, inSram e.line = true)
    (ready → buffers → x.loads = [] → s.sp.narrowWrites = [] →
      (∃ t, exec (.fence c) s = .next t ∧ (t.core c.val).stores = [] ∧ (t.core c.val).nts = [] ∧
        (t.core c.val).pc = x.pc + 4 ∧ (t.core c.val).x = x.x ∧ (t.core c.val).icache = x.icache) ∧
      ∃ t, exec (.fenceI c) s = .next t ∧ (t.core c.val).stores = [] ∧ (t.core c.val).nts = [] ∧
        (t.core c.val).pc = x.pc + 4 ∧ (t.core c.val).x = x.x ∧ (t.core c.val).icache = []) ∧
    (ready → x.stores = [] → x.nts = [] → s.sp.narrowWrites = [] → s.sramEcc = [] → x.loads = [l] → l.bytes = none →
      0x60000000 ≤ l.addr → l.addr + l.size ≤ 0x60100000 → 0 < l.size →
      ∃ t, exec (.fence c) s = .next t ∧ MemoryKept s t ∧ (t.core c.val).loads = [] ∧ (t.core c.val).pc = x.pc + 4 ∧
        ∀ i : Fin 32, (t.core c.val).reg i.val =
          if i.val = l.reg ∧ l.reg ≠ 0 then loadValue l.size l.zeroExt (s.bytes l.addr l.size) else x.reg i.val) ∧
    (ready → x.stores = [] → x.nts = [] → x.loads = [] → s.sp.narrowWrites = [(some c.val, a, bs)] →
      exec (.fence c) s = .next s)

/-- R203, R286 to R288: LR.W reserves, SC.W stores only while the reservation holds and always ends it, AMO*.W reads and
writes the word at its bank, AMO on scratchpad takes a fault with SP_ATOMIC, and the end of a hold releases it. -/
def Obligations.AtomicsOnClusterSram : Prop :=
  ∀ (s : State) (c : Fin 5) (c4 : Fin 4) (o : AtomicOp) (k : AmoKind) (flag : Bool),
    let x := s.core c.val
    let a := (x.reg o.rs1.val).toNat
    let w := word (le (s.bytes a 4) 0 4)
    let bare := s.coreReady c.val = true ∧ c.val < 4 ∧ x.stores = [] ∧ x.nts = [] ∧ x.loads = [] ∧ s.heldStores = [] ∧
      s.sp.narrowWrites = []
    let plain := bare ∧ s.sramEcc = [] ∧ a % 4 = 0 ∧
      0x60000000 ≤ a ∧ a + 4 ≤ 0x60100000 ∧ s.pmpOk c.val 0 a 4 = true ∧ s.pmpOk c.val 1 a 4 = true
    (plain → ∃ t, exec (.lrW c o flag) s = .next t ∧ MemoryKept s t ∧ t.regs = s.regs ∧
      (t.core c.val).reserved = some a ∧ (t.core c.val).holding = flag ∧ (t.core c.val).pc = x.pc + 4 ∧
      (o.rd ≠ 0 → (t.core c.val).reg o.rd.val = w)) ∧
    (plain → x.reserved = some a → s.granuleHeld (some c.val) a 4 = false →
      ∃ t, exec (.scW c o false) s = .next t ∧ t.tags = s.tags ∧ t.regs = s.regs ∧ (t.core c.val).reserved = none ∧
        (t.core c.val).pc = x.pc + 4 ∧ (o.rd ≠ 0 → (t.core c.val).reg o.rd.val = 0) ∧
        word (le (t.bytes a 4) 0 4) = x.reg o.rs2.val ∧ BytesKept [a, a + 1, a + 2, a + 3] s t) ∧
    (plain → (x.reserved ≠ some a ∨ flag = true) →
      ∃ t, exec (.scW c o flag) s = .next t ∧ MemoryKept s t ∧ t.regs = s.regs ∧ (t.core c.val).reserved = none ∧
        (t.core c.val).pc = x.pc + 4 ∧ (o.rd ≠ 0 → (t.core c.val).reg o.rd.val = 1)) ∧
    (plain → s.granuleHeld (some c.val) a 4 = false →
      ∃ t, exec (.amoW c k o) s = .next t ∧ t.tags = s.tags ∧ t.regs = s.regs ∧ (t.core c.val).pc = x.pc + 4 ∧
        (o.rd ≠ 0 → (t.core c.val).reg o.rd.val = w) ∧
        word (le (t.bytes a 4) 0 4) = amoEval k w (x.reg o.rs2.val) ∧ BytesKept [a, a + 1, a + 2, a + 3] s t) ∧
    (bare → a % 4 = 0 → 0x20000000 ≤ a → a + 4 ≤ 0x22000000 →
      s.pmpOk c.val 0 a 4 = true → s.pmpOk c.val 1 a 4 = true →
      ∃ t, exec (.amoW c k o) s = .next t ∧ MemoryKept s t ∧ (t.core c.val).csr Csr.mcause = 7 ∧
        (t.core c.val).x = x.x ∧ t.reg (Reg.CC_FAULT_CODE c.val) = 0x0405) ∧
    ((s.core c4.val).holding = true → s.heldStores = [] →
      exec (.reservationHoldEnd c4) s = .next (s.setCore c4.val { s.core c4.val with holding := false }))

/-- R263 to R266, R281, R286: with no load outstanding WFI stalls after a drain and ends the reservation, ECALL and EBREAK
trap to mtvec, an EBREAK that dcsr.ebreakm names halts the core in M-mode, MRET returns, a Zicsr access reads and writes, or
traps where no such CSR exists, and interrupts come in the order MEI, MSI, MTI. -/
def Obligations.TrapsAndCsrs : Prop :=
  ∀ (s : State) (c : Fin 5) (brk : Bool) (rd rs1 : Fin 32),
    let x := s.core c.val
    let ready := s.coreReady c.val = true ∧ s.heldStores = [] ∧ x.loads = []
    let y := fun t : State => t.core c.val
    (ready → c.val < 4 → x.stores = [] → x.nts = [] → s.sp.narrowWrites = [] →
      ∃ t, exec (.wfi c) s = .next t ∧ MemoryKept s t ∧ t.regs = s.regs ∧ (y t).wfi = true ∧ (y t).reserved = none ∧
        (y t).pc = x.pc + 4 ∧ (y t).x = x.x) ∧
    (ready → x.halted = false → x.nts = [] → x.user = false → tstBit x.dcsr 15 = true →
      ∃ t, exec (.ecall c true) s = .next t ∧ MemoryKept s t ∧ t.regs = s.regs ∧ (y t).halted = true ∧ (y t).pc = x.pc ∧
        bits (y t).dcsr 8 6 = 1 ∧ bits (y t).dcsr 1 0 = 3 ∧ (y t).x = x.x ∧ (y t).csrs = x.csrs) ∧
    (ready → (brk = true → tstBit x.dcsr 12 = false ∧ tstBit x.dcsr 15 = false) →
      ∃ t, exec (.ecall c brk) s = .next t ∧ MemoryKept s t ∧ t.regs = s.regs ∧ (y t).csr Csr.mepc = x.pc ∧
      (y t).csr Csr.mcause = (if brk then 3 else if x.user then 8 else 11) ∧ (y t).mpie = x.mieBit ∧
      (y t).mieBit = false ∧ (y t).mppM = !x.user ∧ (y t).user = false ∧ (y t).reserved = none ∧ (y t).x = x.x ∧
      (y t).pc = x.csr Csr.mtvec &&& ~~~3#32) ∧
    (ready → c.val < 4 → x.user = false →
      ∃ t, exec (.mret c) s = .next t ∧ MemoryKept s t ∧ t.regs = s.regs ∧ (y t).pc = x.csr Csr.mepc ∧
        (y t).user = !x.mppM ∧ (y t).mieBit = x.mpie ∧ (y t).mpie = true ∧ (y t).reserved = none ∧ (y t).x = x.x) ∧
    (ready → x.user = false →
      ∃ t, exec (.csrAccess c ⟨0, false, 0x340, rd, rs1⟩) s = .next t ∧ MemoryKept s t ∧ t.regs = s.regs ∧
        (y t).csr Csr.mscratch = x.reg rs1.val ∧ (rd ≠ 0 → (y t).reg rd.val = x.csr Csr.mscratch) ∧
        (y t).pc = x.pc + 4) ∧
    (ready → ∃ t, exec (.csrAccess c ⟨0, false, 0x180, rd, rs1⟩) s = .next t ∧ (y t).csr Csr.mcause = 2 ∧
      (y t).csr Csr.mepc = x.pc ∧ (y t).x = x.x) ∧
    (ready → x.halted = false → (x.user = true ∨ x.mieBit = true) → s.irqReady c.val ≠ 0 →
      ∃ t, exec (.interruptTake c) s = .next t ∧ MemoryKept s t ∧ t.regs = s.regs ∧ (y t).csr Csr.mepc = x.pc ∧
        (y t).csr Csr.mcause = (if tstBit (s.irqReady c.val) 11 then 0x8000000B
          else if tstBit (s.irqReady c.val) 3 then 0x80000003 else 0x80000007) ∧ (y t).mieBit = false ∧ (y t).x = x.x)

/-- R269 to R274: the results of CG.DISP and CG.END, the increment of CG.SIG and its fault outside CC_DISP_MASK, and the
counter that CG.CNTRD returns. -/
def Obligations.XcgInstructions : Prop :=
  ∀ (s : State) (c : Fin 5) (rd rs1 rs2 : Fin 32),
    let x := s.core c.val
    let y := fun t : State => t.core c.val
    let v := (x.reg rs1.val).toNat
    let n := (x.reg rs2.val).toNat % 256
    let k := s.counter (v % 16) (v / 16 % 16)
    let ready := s.coreReady c.val = true ∧ c.val < 4 ∧ x.user = false ∧ x.stores = [] ∧ x.nts = [] ∧ x.loads = [] ∧ rd ≠ 0 ∧
      s.heldStores = [] ∧ s.sp.narrowWrites = []
    let mask := s.reg Reg.CC_DISP_MASK
    let d := s.bytes v 48
    let td := (x.reg rs2.val).toNat % 16
    let desc := v % 16 = 0 ∧ 0x60000000 ≤ v ∧ v + 48 ≤ 0x60100000 ∧ s.sramEcc = [] ∧ s.pmpOk c.val 0 v 48 = true
    (ready → desc → tstBit mask td = false → ∃ t, exec (.cgDisp c rd rs1 rs2) s = .next t ∧ MemoryKept s t ∧
      t.tiles = s.tiles ∧ (y t).reg rd.val = 2 ∧ (y t).pc = x.pc + 4) ∧
    (ready → desc → tstBit mask td = true → (s.tile td).run = .running → ∃ t, exec (.cgDisp c rd rs1 rs2) s = .next t ∧
      MemoryKept s t ∧ t.tiles = s.tiles ∧ (y t).reg rd.val = 1 ∧ (y t).pc = x.pc + 4) ∧
    (ready → desc → tstBit mask td = true → (s.tile td).run = .idle → (s.tile td).haltAfter = false →
      (s.tile td).statusHeld = false → descOk d (s.latchRel (le d 2 1) (le d 0x0C 1)) = true →
      ∃ t, exec (.cgDisp c rd rs1 rs2) s = .next t ∧ MemoryKept s t ∧ t.regs = s.regs ∧ (y t).reg rd.val = 0 ∧
        (t.tile td).run = .running ∧ (t.tile td).tag = false ∧ (t.tile td).pc = le d 4 2 + 65536 * (le d 0x0D 1 % 2) ∧
        (∀ i : Fin 16, i.val ≠ td → t.tile i.val = s.tile i.val)) ∧
    (ready → tstBit mask (v % 16) = true → (s.tile (v % 16)).run = .running →
      ∃ t, exec (.cgEnd c rd rs1) s = .next t ∧ MemoryKept s t ∧ (y t).reg rd.val = 0 ∧
        (t.tile (v % 16)).run = .scrubbing ∧ (y t).pc = x.pc + 4) ∧
    (ready → tstBit mask (v % 16) = true → k.saturated = false → k.value + n ≤ 0xFFFF →
      ∃ t, exec (.cgSig c rs1 rs2) s = .next t ∧ MemoryKept s t ∧ t.regs = s.regs ∧
        t.counter (v % 16) (v / 16 % 16) = { k with value := k.value + n } ∧ (y t).pc = x.pc + 4 ∧ (y t).x = x.x) ∧
    (ready → tstBit mask (v % 16) = false → ∃ t, exec (.cgSig c rs1 rs2) s = .next t ∧ MemoryKept s t ∧
      t.tiles = s.tiles ∧ (y t).csr Csr.mcause = 7 ∧ t.reg (Reg.CC_FAULT_CODE c.val) = 0x0503) ∧
    (ready → ∃ t, exec (.cgCntrd c rd rs1) s = .next t ∧ MemoryKept s t ∧ t.regs = s.regs ∧ t.tiles = s.tiles ∧
      (y t).pc = x.pc + 4 ∧ bits ((y t).reg rd.val) 31 18 = 0 ∧ bits ((y t).reg rd.val) 17 17 = (if k.tag then 0 else 1) ∧
      bits ((y t).reg rd.val) 16 16 = (if k.tag then 1 else 0) ∧
      bits ((y t).reg rd.val) 15 0 = if k.tag then 0 else k.value % 65536)

/-- R300, R303 to R307, R309, R326, R329, R351, R352: at a start instant a task starts on every tile of the partition with A1 at
the slot's header and A2 at the control row, and outside the serving area no byte changes, or the slot is given up at once on
a frame not processed or suppressed, at the deadline on one that finds the previous frame open; while an apply holds the
partition's frames the frame waits; a tile still busy skips the frame; a close takes the margin, commits and holds the
candidates for the deadline instant; the abandon instant voids the frame; the deadline instant releases the slots; a second's
overruns are published. -/
def Obligations.PartitionFramesRun : Prop :=
  ∀ (s : State) (p : Fin 4) (k : Package) (f : OpenFrame) (slot : Nat) (u : Fin 16) (verdicts : List (Nat × List Byte)),
    let ps := s.partition p.val
    let n := (s.reg Reg.PX_FRAME_CNT).toNat
    let tiles := s.partTiles p.val
    let turn := s.fld (Fld.SV_STATUS_STATE p.val) = 1 ∧ ps.pkg = some k ∧
      ((n + 2 ^ 32 - ps.fEn % 2 ^ 32) % 2 ^ 32 % max 1 (s.fld (Fld.SV_CFG_DIV p.val)) = 0)
    let rel := fun t : Nat => s.latchRel (s.descByte t 2) (s.descByte t 0x0C)
    let sound := ∀ t ∈ tiles, (s.tile t).run = .idle ∧ (s.tile t).haltAfter = false ∧ s.descByte t 2 = p.val ∧
      descOk (s.descBytes t) (rel t) = true ∧ ∀ v ∈ tiles, v ≠ t → s.descByte v 0x0C ≠ s.descByte t 0x0C
    let holds := [Reg.PX_RING_HOLD_LO, Reg.PX_RING_HOLD_HI]
    let released := fun (t : State) (j : Nat) => t.hold j = s.hold j &&& (15 - 2 ^ p.val)
    let due := fun code : Nat => Sparse.get LogSlot.unused s.logSlots (0x20000000 + code + 0x10000 * p.val) = ⟨none, 0⟩
    let alone := ∀ v : Fin 16, ∀ e ∈ f.tiles, v.val = e → (s.tile e).task.part = p.val
    let opens := turn ∧ ps.frame = none ∧ ps.suppress = false ∧ s.frameSlot = some slot
    let opened : OpenFrame := { number := n, slot := some slot, start := s.plumbNs, startLocal := s.localNs,
                                code := s.stateCode p.val, missing := tiles }
    let area := (List.range k.servRows).flatMap (fun r => bytesOfRow (s.partKey p.val (k.servRow + r)))
    (opens → s.pk.applying.contains p.val = true → ∃ t, exec (.partitionFrameStart p) s = .next t ∧
      t = s.setPart p.val { ps with frame := some opened, gap := false }) ∧
    (opens → s.pk.applying.contains p.val = false → sound → ps.kernel.swap ≠ 3 → s.pk.awaiting.contains p.val = false →
      17 ≤ k.servRows → ∃ t, exec (.partitionFrameStart p) s = .next t ∧
        (t.partition p.val).frame = some { opened with begun := true, tiles := tiles, missing := [] } ∧
        (t.partition p.val).gap = false ∧ BytesKept area s t ∧ t.regs = s.regs ∧ t.nvm = s.nvm ∧
        (u.val ∈ tiles → (t.tile u.val).run = .running ∧ (t.tile u.val).tag = false ∧
          (t.tile u.val).pc = le (s.descBytes u.val) 4 2 + 65536 * (le (s.descBytes u.val) 0x0D 1 % 2) ∧
          vget 0 (t.tile u.val).a 1 = word (slot * s.slotRows % 2 ^ 19 + 3 * 2 ^ 20) ∧
          vget 0 (t.tile u.val).a 2 = word ((s.fld (Fld.SV_CTABLE_ROW p.val) + 8 * s.fld (Fld.SV_CFG_MODE p.val) + bit ps.gap +
            2 * s.fld Fld.TF_SUP_STATUS_SATURATED + 4 * s.fld Fld.TF_SUP_STATUS_SLOW) % 2 ^ 18 + 2 ^ 18 + 2 * 2 ^ 20) ∧
          vget 0 (t.tile u.val).a 0 = word (le (s.descBytes u.val) 0x10 4) ∧ (t.tile u.val).v = Vector.replicate 16 0 ∧
          (t.tile u.val).task.rel = rel u.val) ∧
        (u.val ∉ tiles → t.tile u.val = s.tile u.val)) ∧
    (¬ turn → ps.pkg = some k → s.frameSlot = some slot → slot < 16 → ∃ t, exec (.partitionFrameStart p) s = .next t ∧
      OnlyRegs holds s t ∧ released t slot) ∧
    (turn → ps.frame = none → ps.suppress = true → s.frameSlot = some slot → slot < 16 →
      ∃ t, exec (.partitionFrameStart p) s = .next t ∧ MemoryKept s t ∧ t.tiles = s.tiles ∧ released t slot ∧
      (t.partition p.val).suppress = false ∧ (t.partition p.val).gap = true ∧ (t.partition p.val).frame = none) ∧
    (turn → ps.frame = some f → f.number ≠ n → ps.suppress = false → s.frameSlot = some slot →
      ∃ t, exec (.partitionFrameStart p) s = .next t ∧
      t = { s with parts := t.parts } ∧ t.partition p.val = { ps with
        gap := true, voids := 0, releases := ps.releases ++ [slot],
          kernel := { ps.kernel with frames := ps.kernel.frames + 1 } }) ∧
    (ps.frame = some f → f.missing ≠ [] → f.slot = some slot → slot < 16 → due 0x0602 → ps.toSuspend = false → alone →
      ∃ t, exec (.svTileBusy p) s = .next t ∧
      MemoryKept s t ∧ (t.partition p.val).frame = none ∧ (t.partition p.val).gap = true ∧ released t slot ∧
      Raised Reg.SV_ERR_STATUS Reg.SV_ERR_CODE 0x0602 t ∧ t.fld Fld.SV_ERR_CODE_PART = p.val ∧
      (∀ e ∈ f.tiles, e < 16 → (t.tile e).run = .running → False) ∧ (u.val ∉ f.tiles → t.tile u.val = s.tile u.val)) ∧
    (ps.frame = some f → ps.pkg = some k → f.begun = true → f.tiles = [] → f.missing = [] → f.slot = some slot → slot < 16 →
      ps.toSuspend = false →
      ∃ t, exec (.partitionFrameClose p verdicts []) s = .next t ∧ t.tiles = s.tiles ∧ t.nvm = s.nvm ∧
      (t.partition p.val).frame = none ∧ (t.partition p.val).voids = 0 ∧
      (t.partition p.val).copies = ps.copies ++ [⟨f.start, t.candidates p.val⟩] ∧
      (t.partition p.val).overruns = ps.overruns + bit f.late ∧ (t.partition p.val).kernel.overran = f.late ∧
      t.sup.margin = some (match s.sup.margin with
        | none => s.marginOf p.val f
        | some x => min x (s.marginOf p.val f)) ∧
      (f.late = true → released t slot ∧ (t.partition p.val).releases = ps.releases ∧ RegsKept holds s t) ∧
      (f.late = false → t.regs = s.regs ∧ (t.partition p.val).releases = ps.releases ++ [slot])) ∧
    ((f.begun = false ∨ f.tiles ≠ [] ∨ f.missing ≠ []) → ps.frame = some f →
      exec (.partitionFrameClose p verdicts []) s = .next s) ∧
    (ps.frame = some f → f.slot = some slot → slot < 16 → ps.toSuspend = false → f.tiles = [u.val] → alone →
      ∃ t, exec (.frameAbandon p) s = .next t ∧
      MemoryKept s t ∧ (t.partition p.val).frame = none ∧ (t.partition p.val).overruns = ps.overruns + 1 ∧
      (t.partition p.val).gap = true ∧ (t.partition p.val).kernel.streams = ps.kernel.streams ∧
      (t.partition p.val).copies = ps.copies ∧ (due 0x0604 → Raised Reg.SV_ERR_STATUS Reg.SV_ERR_CODE 0x0604 t) ∧
      ((s.tile u.val).run = .running → (t.tile u.val).run = .scrubbing)) ∧
    (ps.copies = [] → ps.releases = [slot] → slot < 16 → (∀ v : Fin 16, (s.tile v.val).statusHeld = false) →
      ∃ t, exec (.deadlineInstant p) s = .next t ∧ released t slot ∧ MemoryKept s t ∧ t.tiles = s.tiles ∧
      (t.partition p.val).releases = [] ∧ (t.partition p.val).frame = ps.frame.map (fun f => { f with late := true })) ∧
    (∃ t, exec (.overrunIntervalEnd p) s = .next t ∧ MemoryKept s t ∧ (t.partition p.val).overruns = 0 ∧
      t.fld (Fld.SV_OVERRUN_COUNT p.val) = min ps.overruns 255 ∧
      (ps.overruns ≠ 0 → Raised Reg.SV_ERR_STATUS Reg.SV_ERR_CODE 0x0603 t) ∧
      (ps.overruns = 0 → RegsKept [Reg.SV_OVERRUN p.val] s t))

/-- R303, R308, R313, R316, R317, R323, R328, R329, Table 10.6: EN is refused with SV_CFG where Table 10.6 says so, else the
partition runs from the next frame with GAP; clearing it stops further frames; held values take effect together between
frames or are refused; a plan lends no tile in Step-first and at most LEND_C and LEND_B tiles in Proportional, gives an item
to the tile that finishes it earliest, and pauses no stream of class 0. -/
def Obligations.EnablesHeldValuesAndPlans : Prop :=
  ∀ (s : State) (p : Fin 4) (q : KernelParams) (k : Package) (tiles : List Nat) (ss : List Stream) (queue : List AdmitReq)
      (now : Nat) (l : Loads) (kind : ItemKind) (e : Nat × Nat) (i m : Nat),
    let ps := s.partition p.val
    let cfg := s.reg (Reg.SV_CFG p.val)
    let us := s.fld (Fld.SV_DEADLINE_US p.val)
    let off := s.flag ⟨Reg.SV_CTRL, p.val, p.val⟩ = false
    let bad := bits cfg 3 0 = 0 ∨ bits cfg 3 0 * s.pxFld Fld.PX_FRAME_PERIOD_PERIOD < 100 * us ∨
      (∃ t ∈ s.partTiles p.val, s.descByte t 2 ≠ p.val) ∨ tstBit (s.pxReg Reg.PX_RING_READERS) p.val = false ∨
      (tstBit cfg 5 = true ∧ ((∃ r : Fin 4, r ≠ p ∧ s.flag (Fld.SV_CFG_SKIM r.val) = true) ∨
        (s.partTiles p.val).length ≠ 1 ∨ (s.partTiles p.val).all isCTile = true))
    let plan := (planFrame q k tiles ss queue now).loads
    (off → ¬ bad → (∀ r : Fin 4, s.flag (Fld.SV_CFG_SKIM r.val) = false) → s.fld (Fld.SV_STATUS_STATE p.val) ≠ 2 →
      s.fld Fld.PW_STATE_STATE = 0 → ∃ t, exec (.partitionEnable p) s = .next t ∧
        t = { s with regs := t.regs, parts := t.parts } ∧
      RegsKept [Reg.SV_CTRL, Reg.SV_STATUS] s t ∧ t.flag ⟨Reg.SV_CTRL, p.val, p.val⟩ = true ∧
      t.fld (Fld.SV_STATUS_STATE p.val) = 1 ∧ t.partition p.val = { ps with
        fEn := (s.reg Reg.PX_FRAME_CNT).toNat, gap := true }) ∧
    (off → bad → ∃ t, exec (.partitionEnable p) s = .next t ∧ MemoryKept s t ∧ t.parts = s.parts ∧
      Raised Reg.SV_ERR_STATUS Reg.SV_ERR_CODE 0x0601 t ∧ t.fld Fld.SV_ERR_CODE_PART = p.val ∧
      RegsKept ([Reg.SV_ERR_STATUS, Reg.SV_ERR_CODE, Reg.CC_IRQ_PEND] ++ snagRegs) s t) ∧
    (¬ off → ∃ t, exec (.partitionEnable p) s = .next t ∧ t = s) ∧
    (∃ t, exec (.partitionDisable p) s = .next t ∧ OnlyRegs [Reg.SV_CTRL, Reg.SV_STATUS] s t ∧
      t.flag ⟨Reg.SV_CTRL, p.val, p.val⟩ = false ∧
      t.fld (Fld.SV_STATUS_STATE p.val) = if s.fld (Fld.SV_STATUS_STATE p.val) = 2 then 2 else 0) ∧
    (ps.frame = none → ps.heldCfg.isSome = true → s.svCheck p.val (ps.heldCfg.getD cfg)
        (ps.heldDeadline.getD (s.reg (Reg.SV_DEADLINE p.val))) = true →
      ∃ t, exec (.epochBoundaryApply p) s = .next t ∧ t = { s with regs := t.regs, parts := t.parts } ∧
      RegsKept [Reg.SV_CFG p.val, Reg.SV_DEADLINE p.val, Reg.SV_CTABLE p.val] s t ∧
      t.reg (Reg.SV_CFG p.val) = ps.heldCfg.getD cfg ∧
      t.reg (Reg.SV_DEADLINE p.val) = ps.heldDeadline.getD (s.reg (Reg.SV_DEADLINE p.val)) ∧
      t.reg (Reg.SV_CTABLE p.val) = ps.heldCtable.getD (s.reg (Reg.SV_CTABLE p.val)) ∧
      t.partition p.val = { ps with heldCfg := none, heldDeadline := none, heldCtable := none }) ∧
    (ps.frame = none → ps.heldCfg.isSome = true → s.svCheck p.val (ps.heldCfg.getD cfg)
        (ps.heldDeadline.getD (s.reg (Reg.SV_DEADLINE p.val))) = false →
      ∃ t, exec (.epochBoundaryApply p) s = .next t ∧ MemoryKept s t ∧ Raised Reg.SV_ERR_STATUS Reg.SV_ERR_CODE 0x0601 t ∧
      RegsKept ([Reg.SV_ERR_STATUS, Reg.SV_ERR_CODE, Reg.CC_IRQ_PEND] ++ snagRegs) s t) ∧
    ((ps.frame.isSome = true ∨ (ps.heldCfg = none ∧ ps.heldDeadline = none ∧ ps.heldCtable = none)) →
      ∃ t, exec (.epochBoundaryApply p) s = .next t ∧ t = s) ∧
    (q.proportional = false → plan.lent = []) ∧
    ((plan.lent.filter isCTile).length ≤ q.lendC ∧ (plan.lent.filter (fun t => !isCTile t)).length ≤ q.lendB) ∧
    (pickTile q k.costs l kind = some e → ∀ x ∈ l.tiles, mayTake q k.costs l kind x.1 = true →
      e.2 ≤ x.2 + itemCost k.costs kind (isCTile x.1)) ∧
    (i ∈ pauseOrderOf ss m → (ss.getD i {}).state = .live ∧ (ss.getD i {}).cls ≠ 0)

/-- R345 to R348, R361, R367, R415, Tables 11.6, 11.7, 11.8, 11.10 and 11.12: a submitter in Run takes a free engine and any
other OPEN gets BUSY; only the holder writes the buffer, submits and aborts, a buffer only while the engine is open; a set of
wrong form is refused with PK_CS_FORMAT, a set without a partition applies when its checks end, one whose apply time is more
than DIV × P − 100 µs is refused with PK_CS_LONG, and else it is ready with its apply time shown; a host path's open set times
out. -/
def Obligations.ChangeSetsOpenedAndChecked : Prop :=
  ∀ (s : State) (n p : Fin 4) (off k : Nat) (bs set : List Byte) (v : Word) (tag val : BitVec 16) (row : Fin 16) (el : Nat),
    let st := s.fld Fld.PK_CS_STATUS_STATE
    let owner := s.fld Fld.PK_CS_STATUS_OWNER
    let held := 1 ≤ st ∧ st ≤ 5
    let mine := held ∧ owner = 1 ∧ s.fld Fld.PK_CS_STATUS_CORE = n.val
    let run := s.fld Fld.SYS_BOOT_STATUS_PHASE = 1
    let quiet := s.pk.staged = none ∧ s.pk.stagedBanks = [] ∧ s.pk.undeclare = [] ∧ s.pk.finals = [] ∧
      ∀ q : Fin 4, s.fld (Fld.PK_PART_STATUS_STATE q.val) ≠ 2
    let ends := [Reg.PK_CS_STATUS, Reg.PK_CS_CODE, Reg.LK_EVENT, Reg.HP_IRQ_STATUS]
    let raises := [Reg.PK_ERR_STATUS, Reg.PK_ERR_CODE] ++ snagRegs
    let shown := [Reg.PK_CS_TAG, Reg.PK_CS_TAPPLY]
    let core := Requester.core n.val
    let mkSet := fun (mask : Nat) (entry : List Byte) =>
      let head := toLe 4 0x53434743 ++ toLe 2 1 ++ toLe 2 1 ++ toLe 1 mask ++ toLe 1 0 ++ toLe 2 tag.toNat ++ toLe 4 40 ++ toLe 12 0
      head ++ toLe 4 (crc32 (head ++ entry)).toNat ++ entry
    let ctab := toLe 1 p.val ++ toLe 1 1 ++ toLe 2 (256 * row.val + el) ++ toLe 4 val.toNat
    let write := toLe 1 3 ++ toLe 1 0 ++ toLe 2 4 ++ toLe 4 v.toNat
    let period := s.svDiv p.val * 10 * s.pxFld Fld.PX_FRAME_PERIOD_PERIOD
    let ctabSet := st = 2 ∧ quiet ∧ s.px.skim = false ∧ s.pk.set = mkSet (2 ^ p.val) ctab ∧ 4 ≤ el ∧ el < 256 ∧ el ≠ 9 ∧
      (s.svEnabled p.val = true →
        s.svCheckIn s.spShadow s.pxWaiting p.val (s.reg (Reg.SV_CFG p.val)) (s.reg (Reg.SV_DEADLINE p.val)) = true)
    (run → ¬ held → ∃ t, exec (.csOpen core) s = .next t ∧
      t = { s with regs := t.regs, pk := { buf := s.pk.buf, undeclare := s.pk.undeclare } } ∧
      RegsKept [Reg.PK_CS_STATUS] s t ∧ t.fld Fld.PK_CS_STATUS_STATE = 1 ∧ t.fld Fld.PK_CS_STATUS_OWNER = 1 ∧
      t.fld Fld.PK_CS_STATUS_CORE = n.val) ∧
    (mine → st = 1 → ∃ t, exec (.csOpen core) s = .next t ∧ t = s) ∧
    (¬ run ∨ held → ¬ (mine ∧ st = 1) → ∃ t, exec (.csOpen core) s = .next t ∧ MemoryKept s t ∧ t.pk = s.pk ∧
      Raised Reg.PK_ERR_STATUS Reg.PK_ERR_CODE 0x0712 t ∧ RegsKept raises s t ∧ t.parts = s.parts) ∧
    (mine → st = 1 → off + bs.length ≤ 4096 → ∃ t, exec (.csWrite core off bs) s = .next t ∧
      t = { s with pk := { s.pk with buf := t.pk.buf } } ∧
      Sparse.get csBufDefault t.pk.buf k = if off ≤ k ∧ k < off + bs.length then bs.getD (k - off) 0
        else Sparse.get csBufDefault s.pk.buf k) ∧
    (¬ mine ∨ st ≠ 1 → ∃ t, exec (.csWrite core off bs) s = .next t ∧ t = s) ∧
    (mine → st = 1 → ∃ t, exec (.csSubmit core) s = .next t ∧ t = { s with regs := t.regs, pk := t.pk } ∧
      RegsKept [Reg.PK_CS_STATUS] s t ∧ t.fld Fld.PK_CS_STATUS_STATE = 2 ∧ t.pk = { s.pk with set := t.pk.set } ∧
      (k < 32 → t.pk.set.getD k 0 = Sparse.get csBufDefault s.pk.buf k)) ∧
    (¬ mine ∨ st ≠ 1 → ∃ t, exec (.csSubmit core) s = .next t ∧ t = s) ∧
    (mine → st < 5 → quiet → ∃ t, exec (.csAbort core) s = .next t ∧ t = { s with regs := t.regs, pk := t.pk } ∧
      RegsKept ends s t ∧ t.fld Fld.PK_CS_STATUS_STATE = 10 ∧ t.reg Reg.PK_CS_CODE = 0 ∧ t.pk.buf = s.pk.buf) ∧
    (¬ mine ∨ st = 5 → ∃ t, exec (.csAbort core) s = .next t ∧ t = s) ∧
    (st = 1 → 3 ≤ owner → quiet → ∃ t, exec .csOpenTimeout s = .next t ∧ t = { s with regs := t.regs, pk := t.pk } ∧
      RegsKept ends s t ∧ t.fld Fld.PK_CS_STATUS_STATE = 10) ∧
    (st ≠ 1 ∨ owner < 3 → ∃ t, exec .csOpenTimeout s = .next t ∧ t = s) ∧
    (st = 2 → quiet → s.pk.set = set →
      (le set 0 4 ≠ 0x53434743 ∨ le set 4 2 ≠ 1 ∨ le set 6 2 = 0 ∨ 508 < le set 6 2 ∨ 16 ≤ le set 8 1 ∨ 2 ≤ le set 9 1 ∨
        le set 0xC 4 ≠ 32 + 8 * le set 6 2 ∨ le set 0x10 12 ≠ 0 ∨
        le set 0x1C 4 ≠ (crc32 (set.take 0x1C ++ set.drop 32)).toNat ∨
        (le set 9 1 = 0 ∧ (csEntries set).any (fun e => e.op == 3) = true) ∨
        (le set 9 1 = 1 ∧ (csEntries set).any (fun e => e.op == 3) = false) ∨ (le set 9 1 = 0 ∧ le set 8 1 = 3)) →
      ∃ t, exec .csCheckDone s = .next t ∧ MemoryKept s t ∧ t.parts = s.parts ∧ t.tiles = s.tiles ∧
      Raised Reg.PK_ERR_STATUS Reg.PK_ERR_CODE 0x0710 t ∧ t.fld Fld.PK_CS_STATUS_STATE = 8 ∧
      t.fld Fld.PK_CS_CODE_CODE = 0x0710 ∧ t.fld Fld.PK_CS_TAG_TAG = le set 0xA 2 ∧ RegsKept (ends ++ raises ++ shown) s t) ∧
    (st = 2 → quiet → s.pk.dropped = false → s.pk.set = mkSet 0 write → v.toNat < 2 → ∃ t, exec .csCheckDone s = .next t ∧
      MemoryKept s t ∧ t.parts = s.parts ∧ t.tiles = s.tiles ∧ t.flag Fld.TF_CTRL_HANG_EN = tstBit v 0 ∧
        t.fld Fld.PK_CS_STATUS_STATE = 6 ∧
      t.reg Reg.PK_CS_CODE = 0 ∧ t.fld Fld.PK_CS_TAG_TAG = tag.toNat ∧ t.fld Fld.PK_CS_TAPPLY_NS = 21000 ∧
      RegsKept (ends ++ shown ++ [Reg.TF_CTRL, Reg.PK_CS_FRAME]) s t) ∧
    (ctabSet → period < 120500 → ∃ t, exec .csCheckDone s = .next t ∧ MemoryKept s t ∧ t.parts = s.parts ∧
      Raised Reg.PK_ERR_STATUS Reg.PK_ERR_CODE 0x0711 t ∧ t.fld Fld.PK_CS_STATUS_STATE = 8 ∧
      RegsKept (ends ++ raises ++ shown) s t) ∧
    (ctabSet → 120500 ≤ period → ∃ t, exec .csCheckDone s = .next t ∧
      t = { s with regs := t.regs, pk := { s.pk with readyAt := s.localNs } } ∧
      RegsKept ([Reg.PK_CS_STATUS] ++ shown) s t ∧ t.fld Fld.PK_CS_STATUS_STATE = 4 ∧ t.fld Fld.PK_CS_TAPPLY_NS = 20500 ∧
      t.fld Fld.PK_CS_TAG_TAG = tag.toNat) ∧
    (st ≠ 2 → ∃ t, exec .csCheckDone s = .next t ∧ t = s)

/-- R350 to R353, R357 to R359, Tables 11.9 and 11.10: a staged package whose registers pass makes the set ready, and else
refuses it; a ready set applies at a usable boundary with the partition's frame closed, is BUSY at an unusable one with
REJECT, waits with DEFER, and drops a frame once its second is out; a set with QUIESCE clears EN where frames have closed, and
its images are read before anything changes. -/
def Obligations.ChangeSetsApplied : Prop :=
  ∀ (s : State) (p q : Fin 4) (row : Fin 16) (el tag slot : Nat) (val : BitVec 16) (io : Option (Fin 4 × Nat)) (k : Package) (l : Locator),
    let st := s.fld Fld.PK_CS_STATUS_STATE
    let ps := s.partition p.val
    let quiet := s.pk.staged = none ∧ s.pk.stagedBanks = [] ∧ s.pk.undeclare = [] ∧ s.pk.finals = [] ∧
      ∀ q : Fin 4, s.fld (Fld.PK_PART_STATUS_STATE q.val) ≠ 2
    let ends := [Reg.PK_CS_STATUS, Reg.PK_CS_CODE, Reg.LK_EVENT, Reg.HP_IRQ_STATUS]
    let raises := [Reg.PK_ERR_STATUS, Reg.PK_ERR_CODE] ++ snagRegs
    let mkSet := fun (mask flags : Nat) (entry : List Byte) =>
      toLe 4 0x53434743 ++ toLe 2 1 ++ toLe 2 1 ++ toLe 1 mask ++ toLe 1 flags ++ toLe 2 tag ++ toLe 4 40 ++ toLe 16 0 ++ entry
    let ctab := toLe 1 p.val ++ toLe 1 1 ++ toLe 2 (256 * row.val + el) ++ toLe 4 val.toNat
    let reload := toLe 1 p.val ++ toLe 1 3 ++ toLe 2 slot ++ toLe 4 0
    let ready := st = 4 ∧ quiet ∧ s.pk.begun = false ∧ s.pk.enabled = 0 ∧ s.px.skim = false ∧
      s.pk.set = mkSet (2 ^ p.val) 0 ctab ∧ 4 ≤ el ∧ el < 256 ∧ el ≠ 9 ∧
      ps.heldCfg = none ∧ ps.heldDeadline = none ∧ ps.heldCtable = none ∧ ps.pkg = none ∧
      (s.svEnabled p.val = true →
        s.svCheckIn s.spShadow s.pxWaiting p.val (s.reg (Reg.SV_CFG p.val)) (s.reg (Reg.SV_DEADLINE p.val)) = true)
    let always := s.svEnabled p.val = false ∨ s.fld (Fld.SV_STATUS_STATE p.val) ≠ 1
    let usable := always ∨ s.fld Fld.PK_CS_TAPPLY_NS + 1000 * s.fld (Fld.SV_DEADLINE_US p.val) + 20000 ≤
      s.svDiv p.val * 10 * s.pxFld Fld.PX_FRAME_PERIOD_PERIOD
    let rejects := tstBit (s.reg Reg.SV_CFGPOLICY) p.val = true
    let elemAt := 512 * (0x200000 + (s.partBase p.val + (s.fld (Fld.SV_CTABLE_ROW p.val) + row.val))) + 2 * el
    let applied := fun t : State => BytesKept [elemAt, elemAt + 1] s t ∧ t.tags = s.tags ∧ t.nvm = s.nvm ∧ t.tiles = s.tiles ∧
      t.byte elemAt = BitVec.ofNat 8 val.toNat ∧ t.byte (elemAt + 1) = BitVec.ofNat 8 (val.toNat / 256)
    let late := { s with pk := { s.pk with late := true } }
    let dropping := fun t : State => t.partition p.val = { ps with suppress := true } ∧ t.pk.dropped = true ∧
      Raised Reg.PK_ERR_STATUS Reg.PK_ERR_CODE 0x0714 t ∧ RegsKept (Reg.PK_CS_STATUS :: raises) s t
    let placed := { s.writeRows p.val k with pk := { s.pk with staged := some (p.val, k.placed) } }
    let packaged := placed.csTrial s.pk.set
    let time := placed.applyTime s.pk.set
    let staging := st = 3 ∧ s.pk.staged = some (p.val, k) ∧ s.pk.stagedBanks.all (bankDeclared s.sp.inForce) = true
    let ownSet := le s.pk.set 9 1 = 0 ∧ le s.pk.set 8 1 = 2 ^ p.val
    (s.pk.staged = none ∨ st ≠ 3 ∨ s.pk.stagedBanks.all (bankDeclared s.sp.inForce) = false → ∃ t,
      exec .csStagingDone s = .next t ∧ t = s) ∧
    (staging → s.pk.stagedBanks = [] → s.pk.undeclare = [] → s.pk.finals = [] →
      packaged.csCfgCode s.pk.set [p.val] = some 0x0601 → ∃ t, exec .csStagingDone s = .next t ∧
        t.fld Fld.PK_CS_STATUS_STATE = 8 ∧
      t.reg Reg.PK_CS_CODE = 0x06010713 ∧ t.pk.staged = none ∧ Raised Reg.PK_ERR_STATUS Reg.PK_ERR_CODE 0x0713 t ∧
      t.parts = s.parts ∧ t.tiles = s.tiles) ∧
    (staging → s.pk.finals = [] → packaged.csCfgCode s.pk.set [p.val] = none → ownSet → s.framePeriodNs p.val < time + 100000 →
      ∃ t, exec .csStagingDone s = .next t ∧ t.fld Fld.PK_CS_STATUS_STATE = 8 ∧
      t.fld Fld.PK_CS_CODE_CODE = 0x0711 ∧ t.pk.staged = none ∧ t.parts = s.parts) ∧
    (staging → packaged.csCfgCode s.pk.set [p.val] = none → ownSet → time + 100000 ≤ s.framePeriodNs p.val → always →
      ∃ t, exec .csStagingDone s = .next t ∧
      t = { placed with regs := t.regs, pk := { placed.pk with readyAt := s.localNs } } ∧
      RegsKept [Reg.PK_CS_STATUS, Reg.PK_CS_TAPPLY] s t ∧
      t.fld Fld.PK_CS_STATUS_STATE = 4 ∧ t.fld Fld.PK_CS_TAPPLY_NS = min time (2 ^ 20 - 1)) ∧
    (ready → usable → ps.frame = none → ∃ t, exec (.csBoundary p) s = .next t ∧ applied t ∧
      (¬ always → t.fld Fld.PK_CS_STATUS_STATE = 5 ∧ t.pk.awaiting = [p.val] ∧ RegsKept [Reg.PK_CS_STATUS] s t) ∧
      (always → s.pk.dropped = false → t.fld Fld.PK_CS_STATUS_STATE = 6 ∧ t.reg Reg.PK_CS_CODE = 0 ∧
        RegsKept (Reg.PK_CS_FRAME :: ends) s t)) ∧
    (ready → ps.frame.isSome = true → usable ∨ (¬ rejects ∧ s.pk.late = false) →
      ∃ t, exec (.csBoundary p) s = .next t ∧ t = s) ∧
    (ready → ¬ usable → rejects → ∃ t, exec (.csBoundary p) s = .next t ∧ MemoryKept s t ∧ t.parts = s.parts ∧
      t.fld Fld.PK_CS_STATUS_STATE = 9 ∧ t.fld Fld.PK_CS_CODE_CODE = 0x0712 ∧ RegsKept (ends ++ raises) s t ∧
      Raised Reg.PK_ERR_STATUS Reg.PK_ERR_CODE 0x0712 t) ∧
    (ready → ¬ usable → ¬ rejects → s.pk.late = false → ∃ t, exec (.csBoundary p) s = .next t ∧ t = s) ∧
    (ready → ¬ usable → ¬ rejects → s.pk.late = true → s.pk.dropped = false → ps.frame = none →
      ∃ t, exec (.csBoundary p) s = .next t ∧ applied t ∧ dropping t ∧ t.fld Fld.PK_CS_STATUS_STATE = 5) ∧
    (s.pk.begun = false → (st ≠ 4 ∨ (le s.pk.set 8 1 ≠ 0 ∧ le s.pk.set 8 1 ≠ 2 ^ p.val) ∨ le s.pk.set 9 1 = 1) →
      ∃ t, exec (.csBoundary p) s = .next t ∧ t = s) ∧
    (ready → usable → ps.frame.isSome = true → ∃ t, exec (.csDeferTimeout p) s = .next t ∧ t = late) ∧
    (ready → ¬ usable → ¬ rejects → s.pk.dropped = false → ps.frame = none → ∃ t, exec (.csDeferTimeout p) s = .next t ∧
      applied t ∧ dropping t ∧ t.fld Fld.PK_CS_STATUS_STATE = 5) ∧
    (ready → ¬ usable → ¬ rejects → s.pk.dropped = false → ps.frame.isSome = true →
      ∃ t, exec (.csDeferTimeout p) s = .next t ∧ MemoryKept s t ∧ dropping t ∧ t.fld Fld.PK_CS_STATUS_STATE = 4) ∧
    (st ≠ 4 ∨ le s.pk.set 8 1 ≠ 2 ^ p.val ∨ le s.pk.set 9 1 = 1 → ∃ t, exec (.csDeferTimeout p) s = .next t ∧ t = s) ∧
    (s.pk.quiesce = 0 → st ≠ 4 ∨ le s.pk.set 9 1 = 0 → ∃ t, exec (.csQuiesce io) s = .next t ∧ t = s) ∧
    (st = 4 → s.pk.set = mkSet (2 ^ p.val) 1 reload → slot = 0 → s.pk.quiesce = 0 → quiet →
      s.boot.locators = [l] → l.kind = 0 → l.part = p.val → 0x50000 ≤ l.aOff → l.aOff + l.aLen ≤ s.boot.nvmSize →
      io = some (p, 15) → ∃ t, exec (.csQuiesce io) s = .next t ∧ MemoryKept s t ∧ t.parts = s.parts ∧
      t.fld Fld.PK_CS_STATUS_STATE = 8 ∧ t.reg Reg.PK_CS_CODE = 0x070E0713 ∧ RegsKept (ends ++ raises) s t) ∧
    (s.pk.quiesce = 1 → s.pk.finals = [] → (s.partition q.val).frame.isSome = true → s.svEnabled q.val = true →
      ∃ t, exec (.csQuiesce io) s = .next t ∧ OnlyRegs [Reg.SV_CTRL, Reg.SV_STATUS] s t ∧
      t.svEnabled q.val = true ∧ (ps.frame = none → t.svEnabled p.val = false))

/-- R27 to R30, R37, R50, R370, R377, R379, Tables 1.4 and 6.6: the violation count is cleared; a cap is lowered and never
raised; a fault interval's end publishes the last report with the number it coalesced; a slot begins with the lowered caps,
its oldest slot gone, every tenth with a release period, and with the sensor stopped a budget frame that considers a waiting
transition. -/
def Obligations.BudgetSlotsAndCaps : Prop :=
  ∀ (s : State) (p : Fin 4) (n : Fin 2) (v : Word) (on : Bool),
    let i := vget {} s.ds.faults p.val
    let aged := s.eg.slots.take 99
    let frame := s.fld Fld.DS_CAP_FRAME_BITS
    let rate := s.fld Fld.DS_CAP_RATE_BPS
    let stopped := s.fld Fld.PX_STATUS_STATE = 0 ∨ s.fld Fld.PX_STATUS_STATE = 3
    let other := 1 - n.val
    let live := s.fld Fld.SYS_BOOT_STATUS_PHASE = 1 ∧ s.power ≠ 4
    let slotDone := fun t : State => t.ds.capFrame = frame ∧ t.ds.capRate = rate ∧
      t.eg.periodSlot = (s.eg.periodSlot + 1) % 10 ∧ (t.eg.periodSlot = 0 → t.eg.periodOpen = false) ∧
      (t.eg.periodSlot ≠ 0 → t.eg.countsSent = s.eg.countsSent) ∧ MemoryKept s t ∧ t.eg.queue = s.eg.queue
    (∃ t, exec .violCntClr s = .next t ∧ OnlyRegs [Reg.DS_VIOL_CNT] s t ∧ t.reg Reg.DS_VIOL_CNT = 0) ∧
    (bits v 13 0 ≤ frame → ∃ t, exec (.dsCapFrameWrite v) s = .next t ∧ OnlyRegs [Reg.DS_CAP_FRAME] s t ∧
      t.fld Fld.DS_CAP_FRAME_BITS = bits v 13 0 ∧ BitsKept Reg.DS_CAP_FRAME 13 0 s t) ∧
    (frame < bits v 13 0 → ∃ t, exec (.dsCapFrameWrite v) s = .next t ∧ t = s) ∧
    (bits v 16 0 ≤ rate → ∃ t, exec (.dsCapRateWrite v) s = .next t ∧ OnlyRegs [Reg.DS_CAP_RATE] s t ∧
      t.fld Fld.DS_CAP_RATE_BPS = bits v 16 0 ∧ BitsKept Reg.DS_CAP_RATE 16 0 s t) ∧
    (rate < bits v 16 0 → ∃ t, exec (.dsCapRateWrite v) s = .next t ∧ t = s) ∧
    (i.running = true → 0 < i.count → i.last.code < 65536 → i.last.tile < 16 → i.last.part < 4 →
      ∃ t, exec (.faultIntervalEnd p) s = .next t ∧ MemoryKept s t ∧
      t.ds = { s.ds with faults := t.ds.faults } ∧ vget {} t.ds.faults p.val = {} ∧ RegsKept faultRegs s t ∧
      bits (t.reg Reg.TF_FAULT_CODE) 15 0 = i.last.code ∧ bits (t.reg Reg.TF_FAULT_CODE) 31 24 = min i.count 255 ∧
      t.fld Fld.TF_FAULT_CNT_COUNT = min (s.fld Fld.TF_FAULT_CNT_COUNT + min i.count 255) 65535 ∧
      (i.last.tagged = true → s.inService = true → t.reg Reg.TF_FAULT_PC = 0 ∧ t.reg Reg.TF_FAULT_ADDR = 0)) ∧
    (i.running = false ∨ i.count = 0 → ∃ t, exec (.faultIntervalEnd p) s = .next t ∧
      t = { s with ds := { s.ds with faults := t.ds.faults } } ∧ vget {} t.ds.faults p.val = {} ∧
      ∀ q : Fin 4, q ≠ p → vget {} t.ds.faults q.val = vget {} s.ds.faults q.val) ∧
    (¬ stopped → ∃ t, exec .budgetSlotAdvance s = .next t ∧ slotDone t ∧ t.regs = s.regs ∧ t.eg.slots = 0 :: aged ∧
      t.ds.frameUsed = s.ds.frameUsed ∧ t.eg.outs = s.eg.outs ∧ t.eg.gateRecs = s.eg.gateRecs) ∧
    (stopped → s.eg.skimWake = false → s.eg.gateRecs = [] → (s.out other).waiting = none →
      (s.out n.val).waiting = some on → live → 32 ≤ frame → aged.sum + 32 ≤ 10 * rate → ∃ t, exec .budgetSlotAdvance s = .next t ∧
      slotDone t ∧ t.eg.slots = 32 :: aged ∧ t.ds.frameUsed = 32 ∧ t.eg.partFrame = List.replicate 4 0 ∧
      t.fld Fld.DS_FRAME_USED_BITS = s.ds.frameUsed % 2 ^ 14 ∧ t.outOn n.val = on ∧
      t.out n.val = { s.out n.val with waiting := none } ∧ t.out other = s.out other ∧
      RegsKept [Reg.DS_FRAME_USED, Reg.EG_OUT_STATUS] s t) ∧
    (stopped → s.eg.skimWake = false → s.eg.gateRecs = [] → (s.out other).waiting = none →
      (s.out n.val).waiting = some on → ¬ live ∨ frame < 32 ∨ 10 * rate < aged.sum + 32 → ∃ t,
        exec .budgetSlotAdvance s = .next t ∧
      slotDone t ∧ t.eg.slots = 0 :: aged ∧ t.ds.frameUsed = 0 ∧ t.eg.outs = s.eg.outs ∧ RegsKept [Reg.DS_FRAME_USED] s t)

/-- R29, R63 to R65, R381 to R386, R389, R390, R392, R395, Table 12.6: timers, software commands, stale sources, latches,
retries and read-back move a channel and its switch as the rules say, in Run and not frozen in Doze; outside Run no switch
moves and no channel is stale or retried; a transition of a zone channel is charged 32 bits, or waits when it does not fit,
and one that reverses a waiting transition cancels it. -/
def Obligations.OutputsFollowTheirRules : Prop :=
  ∀ (s : State) (n : Fin 2) (v : Word),
    let c := s.out n.val
    let reg := s.reg (Reg.EG_OUT_CFG n.val)
    let plain := s.latched n.val = false ∧ c.waiting = none
    let stat := [Reg.EG_OUT_STATUS]
    let live := s.fld Fld.SYS_BOOT_STATUS_PHASE = 1 ∧ s.power ≠ 4
    let commanded := if s.latched n.val then c.decided && c.target else s.outOn n.val
    let raises := [Reg.EG_ERR_STATUS, Reg.EG_ERR_CODE, Reg.CC_IRQ_PEND] ++ snagRegs
    let room := s.ds.frameUsed + 32 ≤ s.ds.capFrame ∧ s.eg.slots.sum + 32 ≤ 10 * s.ds.capRate
    let moved := fun (cfg : Word) (level : Bool) (t : State) =>
      let on := tstBit cfg 2 == level
      (bits cfg 1 0 ≠ 1 ∨ s.outOn n.val = on → t.outOn n.val = on ∧ t.flag (Fld.EG_OUT_STATUS_LEVEL n.val) = level ∧
        t.ds = s.ds ∧ t.eg.slots = s.eg.slots ∧ (t.out n.val).waiting = none) ∧
      (bits cfg 1 0 = 1 → s.outOn n.val ≠ on → room → t.outOn n.val = on ∧ t.flag (Fld.EG_OUT_STATUS_LEVEL n.val) = level ∧
        t.ds = { s.ds with frameUsed := s.ds.frameUsed + 32 } ∧ t.eg.slots = addHead 32 s.eg.slots ∧
        (t.out n.val).waiting = none) ∧
      (bits cfg 1 0 = 1 → s.outOn n.val ≠ on → ¬ room → t.outOn n.val = s.outOn n.val ∧ t.ds = s.ds ∧
        t.eg.slots = s.eg.slots ∧ (t.out n.val).waiting = some on)
    let latch := fun (t : State) (cause : Nat) => MemoryKept s t ∧ t.latched n.val = true ∧ t.outOn n.val = false ∧
      t.fld (Fld.EG_FAULT_CAUSE n.val) = cause ∧ t.out n.val = { c with retrying := false, waiting := none } ∧
      Raised Reg.EG_ERR_STATUS Reg.EG_ERR_CODE 0x0801 t ∧ t.fld Fld.EG_ERR_CODE_CHANNEL = n.val ∧ t.ds = s.ds ∧
      bits (t.reg Reg.EG_FAULT_CNT) (16 * n.val + 15) (16 * n.val) =
        min (bits (s.reg Reg.EG_FAULT_CNT) (16 * n.val + 15) (16 * n.val) + 1) 65535 ∧
      (s.eg.gateRecs.length < 16 → t.eg.gateRecs = s.eg.gateRecs ++ [⟨6, n.val, cause - 1, 0, 0, false⟩]) ∧
      RegsKept ([Reg.EG_FAULT, Reg.EG_FAULT_CNT, Reg.EG_OUT_STATUS] ++ raises) s t
    (s.outOn n.val = true → ∃ t, exec (.outThermalShutdown n) s = .next t ∧ latch t 1) ∧
    (s.outOn n.val = true → ∃ t, exec (.outLimitTimeout n) s = .next t ∧ latch t 2) ∧
    (s.outOn n.val = false → ∃ t, exec (.outThermalShutdown n) s = .next t ∧ t = s) ∧
    (s.outOn n.val = false → ∃ t, exec (.outLimitTimeout n) s = .next t ∧ t = s) ∧
    (live → s.latched n.val = true → c.target = true → c.decided = true → ∃ t, exec (.outRetry n) s = .next t ∧
      t = { s with regs := t.regs, eg := { s.eg with outs := t.eg.outs } } ∧ RegsKept stat s t ∧
      t.out n.val = { c with retrying := true } ∧ t.outOn n.val = true) ∧
    (¬ live ∨ s.latched n.val = false ∨ c.target = false ∨ c.decided = false → ∃ t, exec (.outRetry n) s = .next t ∧ t = s) ∧
    (s.latched n.val = true → c.retrying = true → ∃ t, exec (.outLatchClear n) s = .next t ∧ MemoryKept s t ∧
      RegsKept [Reg.EG_FAULT, Reg.EG_OUT_STATUS] s t ∧ t.latched n.val = false ∧ t.flag (Fld.EG_FAULT_CLEARED n.val) = true ∧
      t.out n.val = { c with retrying := false } ∧ t.outOn n.val = (tstBit c.cfg 2 == outLevel c.state) ∧ t.ds = s.ds ∧
      (s.eg.gateRecs.length < 16 → t.eg.gateRecs = s.eg.gateRecs ++ [⟨6, n.val, 2, 0, 0, false⟩])) ∧
    (s.latched n.val = false ∨ c.retrying = false → ∃ t, exec (.outLatchClear n) s = .next t ∧ t = s) ∧
    (commanded = false → ∃ t, exec (.heldLowSet n) s = .next t ∧ OnlyRegs stat s t ∧
      t.flag (Fld.EG_OUT_STATUS_HELD_LOW n.val) = true ∧ t.outOn n.val = s.outOn n.val) ∧
    (commanded = true → ∃ t, exec (.heldLowSet n) s = .next t ∧ t = s) ∧
    (∃ t, exec (.heldLowClear n) s = .next t ∧ OnlyRegs stat s t ∧ t.flag (Fld.EG_OUT_STATUS_HELD_LOW n.val) = false ∧
      t.outOn n.val = s.outOn n.val) ∧
    (live → s.power < 3 → c.state = .arming → plain → ∃ t, exec (.holdoffExpiry n) s = .next t ∧ MemoryKept s t ∧
      RegsKept stat s t ∧
      t.eg.gateRecs = s.eg.gateRecs ∧ (t.out n.val).state = .occupied ∧ (t.out n.val).timer = none ∧ moved c.cfg true t) ∧
    (c.state ≠ .arming ∨ 3 ≤ s.power → ∃ t, exec (.holdoffExpiry n) s = .next t ∧ t = s) ∧
    (live → s.power < 3 → c.state = .releasing → plain → ∃ t, exec (.vacancyExpiry n) s = .next t ∧ MemoryKept s t ∧
      RegsKept stat s t ∧
      t.eg.gateRecs = s.eg.gateRecs ∧ (t.out n.val).state = .vacant ∧ (t.out n.val).timer = none ∧ moved c.cfg false t) ∧
    (c.state ≠ .releasing ∨ 3 ≤ s.power → ∃ t, exec (.vacancyExpiry n) s = .next t ∧ t = s) ∧
    (live → s.power < 3 → c.state = .releasing → s.latched n.val = false → c.waiting = some (tstBit c.cfg 2) → ∃ t,
      exec (.vacancyExpiry n) s = .next t ∧
      t.regs = s.regs ∧ t.ds = s.ds ∧ t.out n.val = { c with state := .vacant, timer := none, waiting := none }) ∧
    (live → bits reg 1 0 = 0 → plain → ∃ t, exec (.outCmdWrite n v) s = .next t ∧ MemoryKept s t ∧ RegsKept stat s t ∧
      (t.out n.val).state = (if tstBit v 0 then .occupied else .vacant) ∧ (t.out n.val).timer = none ∧
      (t.out n.val).decided = true ∧ moved reg (tstBit v 0) t) ∧
    (¬ live → bits reg 1 0 = 0 → ∃ t, exec (.outCmdWrite n v) s = .next t ∧ t.regs = s.regs ∧ t.ds = s.ds ∧
      (t.out n.val).state = (if tstBit v 0 then .occupied else .vacant) ∧ (t.out n.val).waiting = c.waiting) ∧
    (bits reg 1 0 ≠ 0 → ∃ t, exec (.outCmdWrite n v) s = .next t ∧ t = s) ∧
    (live → s.power < 3 → bits reg 1 0 = 1 ∨ bits reg 1 0 = 2 → bits reg 31 16 ≠ 0 → plain → ∃ t,
      exec (.outStale n) s = .next t ∧ MemoryKept s t ∧
      RegsKept (stat ++ raises) s t ∧ (t.out n.val).state = .occupied ∧ (t.out n.val).timer = none ∧
      Raised Reg.EG_ERR_STATUS Reg.EG_ERR_CODE 0x0804 t ∧ t.fld Fld.EG_ERR_CODE_CHANNEL = n.val ∧ moved c.cfg true t ∧
      (s.eg.gateRecs.length < 16 → t.eg.gateRecs = s.eg.gateRecs ++ [⟨6, n.val, 3, 0, 0, false⟩])) ∧
    (¬ live ∨ 3 ≤ s.power ∨ bits reg 1 0 = 0 ∨ bits reg 1 0 = 3 ∨ bits reg 31 16 = 0 → ∃ t, exec (.outStale n) s = .next t ∧
      t = s)

/-- R67, R68, R104, R382, R387, Tables 2.10 and 12.6: with VDD_AON present and out of reset, an input's first reading sets RAW
and UNRESOLVED; in reset the input is not sampled; a sample makes no edge while UNRESOLVED stands; a level is accepted after
DEBOUNCE samples, inverted with INV, and then counts an edge modulo 2¹⁶, sets its event and interrupt when enabled, and is a
decision of the MODE 2 channels that name the input. -/
def Obligations.InputsDebounceIntoEdges : Prop :=
  ∀ (s : State) (n m : Fin 2) (l : InLevel),
    let i := s.inp n.val
    let cfg := if i.run = 0 then s.reg (Reg.EG_IN_CFG n.val) else i.cfg
    let high := (l == .high) != tstBit cfg 8
    let level := s.flag (Fld.EG_IN_STATUS_LEVEL n.val)
    let edge := if high then Fld.EG_IN_EVENT_RISE n.val else Fld.EG_IN_EVENT_FALL n.val
    let enabled := s.flag (if high then Fld.EG_IN_CFG_RISE_EV n.val else Fld.EG_IN_CFG_FALL_EV n.val)
    let edges := fun t : State => bits (t.reg Reg.EG_IN_EDGES) (16 * n.val + 15) (16 * n.val)
    let raw := fun t : State => t.flag (Fld.EG_IN_STATUS_RAW n.val)
    let unresolved := fun t : State => t.flag (Fld.EG_IN_STATUS_UNRESOLVED n.val)
    let byChannels := ∃ k : Fin 2, s.fld (Fld.EG_OUT_CFG_MODE k.val) = 2 ∧ s.fld (Fld.EG_OUT_CFG_IN_SEL k.val) = n.val
    let c := s.out m.val
    let awake := s.pins.vddAon = true ∧ s.boot.step ≠ 0
    let reads := awake ∧ i.resolved = true
    let first := fun t : State => t = { s with regs := t.regs, eg := { s.eg with ins := t.eg.ins } } ∧
      RegsKept [Reg.EG_IN_STATUS] s t ∧ raw t = (l == .high) ∧ unresolved t = (l == .band) ∧
      t.inp n.val = { i with resolved := true, run := 0 }
    (awake → ∃ t, exec (.inputComparatorResolve n l) s = .next t ∧ first t) ∧
    (¬ awake → ∃ t, exec (.inputComparatorResolve n l) s = .next t ∧ t = s) ∧
    (¬ awake → ∃ t, exec (.inputSample n l) s = .next t ∧ t = s) ∧
    (awake → i.resolved = false → ∃ t, exec (.inputSample n l) s = .next t ∧ first t) ∧
    (reads → l = .band → unresolved s = true → ∃ t, exec (.inputSample n l) s = .next t ∧ t = s) ∧
    (reads → l ≠ .band → high = level → ∃ t, exec (.inputSample n l) s = .next t ∧
      t = { s with regs := t.regs, eg := { s.eg with ins := t.eg.ins } } ∧ RegsKept [Reg.EG_IN_STATUS] s t ∧
      raw t = (l == .high) ∧ unresolved t = false ∧ t.flag (Fld.EG_IN_STATUS_LEVEL n.val) = level ∧
      t.inp n.val = { i with run := 0, cfg := cfg }) ∧
    (reads → l ≠ .band → high ≠ level → i.run + 1 < bits cfg 7 0 → ∃ t, exec (.inputSample n l) s = .next t ∧
      t = { s with regs := t.regs, eg := { s.eg with ins := t.eg.ins } } ∧ RegsKept [Reg.EG_IN_STATUS] s t ∧
      raw t = (l == .high) ∧ t.flag (Fld.EG_IN_STATUS_LEVEL n.val) = level ∧
      t.inp n.val = { i with run := i.run + 1, cfg := cfg }) ∧
    (reads → l ≠ .band → high ≠ level → bits cfg 7 0 ≤ i.run + 1 → i.armed = true → ¬ byChannels →
      s.wakeEnabled 6 n.val = false → ∃ t, exec (.inputSample n l) s = .next t ∧
      t = { s with regs := t.regs, eg := { s.eg with ins := t.eg.ins } } ∧
      RegsKept [Reg.EG_IN_STATUS, Reg.EG_IN_EDGES, Reg.EG_IN_EVENT, Reg.CC_IRQ_PEND] s t ∧
      t.flag (Fld.EG_IN_STATUS_LEVEL n.val) = high ∧ edges t = (edges s + 1) % 65536 ∧
      t.inp n.val = { i with run := 0, cfg := cfg } ∧
      (enabled = true → t.flag edge = true ∧ tstBit (t.reg Reg.CC_IRQ_PEND) 10 = true) ∧
      (enabled = false → t.reg Reg.EG_IN_EVENT = s.reg Reg.EG_IN_EVENT ∧ t.reg Reg.CC_IRQ_PEND = s.reg Reg.CC_IRQ_PEND)) ∧
    (reads → l ≠ .band → high ≠ level → bits cfg 7 0 ≤ i.run + 1 → i.armed = false →
      ∃ t, exec (.inputSample n l) s = .next t ∧ t.flag (Fld.EG_IN_STATUS_LEVEL n.val) = high ∧ edges t = edges s ∧
      t.reg Reg.EG_IN_EVENT = s.reg Reg.EG_IN_EVENT ∧ t.eg.outs = s.eg.outs) ∧
    (reads → l ≠ .band → high ≠ level → bits cfg 7 0 ≤ i.run + 1 → i.armed = true →
      s.fld (Fld.EG_OUT_CFG_MODE m.val) = 2 → s.fld (Fld.EG_OUT_CFG_IN_SEL m.val) = n.val → s.power < 3 →
      s.wakeEnabled 6 n.val = false → ∃ t, exec (.inputSample n l) s = .next t ∧ (t.out m.val).decided = true ∧
      (t.out m.val).state = (match c.state, high with
        | .vacant, true => if s.fld (Fld.EG_OUT_HOLDOFF_MS m.val) = 0 then .occupied else .arming
        | .arming, false => .vacant
        | .occupied, false => if s.fld (Fld.EG_OUT_VACDELAY_S m.val) = 0 then .vacant else .releasing
        | .releasing, true => .occupied
        | st, _ => st) ∧
      ((t.out m.val).state = .arming → c.state = .vacant → (t.out m.val).timer = some (s.fld (Fld.EG_OUT_HOLDOFF_MS m.val))) ∧
      ((t.out m.val).state = .releasing → c.state = .occupied →
        (t.out m.val).timer = some (1000 * s.fld (Fld.EG_OUT_VACDELAY_S m.val))))

/-- R401, R415 to R420, R431, R495, R525, Tables 13.5 to 13.7 and 13.10: the engine answers a waiting request of either path
with STAT, INFO and payload, at once or, on the Lath, in a frame it keeps a copy of and sends while the U port is not closed;
outside the phases of Table 13.6 it answers HP_BUSY and a malformed request HP_FORMAT, and performs nothing; each operation
has its effect and no other. -/
def Obligations.HostOperationsAnswered : Prop :=
  ∀ (s : State) (p : HostPath) (r : HostReq) (j : Fin 9) (k x : Nat),
    let lath := decide (p = .lath)
    let waiting := (if lath then s.link.req else s.spi.req) = some r
    let opens := (s.fld Fld.SYS_BOOT_STATUS_PHASE = 1 ∨ s.fld Fld.SYS_BOOT_STATUS_PHASE = 2) ∧ s.power < 3
    let ready := waiting ∧ opens
    let dp := if lath then Requester.dpLath else Requester.dpHost
    let src := if lath then 0x20 else 0x21
    let ptr := if lath then Reg.LK_DATA_ADDR else Reg.HP_DATA_ADDR
    let word' := if lath then Reg.LK_EVENT else Reg.HP_IRQ_STATUS
    let cursor := fun t : State => if lath then t.link.cursor else t.spi.cursor
    let offered := fun t : State => if lath then t.link.offered else t.spi.offered
    let own := if lath then [Reg.LK_TX_SEQ] else [Reg.HP_STATUS, Reg.HP_IRQ_STATUS]
    let raises := [Reg.HP_ERR_STATUS, Reg.HP_ERR_CODE, Reg.LK_EVENT, Reg.HP_IRQ_STATUS, Reg.CC_IRQ_PEND]
    let sysRaises := [Reg.SYS_ERR_STATUS, Reg.SYS_ERR_CODE, Reg.SYS_ERR_ADDR, Reg.SYS_ERR_CNT] ++ snagRegs
    let ops := [(0x01, Instr.info p), (0x02, .regRead p), (0x03, .events p), (0x08, .dpSetaddr p), (0x09, .dpRead p none),
      (0x0A, .dpWrite p none), (0x18, .recordRead p), (0x29, .mboxRead p), (0x30, .powerReq p)]
    let op := ops.getD j.val (0, .info p)
    let answered := fun (t : State) (stat info : Nat) (payload : List Byte) =>
      let b := (t.link.stored.getD (0, [])).2
      (lath = false → t.spi.req = none ∧ t.flag Fld.HP_STATUS_DONE = true ∧ tstBit (t.reg Reg.HP_IRQ_STATUS) 6 = true ∧
        t.spi.response = toLe 2 stat ++ toLe 2 info ++ toLe 2 payload.length ++ toLe 2 0 ++ payload ∧ t.link = s.link) ∧
      (lath = true → t.link.req = none ∧ (t.link.stored.map (·.1)) = some r.seq ∧
        t.fld Fld.LK_TX_SEQ_SEQ = (s.fld Fld.LK_TX_SEQ_SEQ + 1) % 65536 ∧
        (s.fld Fld.LK_STATUS_U_STATE ≠ 0 → (t.link.up ++ t.link.waiting).any (·.bytes == b) = true) ∧
        le b 0 1 = 0 ∧ le b 1 1 = s.fld Fld.LK_STATUS_ADDR ∧ le b 2 1 = r.type % 256 ∧ le b 3 1 / 4 = 1 ∧
        le b 4 2 = s.fld Fld.LK_TX_SEQ_SEQ ∧ le b 6 2 = r.seq % 65536 ∧ le b 8 2 = payload.length % 65536 ∧
        le b 10 2 = stat % 65536 ∧ le b 12 2 = info % 65536 ∧ slice b 14 payload.length = payload ∧
        le b (14 + payload.length) 4 = (crc32 (b.take (14 + payload.length))).toNat)
    let a := le r.payload 0 4
    let n := if r.type = 9 then le r.payload 0 2 else r.payload.length
    let lenOk := n % 8 = 0 ∧ 8 ≤ n ∧ n ≤ 256
    let from' := (s.reg ptr).toNat
    let cur := if r.retry && lath then cursor s else cursor s + offered s
    let recs := takeRecords (le r.payload 0 2) (s.eg.queue.drop (cur - s.eg.taken))
    let records := s.flag (if lath then Fld.LK_CFG_RECORDS else Fld.HP_CFG_RECORDS) = true
    (waiting → ¬ opens → s.fld Fld.SYS_BOOT_STATUS_PHASE ≠ 3 → r.type = op.1 → ∃ t, exec op.2 s = .next t ∧ MemoryKept s t ∧
      answered t 0x0A01 0 [] ∧ Raised Reg.HP_ERR_STATUS Reg.HP_ERR_CODE 0x0A01 t ∧ RegsKept (own ++ raises) s t) ∧
    (ready → r.type = op.1 → r.payload.length = 3 → r.type ≠ 0x0A → ∃ t, exec op.2 s = .next t ∧ MemoryKept s t ∧
      answered t 0x0A02 0 [] ∧ Raised Reg.HP_ERR_STATUS Reg.HP_ERR_CODE 0x0A02 t ∧ RegsKept (own ++ raises) s t) ∧
    (waiting → r.type ≠ op.1 → ∃ t, exec op.2 s = .next t ∧ t = s) ∧
    (ready → r.type = 0x01 → r.payload = [] → ∃ t, exec (.info p) s = .next t ∧ MemoryKept s t ∧ RegsKept own s t ∧
      answered t 0 0 (toLe 4 0x4816 ++ toLe 8 s.fuses.uid.toNat ++ toLe 4 (s.readReg Reg.SYS_BOOT_STATUS).toNat ++
        toLe 1 (s.fld Fld.LK_STATUS_ADDR) ++ toLe 1 s.powerCode ++ toLe 2 0)) ∧
    (ready → r.type = 0x02 → r.payload.length = 4 → 0x10000000 ≤ a → a < 0x10100000 → a % 4 = 0 →
      ∃ t, exec (.regRead p) s = .next t ∧ MemoryKept s t ∧ RegsKept own s t ∧ answered t 0 0 (toLe 4 (s.readReg a).toNat)) ∧
    (ready → r.type = 0x02 → r.payload.length = 4 → a < 0x10000000 ∨ 0x10100000 ≤ a → ∃ t, exec (.regRead p) s = .next t ∧
      MemoryKept s t ∧ RegsKept (own ++ sysRaises) s t ∧ answered t 0x0001 0 [] ∧
      Raised Reg.SYS_ERR_STATUS Reg.SYS_ERR_CODE 0x0001 t ∧ t.fld Fld.SYS_ERR_CODE_SRC = src ∧ t.reg Reg.SYS_ERR_ADDR = word a) ∧
    (ready → r.type = 0x03 → r.payload.length = 4 → ∃ t, exec (.events p) s = .next t ∧ MemoryKept s t ∧
      RegsKept (word' :: own) s t ∧ answered t 0 0 (toLe 4 (if lath then s.lathWord else s.hostWord).toNat) ∧
      (x < 32 → (lath = false → x ≠ 6) → tstBit (t.reg word') x = (tstBit (s.reg word') x && !tstBit (word a) x))) ∧
    (ready → r.type = 0x08 → r.payload.length = 4 → a % 8 = 0 → ∃ t, exec (.dpSetaddr p) s = .next t ∧ MemoryKept s t ∧
      RegsKept (ptr :: own) s t ∧ t.reg ptr = word a ∧ answered t 0 0 []) ∧
    (ready → r.type = 0x08 → r.payload.length = 4 → a % 8 ≠ 0 → ∃ t, exec (.dpSetaddr p) s = .next t ∧ MemoryKept s t ∧
      RegsKept (own ++ raises) s t ∧ Raised Reg.HP_ERR_STATUS Reg.HP_ERR_CODE 0x0A04 t ∧ answered t 0x0A04 0 []) ∧
    (ready → r.type = 0x09 → r.payload.length = 4 → le r.payload 2 2 = 0 → ¬ lenOk → ∃ t, exec (.dpRead p none) s = .next t ∧
      MemoryKept s t ∧ RegsKept (own ++ raises) s t ∧ answered t 0x0A04 0 []) ∧
    (ready → r.type = 0x09 → r.payload.length = 4 → le r.payload 2 2 = 0 → lenOk → s.busCode dp .read .clean from' 8 = none →
      n = 8 →
      s.sp.ecc = [] → s.sramEcc = [] → ∃ t, exec (.dpRead p none) s = .next t ∧ MemoryKept s t ∧ RegsKept (ptr :: own) s t ∧
      t.reg ptr = word (from' + 8) ∧ answered t 0 8 (s.loadBytes from' 8)) ∧
    (ready → r.type = 0x09 → r.payload.length = 4 → le r.payload 2 2 = 0 → lenOk →
      s.busCode dp .read .clean from' 8 = some 0x0001 →
      ∃ t, exec (.dpRead p none) s = .next t ∧ MemoryKept s t ∧ RegsKept (own ++ sysRaises) s t ∧
      Raised Reg.SYS_ERR_STATUS Reg.SYS_ERR_CODE 0x0001 t ∧ answered t 0x0001 0 (List.replicate n 0)) ∧
    (ready → r.type = 0x0A → ¬ lenOk → ∃ t, exec (.dpWrite p none) s = .next t ∧ MemoryKept s t ∧ RegsKept (own ++ raises) s t ∧
      answered t 0x0A04 0 []) ∧
    (ready → r.type = 0x0A → n = 8 → 0x40000000 ≤ from' → from' + 8 ≤ 0x50000000 → s.busCode dp .write .clean from' 8 = none →
      ∃ t, exec (.dpWrite p none) s = .next t ∧ BytesKept ((List.range 8).map (from' + ·)) s t ∧ t.tags = s.tags ∧ t.nvm = s.nvm ∧
      RegsKept (ptr :: own) s t ∧ t.reg ptr = word (from' + 8) ∧ (k < 8 → t.byte (from' + k) = r.payload.getD k 0) ∧
      answered t 0 8 []) ∧
    (ready → r.type = 0x18 → r.payload.length = 2 → 68 ≤ le r.payload 0 2 → le r.payload 0 2 ≤ 256 → records →
      s.eg.taken ≤ cur → cur ≤ s.eg.taken + s.eg.queue.length → ∃ t, exec (.recordRead p) s = .next t ∧ MemoryKept s t ∧
      RegsKept own s t ∧ answered t 0 0 (recs.flatten.flatMap (fun w => toLe 4 w.toNat)) ∧ cursor t = cur ∧
      offered t = recs.length ∧ t.eg.taken + t.eg.queue.length = s.eg.taken + s.eg.queue.length ∧ t.eg.taken ≤ cur) ∧
    (ready → r.type = 0x18 → r.payload.length = 2 → 68 ≤ le r.payload 0 2 → le r.payload 0 2 ≤ 256 → ¬ records →
      ∃ t, exec (.recordRead p) s = .next t ∧ MemoryKept s t ∧ RegsKept own s t ∧ answered t 0 0 [] ∧ t.eg = s.eg) ∧
    (ready → r.type = 0x20 → r.payload = [] → s.fld Fld.PK_CS_STATUS_STATE = 0 → s.fld Fld.SYS_BOOT_STATUS_PHASE = 1 →
      s.boot.hostCfg = 3 → ∃ t, exec (.csOpen dp) s = .next t ∧ MemoryKept s t ∧ RegsKept (Reg.PK_CS_STATUS :: own) s t ∧
      t.fld Fld.PK_CS_STATUS_STATE = 1 ∧ t.fld Fld.PK_CS_STATUS_OWNER = (if lath then 3 else 4) ∧ answered t 0 0 []) ∧
    (ready → r.type = 0x28 → r.payload.length = 12 → le r.payload 0 2 < 0x7F8 → le r.payload 2 2 = 0 →
      s.fld mbState = 0 ∨ s.fld mbState = 3 → ∃ t, exec (.mboxWrite p) s = .next t ∧ MemoryKept s t ∧
      RegsKept (mbStateReg :: own) s t ∧ t.fld mbState = 1 ∧ t.fld mbOwner = (if lath then 3 else 4) ∧ answered t 0 0 [] ∧
      (x < 0xFF0 → (t.mbRead x 1).getD 0 0 = if le r.payload 0 2 ≤ x ∧ x < le r.payload 0 2 + 8
        then r.payload.getD (4 + (x - le r.payload 0 2)) 0 else (s.mbRead x 1).getD 0 0)) ∧
    (ready → r.type = 0x28 → r.payload.length = 12 → le r.payload 0 2 < 0x7F8 → le r.payload 2 2 = 0 → s.fld mbState = 2 →
      ∃ t, exec (.mboxWrite p) s = .next t ∧ MemoryKept s t ∧ t.mg = s.mg ∧ answered t 0x0E05 0 [] ∧
      Raised Reg.MG_ERR_STATUS Reg.MG_ERR_CODE 0x0E05 t ∧ RegsKept ([Reg.MG_ERR_STATUS, Reg.MG_ERR_CODE] ++ own) s t) ∧
    (ready → r.type = 0x29 → r.payload.length = 4 → 4 ≤ le r.payload 2 2 → le r.payload 2 2 ≤ 256 →
      le r.payload 0 2 + le r.payload 2 2 ≤ 4096 → ∃ t, exec (.mboxRead p) s = .next t ∧ MemoryKept s t ∧ RegsKept own s t ∧
      answered t 0 0 (s.mbRead (le r.payload 0 2) (le r.payload 2 2)) ∧ t.mg = s.mg) ∧
    (ready → r.type = 0x30 → r.payload.length = 4 → le r.payload 1 3 = 0 → lath = true → ∃ t, exec (.powerReq p) s = .next t ∧
      MemoryKept s t ∧ RegsKept own s t ∧ answered t 0 0 [] ∧ t.pw = s.pw ∧
      (s.fld Fld.LK_STATUS_U_STATE ≠ 0 → (t.link.up ++ t.link.waiting).any (·.power == some (le r.payload 0 1)) = true)) ∧
    (ready → r.type = 0x30 → r.payload.length = 4 → le r.payload 1 3 = 0 → lath = false → 4 < le r.payload 0 1 →
      ∃ t, exec (.powerReq p) s = .next t ∧ MemoryKept s t ∧ answered t 0 0 [] ∧ t.pw = s.pw ∧
      Raised Reg.PW_ERR_STATUS Reg.PW_ERR_CODE 0x0D01 t ∧
      RegsKept (own ++ [Reg.PW_ERR_STATUS, Reg.PW_ERR_CODE, Reg.CC_IRQ_PEND]) s t)

/-- R421 to R423, Tables 13.7 to 13.10 and 13.12: STATUS drives HP_STATUS over and over, REQUEST of the right length waits for
the engine and any other raises its code, RESPONSE drives the response and zeros beyond it, IRQ_CLEAR clears the bits of its
mask, an unknown opcode is counted and the port stays silent; without its supplies, or in reset, the port does nothing. IRQ_N
pulls low exactly while an enabled event stands, and neither in reset nor without VDD_AON (R62, R424, Table 2.10). -/
def Obligations.HostSpiTransactions : Prop :=
  ∀ (s : State) (b : List Byte) (n k : Nat) (v : Word) (op : Byte) (q : Bool),
    let on := s.pins.vddAon = true ∧ s.pins.resetN = true ∧ s.pins.vddioGood = true
    let len := le b 2 2
    let whole := b.length = 4 + len ∧ 4 ≤ b.length ∧ b.length ≤ 260
    let known : List Byte := [0x05, 0x02, 0x32, 0x0B, 0x6B, 0x61, 0xAB]
    let types : List Nat := [0x01, 0x02, 0x03, 0x08, 0x09, 0x0A, 0x18, 0x20, 0x21, 0x22, 0x23, 0x28, 0x29, 0x30]
    let raises := [Reg.HP_STATUS, Reg.HP_ERR_STATUS, Reg.HP_ERR_CODE, Reg.LK_EVENT, Reg.HP_IRQ_STATUS, Reg.CC_IRQ_PEND]
    let request := if q then Instr.requestQuad b else Instr.request b
    let response := if q then Instr.responseQuad n else Instr.response n
    let only := fun (l : List Nat) (t : State) => t = { s with regs := t.regs, spi := t.spi } ∧ RegsKept l s t
    (s.pins.vddAon = true → s.boot.step ≠ 0 →
      s.ball .irqN = if s.hostWord &&& s.reg Reg.HP_IRQ_EN = 0 then .released else .low) ∧
    (s.pins.vddAon = true → s.boot.step = 0 → s.ball .irqN = .released) ∧
    (s.pins.vddAon = false → s.ball .irqN = .highZ) ∧
    (on → ∃ t, exec (.status n) s = .next t ∧ only [Reg.HP_STATUS] t ∧ t.flag Fld.HP_STATUS_CMD_ERR = false ∧
      t.spi = { s.spi with driven := t.spi.driven } ∧ t.spi.driven.length = 4 * n ∧
      (k < n → le t.spi.driven (4 * k) 4 = s.hpStatus.toNat)) ∧
    (on → s.spi.req.isSome = true → ∃ t, exec request s = .next t ∧ only raises t ∧ t.spi = s.spi ∧
      t.flag Fld.HP_STATUS_REQ_ERR = true ∧ Raised Reg.HP_ERR_STATUS Reg.HP_ERR_CODE 0x0A03 t ∧
      t.flag Fld.HP_STATUS_CMD_ERR = false) ∧
    (on → s.spi.req = none → ¬ whole → ∃ t, exec request s = .next t ∧ only raises t ∧ t.spi = s.spi ∧
      t.flag Fld.HP_STATUS_REQ_ERR = true ∧ Raised Reg.HP_ERR_STATUS Reg.HP_ERR_CODE 0x0A02 t ∧
      tstBit (t.reg Reg.LK_EVENT) 4 = true ∧ tstBit (t.reg Reg.HP_IRQ_STATUS) 4 = true ∧
      tstBit (t.reg Reg.CC_IRQ_PEND) 12 = true) ∧
    (on → s.spi.req = none → whole → types.contains (le b 0 1) = true → ∃ t, exec request s = .next t ∧
      only [Reg.HP_STATUS] t ∧ t.flag Fld.HP_STATUS_REQ_ERR = false ∧ t.flag Fld.HP_STATUS_DONE = false ∧
      t.spi = { s.spi with req := some { type := le b 0 1, payload := b.drop 4 }, response := [] }) ∧
    (on → s.spi.req = none → whole → types.contains (le b 0 1) = false → ∃ t, exec request s = .next t ∧ only raises t ∧
      t.spi = { s.spi with response := toLe 2 0x0A02 ++ toLe 6 0 } ∧ t.flag Fld.HP_STATUS_DONE = true ∧
      Raised Reg.HP_ERR_STATUS Reg.HP_ERR_CODE 0x0A02 t) ∧
    (on → ∃ t, exec response s = .next t ∧ only [Reg.HP_STATUS] t ∧ t.spi = { s.spi with driven := t.spi.driven } ∧
      t.spi.driven.length = n ∧ (k < n → t.spi.driven.getD k 0 = s.spi.response.getD k 0)) ∧
    (on → ∃ t, exec (.irqClear v) s = .next t ∧ OnlyRegs [Reg.HP_STATUS, Reg.HP_IRQ_STATUS] s t ∧
      (k < 32 → tstBit (t.reg Reg.HP_IRQ_STATUS) k = (tstBit (s.reg Reg.HP_IRQ_STATUS) k && !tstBit v k))) ∧
    (on → s.wakeMode ≠ 2 → s.wakeMode ≠ 3 → ∃ t, exec .wake s = .next t ∧ OnlyRegs [Reg.HP_STATUS] s t) ∧
    (on → s.wakeMode = 2 ∨ s.wakeMode = 3 → ∃ t, exec .wake s = .next t ∧ t = { s with regs := t.regs, pw := t.pw } ∧
      RegsKept [Reg.HP_STATUS, Reg.PW_WAKE_CAUSE] s t ∧ tstBit (t.reg Reg.PW_WAKE_CAUSE) 2 = true ∧
      t.pw = { s.pw with wake := s.pw.wake || !(s.flag Fld.PW_STATE_BUSY && !s.pw.entering) }) ∧
    (on → known.contains op = false → ∃ t, exec (.hpBadCmd op) s = .next t ∧ only (Reg.HP_BAD_CMD_CNT :: raises) t ∧
      t.flag Fld.HP_STATUS_CMD_ERR = true ∧ t.spi = { s.spi with driven := [] } ∧
      Raised Reg.HP_ERR_STATUS Reg.HP_ERR_CODE 0x0A05 t ∧
      t.fld Fld.HP_BAD_CMD_CNT_COUNT = min (s.fld Fld.HP_BAD_CMD_CNT_COUNT + 1) 65535) ∧
    (known.contains op = true → ∃ t, exec (.hpBadCmd op) s = .next t ∧ t = s) ∧
    (¬ on → ∃ t, exec (.status n) s = .next t ∧ t = s) ∧
    (¬ on → ∃ t, exec request s = .next t ∧ t = s) ∧
    (¬ on → ∃ t, exec response s = .next t ∧ t = s) ∧
    (¬ on → ∃ t, exec (.irqClear v) s = .next t ∧ t = s)

/-- R400 to R405, R408 to R410, R428, R434, R443 to R445, Tables 13.4, 13.5 and 13.10: a whole frame from U for this node is
taken once, replayed, dropped while one is in hand or refused for its form, one for others goes on by D; a frame from D goes
on by U while a buffer is free; a frame that is not whole is counted and goes on marked bad; ENUMERATE gives the address,
COUNT and FLAGS of R408 and is passed on, or answered with ENUM_DONE at the end of the chain. -/
def Obligations.LinkFramesTakenAndForwarded : Prop :=
  ∀ (s : State) (dst src type flags : Fin 256) (seq ack stat info q count fl : Nat) (payload resp : List Byte) (bad : Bool),
    let b := frameOf dst.val src.val type.val flags.val seq ack stat info payload
    let f : RxFrame := { bytes := b }
    let ticks := 2 * (payload.length + 20)
    let types : List Nat := [0x01, 0x02, 0x03, 0x08, 0x09, 0x0A, 0x18, 0x20, 0x21, 0x22, 0x23, 0x28, 0x29, 0x30]
    let addr := s.fld Fld.LK_STATUS_ADDR
    let up := s.fld Fld.LK_STATUS_U_STATE = 2
    let down := s.fld Fld.LK_STATUS_D_STATE = 2
    let short := payload.length ≤ 256 ∧ seq < 65536
    let mine := up ∧ short ∧ dst.val = addr ∧ addr ≠ 0 ∧ addr ≤ 0x40
    let plain := src = 0 ∧ flags.val < 2 ∧ ack = 0 ∧ stat = 0 ∧ info = 0
    let others := up ∧ short ∧ dst.val ≠ addr ∧ dst.val < 0x41
    let busy := s.answering = true
    let raises := [Reg.LK_ERR_STATUS, Reg.LK_ERR_CODE, Reg.LK_EVENT, Reg.HP_IRQ_STATUS, Reg.CC_IRQ_PEND] ++ snagRegs
    let sent := fun (t : State) (x : List Byte) => (t.link.up ++ t.link.waiting).any (·.bytes == x) = true
    let onD := fun (t : State) (x : List Byte) (marked : Bool) => t.link.lastD = some (.frame x marked) ∧
      t.link.downBusy = 2 * (x.length + 2)
    let dueCrc := s.link.crcRaised = none
    let arrives := if bad then { f with eofBad := true } else { f with codeError := true }
    let fixed := s.flag Fld.LK_CFG_ADDR_MODE = true
    let own := s.fld Fld.LK_CFG_FIXED_ADDR
    let newAddr := if 64 ≤ count then 0 else if fixed ∧ count < own then own else count + 1
    let newCount := if 64 ≤ count then count else newAddr
    let newFlags := if 64 ≤ count then fl ||| 2 else if fixed ∧ own ≤ count then fl ||| 1 else fl
    (s.fld Fld.LK_STATUS_U_STATE ≠ 2 → ∃ t, exec (.lathFrameRxU f) s = .next t ∧ t = s) ∧
    (s.fld Fld.LK_STATUS_D_STATE ≠ 2 → ∃ t, exec (.lathFrameRxD f) s = .next t ∧ t = s) ∧
    (mine → plain → ¬ busy → types.contains type.val = true → (s.link.stored = none ∨ flags.val = 0) →
      ∃ t, exec (.lathFrameRxU f) s = .next t ∧ t = { s with link := { s.link with
        req := some { type := type.val, seq := seq, retry := flags.val == 1, payload := payload } } }) ∧
    (mine → plain → ¬ busy → flags.val = 1 → resp = frameOf 0 addr type.val (4 + 2 * (q % 2)) ack seq 0 0 payload →
      s.link.stored = some (seq, resp) → ∃ t, exec (.lathFrameRxU f) s = .next t ∧ t = { s with regs := t.regs, link := t.link } ∧
      RegsKept [Reg.LK_REPLAY_CNT] s t ∧ t.link.req = none ∧ t.link.stored = s.link.stored ∧
      t.fld Fld.LK_REPLAY_CNT_COUNT = min (s.fld Fld.LK_REPLAY_CNT_COUNT + 1) 65535 ∧
      sent t (frameOf 0 addr type.val (5 + 2 * (q % 2)) ack seq 0 0 payload)) ∧
    (mine → plain → busy → ∃ t, exec (.lathFrameRxU f) s = .next t ∧ MemoryKept s t ∧ t.link = s.link ∧
      RegsKept (Reg.LK_DROP_CNT :: raises) s t ∧ Raised Reg.LK_ERR_STATUS Reg.LK_ERR_CODE 0x0906 t ∧
      t.fld Fld.LK_DROP_CNT_RX_DROP = min (s.fld Fld.LK_DROP_CNT_RX_DROP + 1) 65535) ∧
    (mine → plain → ¬ busy → flags.val = 0 → types.contains type.val = false → type.val ≠ 0x11 →
      ∃ t, exec (.lathFrameRxU f) s = .next t ∧ t.link.req = none ∧ Raised Reg.HP_ERR_STATUS Reg.HP_ERR_CODE 0x0A02 t ∧
      (t.link.stored.map (fun x => (x.1, le x.2 2 1, le x.2 6 2, le x.2 8 2, le x.2 10 2))) = some (seq, type.val, seq, 0,
        0x0A02) ∧
      RegsKept [Reg.HP_ERR_STATUS, Reg.HP_ERR_CODE, Reg.LK_EVENT, Reg.HP_IRQ_STATUS, Reg.CC_IRQ_PEND, Reg.LK_TX_SEQ] s t) ∧
    (mine → src ≠ 0 ∨ flags.val / 4 % 2 = 1 ∨ 8 ≤ flags.val → ∃ t, exec (.lathFrameRxU f) s = .next t ∧ MemoryKept s t ∧
      t.link = s.link ∧ RegsKept raises s t ∧ Raised Reg.LK_ERR_STATUS Reg.LK_ERR_CODE 0x0905 t) ∧
    (others → type.val ≠ 0x11 → down → ∃ t, exec (.lathFrameRxU f) s = .next t ∧
      t = { s with link := { s.link with lastD := some (.frame b false), downBusy := ticks } }) ∧
    (others → type.val ≠ 0x11 → ¬ down → ∃ t, exec (.lathFrameRxU f) s = .next t ∧ t = s) ∧
    (others → type.val ≠ 0x11 → down → dueCrc → ∃ t, exec (.lathFrameRxU arrives) s = .next t ∧ MemoryKept s t ∧ onD t b true ∧
      RegsKept ([Reg.LK_CRC_CNT, Reg.LK_CODE_CNT] ++ raises) s t ∧ Raised Reg.LK_ERR_STATUS Reg.LK_ERR_CODE 0x0902 t ∧
      t.fld Fld.LK_CRC_CNT_U = min (s.fld Fld.LK_CRC_CNT_U + 1) 65535 ∧
      t.fld Fld.LK_CODE_CNT_U = min (s.fld Fld.LK_CODE_CNT_U + bit (!bad)) 65535) ∧
    (up → dst.val = 0xFF → plain → type.val = 0x10 → payload.length = 16 → le payload 10 6 = 0 →
      s.flag Fld.TM_STATUS_PATH_VALID = true →
      down → seq < 65536 → ∃ t, exec (.lathFrameRxU f) s = .next t ∧ t = { s with time := t.time, link := t.link } ∧
        onD t b false ∧
      t.time = { s.time with rxSync := some {
        tTx := BitVec.ofNat 64 (le payload 0 8), interval := le payload 8 2, plumbAt := s.plumbNs, localAt := s.localNs
        path := some (s.fld Fld.TM_PATH_NS_NS) } }) ∧
    (up → dst.val = 0xFF → plain → type.val = 0x11 → payload = [BitVec.ofNat 8 count, BitVec.ofNat 8 fl] → seq < 65536 →
      ∃ t, exec (.lathFrameRxU f) s = .next t ∧
      t = { s with link := { s.link with enumReq := some (count % 256, fl % 256, seq) } }) ∧
    (down → up → short → dst.val ≠ 0xFE → s.link.up.length < 2 → ∃ t, exec (.lathFrameRxD f) s = .next t ∧
      t = { s with link := { s.link with up := s.link.up ++ [⟨b, ticks, false, false, none⟩] } }) ∧
    (down → up → short → dst.val ≠ 0xFE → 2 ≤ s.link.up.length → s.link.ovfRaised = none → ∃ t,
      exec (.lathFrameRxD f) s = .next t ∧
      MemoryKept s t ∧ t.link.up = s.link.up ∧ RegsKept (Reg.LK_DROP_CNT :: raises) s t ∧
      Raised Reg.LK_ERR_STATUS Reg.LK_ERR_CODE 0x0904 t ∧
      t.fld Fld.LK_DROP_CNT_FWD_OVF = min (s.fld Fld.LK_DROP_CNT_FWD_OVF + 1) 65535) ∧
    (down → short → dst.val = 0xFE → src.val ≤ 0x40 → flags = 0 → type.val = 0x13 → payload = toLe 16 0 →
      ack = 0 → stat = 0 → info = 0 →
      ∃ t, exec (.lathFrameRxD f) s = .next t ∧ t = { s with link := { s.link with delayReq := some seq } }) ∧
    (down → short → dst.val = 0xFE → flags = 0 → ack % 65536 ≠ 0 ∨ stat % 65536 ≠ 0 ∨ info % 65536 ≠ 0 →
      ∃ t, exec (.lathFrameRxD f) s = .next t ∧ MemoryKept s t ∧ t.link = s.link ∧ RegsKept raises s t ∧
      Raised Reg.LK_ERR_STATUS Reg.LK_ERR_CODE 0x0905 t) ∧
    (s.link.enumReq = some (count, fl, seq) → down → fl < 4 → count < 256 → ∃ t, exec .enumerate s = .next t ∧ MemoryKept s t ∧
      t.fld Fld.LK_STATUS_ADDR = newAddr ∧ t.link.enumReq = none ∧ t.flag Fld.LK_STATUS_CHAIN_END = false ∧
      onD t (frameOf 0xFF 0 0x11 0 seq 0 0 0 (toLe 1 newCount ++ toLe 1 newFlags)) false ∧
      RegsKept (Reg.LK_STATUS :: raises) s t ∧
      (64 ≤ count → Raised Reg.LK_ERR_STATUS Reg.LK_ERR_CODE 0x0908 t) ∧
      (count < 64 → tstBit (t.reg Reg.LK_EVENT) 13 = true ∧
        (fixed ∧ own ≤ count → tstBit (t.reg Reg.LK_EVENT) 14 = true ∧ Raised Reg.LK_ERR_STATUS Reg.LK_ERR_CODE 0x0907 t))) ∧
    (s.link.enumReq = some (count, fl, seq) → ¬ down → fl < 4 → count < 256 → s.reg Reg.LK_ATTN_EN = 0 → s.link.waiting = [] →
      ∃ t, exec .enumerate s = .next t ∧ MemoryKept s t ∧ t.fld Fld.LK_STATUS_ADDR = newAddr ∧ t.link.enumReq = none ∧
      t.flag Fld.LK_STATUS_CHAIN_END = true ∧ t.link.lastD = s.link.lastD ∧ (s.fld Fld.LK_STATUS_U_STATE ≠ 0 →
      sent t (frameOf 0 newAddr 0x12 4 (s.fld Fld.LK_TX_SEQ_SEQ) seq 0 0 (toLe 1 newCount ++ toLe 1 newFlags)))) ∧
    (s.link.enumReq = none → ∃ t, exec .enumerate s = .next t ∧ t = s)

/-- R398, R399, R410 to R414, R430, R443, R444, R520, Tables 13.2, 13.3 and 14.2: ports open after LK_REXT is measured, come
up at the second valid heartbeat, show their neighbour and its change and loss; a DELAY exchange gives the path or fails; the
wake pattern and link energy wake a node that heeds them. -/
def Obligations.LinkPortsNeighboursAndWake : Prop :=
  ∀ (s : State) (p : Port) (ohms turn fwd target : Nat) (a c : Byte) (codeError : Bool) (r : RxDelay) (t1 : BitVec 64) (q : Nat),
    let onU := decide (p = .u)
    let state := if onU then Fld.LK_STATUS_U_STATE else Fld.LK_STATUS_D_STATE
    let nbr := if onU then Fld.LK_STATUS_U_NBR else Fld.LK_STATUS_D_NBR
    let code := if onU then Fld.LK_CODE_CNT_U else Fld.LK_CODE_CNT_D
    let trained := if onU then s.link.trainU else s.link.trainD
    let known := if onU then s.link.knownU else s.link.knownD
    let up := s.fld state = 2
    let change := if onU then 10 else 11
    let loss := if onU then 8 else 9
    let raises := [Reg.LK_ERR_STATUS, Reg.LK_ERR_CODE, Reg.LK_EVENT, Reg.HP_IRQ_STATUS, Reg.CC_IRQ_PEND] ++ snagRegs
    let downUp := s.fld Fld.LK_STATUS_D_STATE = 2
    let upUp := s.fld Fld.LK_STATUS_U_STATE = 2
    let addr := s.fld Fld.LK_STATUS_ADDR
    let opens := s.link.opening = true ∧ s.mayOpen = true
    let idle := if onU then s.link.up = [] else s.link.downBusy = 0
    let seq := s.fld Fld.LK_TX_SEQ_SEQ
    let valid := bit (s.flag Fld.TM_STATUS_PATH_VALID)
    let reply := toLe 1 1 ++ toLe 1 (2 * valid) ++ toLe 2 fwd ++ toLe 4 turn ++ toLe 4 (s.fld Fld.TM_PATH_NS_NS) ++ toLe 4 0
    let d : Int := (((r.t4 - t1).toNat : Int) - r.turn + 1) / 2
    let measured := s.time.rxDelay = some r ∧ s.time.delayT1 = some t1
    let good := r.turn ≤ 20000 ∧ 0 ≤ d ∧ d ≤ 600 ∧ r.flags / 2 % 2 = 1
    let failed := fun t : State => MemoryKept s t ∧ t.time = { s.time with
        delayT1 := none, rxDelay := none, delayDue := true
        delayFails := if s.time.delayFails = 7 then 0 else s.time.delayFails + 1 } ∧
      (s.time.delayFails = 7 → Raised Reg.TM_ERR_STATUS Reg.TM_ERR_CODE 0x0B04 t) ∧
      (s.time.delayFails ≠ 7 → t.regs = s.regs)
    let wakes := s.flag Fld.LK_WAKE_CFG_PATTERN = true ∧ (s.wakeMode = 2 ∨ s.wakeMode = 3) ∧ (target = addr ∧
      target ≠ 0 ∨ target = 0xFF)
    let exiting := s.flag Fld.PW_STATE_BUSY && !s.pw.entering
    let woken := fun (t : State) (src : Nat) => t.pw = { s.pw with wake := s.pw.wake || !exiting } ∧
      tstBit (t.reg Reg.PW_WAKE_CAUSE) src = true ∧ RegsKept [Reg.PW_WAKE_CAUSE] s t
    (opens → 450 ≤ ohms → ohms ≤ 550 → ∃ t, exec (.portOpen ohms) s = .next t ∧
      t = { s with regs := t.regs, link := { s.link with opening := false } } ∧
      RegsKept [Reg.LK_STATUS, Reg.LK_REXT] s t ∧ t.fld Fld.LK_REXT_OHMS = ohms ∧ t.flag Fld.LK_STATUS_REXT_FAIL = false ∧
      t.fld Fld.LK_STATUS_U_STATE = 1 ∧ t.fld Fld.LK_STATUS_D_STATE = 1) ∧
    (opens → ohms < 450 ∨ 550 < ohms → ∃ t, exec (.portOpen ohms) s = .next t ∧ MemoryKept s t ∧
      t.link = { s.link with opening := false } ∧ RegsKept ([Reg.LK_STATUS, Reg.LK_REXT] ++ raises) s t ∧
      t.flag Fld.LK_STATUS_REXT_FAIL = true ∧ t.fld Fld.LK_STATUS_U_STATE = s.fld Fld.LK_STATUS_U_STATE ∧
      Raised Reg.LK_ERR_STATUS Reg.LK_ERR_CODE 0x0901 t) ∧
    (¬ opens → ∃ t, exec (.portOpen ohms) s = .next t ∧ t = s) ∧
    (s.fld state ≠ 0 → idle → ∃ t, exec (.heartbeatSend p) s = .next t ∧
      t = { s with link := { s.link with
        lastU := if onU then some (.heartbeat addr) else s.link.lastU
        lastD := if onU then s.link.lastD else some (.heartbeat addr) } }) ∧
    (s.fld state = 0 ∨ ¬ idle → ∃ t, exec (.heartbeatSend p) s = .next t ∧ t = s) ∧
    (s.fld state = 0 → ∃ t, exec (.heartbeatReceive p a c codeError) s = .next t ∧ t = s) ∧
    (up → c = ~~~a → ∃ t, exec (.heartbeatReceive p a c false) s = .next t ∧ MemoryKept s t ∧ t.fld state = 2 ∧
      t.fld nbr = a.toNat ∧ RegsKept [Reg.LK_STATUS, Reg.LK_EVENT, Reg.TM_STATUS] s t ∧ t.link = s.link ∧
      (s.fld nbr = a.toNat → (onU = true ∨ a ≠ 0) → t.reg Reg.LK_EVENT = s.reg Reg.LK_EVENT ∧ t.time = s.time) ∧
      (s.fld nbr ≠ a.toNat → tstBit (t.reg Reg.LK_EVENT) change = true ∧
        (onU = true → t.flag Fld.TM_STATUS_PATH_VALID = false ∧ t.time.delayDue = true)) ∧
      (onU = false → a = 0 → tstBit (t.reg Reg.LK_EVENT) 12 = true)) ∧
    (s.fld state = 1 → trained = 0 → c = ~~~a → ∃ t, exec (.heartbeatReceive p a c false) s = .next t ∧
      t.fld state = 1 ∧ t.fld nbr = a.toNat ∧ (if onU then t.link.trainU else t.link.trainD) = 1 ∧
      (if onU then t.link.knownU else t.link.knownD) = known) ∧
    (s.fld state = 1 → trained = 1 → c = ~~~a → ∃ t, exec (.heartbeatReceive p a c false) s = .next t ∧
      t.fld state = 2 ∧ t.fld nbr = a.toNat ∧ (onU = true → t.time.delayDue = true) ∧
      (known.isSome = true → known ≠ some a.toNat → tstBit (t.reg Reg.LK_EVENT) change = true) ∧
      (known = none ∨ known = some a.toNat → (onU = true ∨ a ≠ 0) → t.reg Reg.LK_EVENT = s.reg Reg.LK_EVENT)) ∧
    (s.fld state = 1 → codeError = true ∨ c ≠ ~~~a → ∃ t, exec (.heartbeatReceive p a c codeError) s = .next t ∧
      t.fld state = 1 ∧ (if onU then t.link.trainU else t.link.trainD) = 0 ∧
      t.fld code = min (s.fld code + bit codeError) 65535 ∧ RegsKept [Reg.LK_CODE_CNT] s t) ∧
    (up → ∃ t, exec (.portLost p) s = .next t ∧ MemoryKept s t ∧ t.fld state = 1 ∧ tstBit (t.reg Reg.LK_EVENT) loss = true ∧
      Raised Reg.LK_ERR_STATUS Reg.LK_ERR_CODE 0x0903 t ∧ RegsKept ([Reg.LK_STATUS, Reg.TM_STATUS] ++ raises) s t ∧
      (if onU then t.link.trainU else t.link.trainD) = 0 ∧ (if onU then t.link.knownU else t.link.knownD) = some (s.fld nbr) ∧
      (onU = true → t.flag Fld.TM_STATUS_PATH_VALID = false)) ∧
    (¬ up → ∃ t, exec (.portLost p) s = .next t ∧ t = s) ∧
    (s.link.delayReq = some q → downUp → s.link.downBusy = 0 → ∃ t, exec (.delay turn fwd) s = .next t ∧
      t = { s with regs := t.regs, link := { s.link with
        delayReq := none, lastD := some (.frame (frameOf 0xFE addr 0x13 4 seq q 0 0 reply) false) } } ∧
      RegsKept [Reg.LK_TX_SEQ] s t ∧ t.fld Fld.LK_TX_SEQ_SEQ = (seq + 1) % 65536) ∧
    (s.link.delayReq = none ∨ ¬ downUp ∨ s.link.downBusy ≠ 0 → ∃ t, exec (.delay turn fwd) s = .next t ∧ t = s) ∧
    (upUp → s.link.up = [] → ∃ t, exec .delayMeasureStart s = .next t ∧ t = { s with
        regs := t.regs
        time := { s.time with delayDue := false, delayT1 := some s.localNs }
        link := { s.link with lastU := some (.frame (frameOf 0xFE addr 0x13 0 seq 0 0 0 (toLe 16 0)) false) } } ∧
      RegsKept [Reg.LK_TX_SEQ] s t ∧ t.fld Fld.LK_TX_SEQ_SEQ = (seq + 1) % 65536) ∧
    (¬ upUp ∨ s.link.up ≠ [] → ∃ t, exec .delayMeasureStart s = .next t ∧ t = s) ∧
    (measured → good → ∃ t, exec .delayResponse s = .next t ∧
      t = { s with regs := t.regs, time := { s.time with delayT1 := none, rxDelay := none, delayFails := 0 } } ∧
      RegsKept [Reg.TM_PATH_NS, Reg.TM_LINK_DELAY, Reg.TM_STATUS] s t ∧ t.flag Fld.TM_STATUS_PATH_VALID = true ∧
      t.fld Fld.TM_LINK_DELAY_NS = d.toNat ∧
      t.fld Fld.TM_PATH_NS_NS = ((if r.flags % 2 = 1 then 0 else r.path + r.fwd) + d.toNat) % 2 ^ 32) ∧
    (measured → ¬ good → ∃ t, exec .delayResponse s = .next t ∧ failed t) ∧
    (s.time.rxDelay = none ∨ s.time.delayT1 = none → ∃ t, exec .delayResponse s = .next t ∧ t = s) ∧
    (s.time.delayT1 = some t1 → ∃ t, exec .delayTimeout s = .next t ∧ failed t) ∧
    (s.time.delayT1 = none → ∃ t, exec .delayTimeout s = .next t ∧ t = s) ∧
    (wakes → s.fld Fld.LK_STATUS_U_STATE ≠ 0 ∨ 3 ≤ s.power → ∃ t, exec (.wakePattern target false) s = .next t ∧
      MemoryKept s t ∧ woken t 0) ∧
    (¬ wakes → s.fld Fld.LK_STATUS_U_STATE ≠ 0 → s.power < 3 → downUp → ∃ t, exec (.wakePattern target false) s = .next t ∧
      t = { s with link := { s.link with
        lastD := if s.link.downBusy = 0 then some (.wake target) else s.link.lastD
        wakeWaits := if s.link.downBusy = 0 then s.link.wakeWaits else some target } }) ∧
    (codeError = true → ∃ t, exec (.wakePattern target codeError) s = .next t ∧ t = s) ∧
    (s.wakeMode = 3 → s.flag Fld.LK_WAKE_CFG_ENERGY = true → ∃ t, exec .linkEnergyWake s = .next t ∧
      t = { s with regs := t.regs, pw := t.pw } ∧ woken t 1) ∧
    (s.wakeMode ≠ 3 ∨ s.flag Fld.LK_WAKE_CFG_ENERGY = false → ∃ t, exec .linkEnergyWake s = .next t ∧ t = s)

/-- R438, R451: a valid set loads the calendar, restarts the sub-second count at 0 and clears OSC_STOP (and CAL_WRAP, Table
14.6), and a rollover due in its tick is lost (R451); an invalid one changes nothing and raises TM_CAL_RANGE; CAPTURE copies
calendar, Plumb time and local time. -/
def Obligations.RtcSetAndCapture : Prop :=
  ∀ s : State,
    let valid := s.fld Fld.TM_SET_TIME_SEC ≤ 59 ∧ s.fld Fld.TM_SET_TIME_MIN ≤ 59 ∧ s.fld Fld.TM_SET_TIME_HOUR ≤ 23 ∧
      1 ≤ s.fld Fld.TM_SET_DATE_MONTH ∧ s.fld Fld.TM_SET_DATE_MONTH ≤ 12 ∧ 1 ≤ s.fld Fld.TM_SET_DATE_DAY ∧
      s.fld Fld.TM_SET_DATE_DAY ≤ monthDays (s.fld Fld.TM_SET_DATE_YEAR) (s.fld Fld.TM_SET_DATE_MONTH) ∧
      s.fld Fld.TM_SET_DATE_YEAR ≤ 199
    (valid → ∃ t, exec .rtcSet s = .next t ∧
      t = { s with regs := t.regs, time := { s.time with calSub := 0, rolloverLost := decide (32768 ≤ s.time.calSub) } } ∧
      RegsKept [Reg.TM_RTC_TIME, Reg.TM_RTC_DATE, Reg.TM_STATUS] s t ∧
      t.fld Fld.TM_RTC_TIME_SEC = s.fld Fld.TM_SET_TIME_SEC ∧ t.fld Fld.TM_RTC_TIME_MIN = s.fld Fld.TM_SET_TIME_MIN ∧
      t.fld Fld.TM_RTC_TIME_HOUR = s.fld Fld.TM_SET_TIME_HOUR ∧ t.fld Fld.TM_RTC_DATE_DAY = s.fld Fld.TM_SET_DATE_DAY ∧
      t.fld Fld.TM_RTC_DATE_MONTH = s.fld Fld.TM_SET_DATE_MONTH ∧ t.fld Fld.TM_RTC_DATE_YEAR = s.fld Fld.TM_SET_DATE_YEAR ∧
      t.flag Fld.TM_STATUS_OSC_STOP = false ∧ t.flag Fld.TM_STATUS_CAL_WRAP = false ∧
      t.fld Fld.TM_STATUS_STATE = s.fld Fld.TM_STATUS_STATE) ∧
    (¬ valid → ∃ t, exec .rtcSet s = .next t ∧ t.time = s.time ∧ MemoryKept s t ∧
      t.reg Reg.TM_RTC_TIME = s.reg Reg.TM_RTC_TIME ∧ t.reg Reg.TM_RTC_DATE = s.reg Reg.TM_RTC_DATE ∧
      t.reg Reg.TM_STATUS = s.reg Reg.TM_STATUS ∧ Raised Reg.TM_ERR_STATUS Reg.TM_ERR_CODE 0x0B05 t) ∧
    ∃ t, exec .capture s = .next t ∧ OnlyRegs [Reg.TM_CAP_TIME, Reg.TM_CAP_DATE, Reg.TM_CAP_SUBSEC, Reg.TM_CAP_PLUMB_LO,
        Reg.TM_CAP_PLUMB_HI, Reg.TM_CAP_LOCAL_LO, Reg.TM_CAP_LOCAL_HI] s t ∧
      t.reg Reg.TM_CAP_TIME = s.reg Reg.TM_RTC_TIME ∧ t.reg Reg.TM_CAP_DATE = s.reg Reg.TM_RTC_DATE ∧
      t.reg Reg.TM_CAP_SUBSEC = word (s.time.calSub % 32768) ∧
      t.reg Reg.TM_CAP_PLUMB_HI ++ t.reg Reg.TM_CAP_PLUMB_LO = s.plumbNs ∧
      t.reg Reg.TM_CAP_LOCAL_HI ++ t.reg Reg.TM_CAP_LOCAL_LO = s.localNs

/-- R435: at a rollover the calendar goes on by exactly one second, to a legal date and time, and after the last second
of 2199 to 2000-01-01 00:00:00 with CAL_WRAP set; one that an RTC_SET overtook in its tick is lost (R451). -/
def Obligations.CalendarRolloverAddsOneSecond : Prop :=
  ∀ s : State, (s.time.rolloverLost = true → ∃ t, exec .calendarRollover s = .next t ∧
      t = { s with time := { s.time with rolloverLost := false } }) ∧
    (s.time.rolloverLost = false → s.fld Fld.TM_RTC_TIME_SEC ≤ 59 → s.fld Fld.TM_RTC_TIME_MIN ≤ 59 →
      s.fld Fld.TM_RTC_TIME_HOUR ≤ 23 →
    1 ≤ s.fld Fld.TM_RTC_DATE_MONTH → s.fld Fld.TM_RTC_DATE_MONTH ≤ 12 → 1 ≤ s.fld Fld.TM_RTC_DATE_DAY →
    s.fld Fld.TM_RTC_DATE_DAY ≤ monthDays (s.fld Fld.TM_RTC_DATE_YEAR) (s.fld Fld.TM_RTC_DATE_MONTH) →
    s.fld Fld.TM_RTC_DATE_YEAR ≤ 199 →
    ∃ t, exec .calendarRollover s = .next t ∧ MemoryKept s t ∧
      t.time = { s.time with calSub := s.time.calSub - 32768 } ∧
      (s.calSeconds + 1 < calSpan → t.calSeconds = s.calSeconds + 1 ∧
        t.flag Fld.TM_STATUS_CAL_WRAP = s.flag Fld.TM_STATUS_CAL_WRAP) ∧
      (s.calSeconds + 1 = calSpan → t.calSeconds = 0 ∧ t.flag Fld.TM_STATUS_CAL_WRAP = true) ∧
      t.fld Fld.TM_RTC_DATE_DAY ≤ monthDays (t.fld Fld.TM_RTC_DATE_YEAR) (t.fld Fld.TM_RTC_DATE_MONTH))

/-- R437, R444: OSC_STOP when the oscillator stops, VBAT_LOW as VBAT was sampled while VDD_AON is present, and a measurement
due. -/
def Obligations.ClockFaultsAndDelayNow : Prop :=
  ∀ (s : State) (mv : Nat),
    (∃ t, exec .oscStop s = .next t ∧ t.flag Fld.TM_STATUS_OSC_STOP = true ∧ t.time = s.time ∧ MemoryKept s t ∧
      t.reg Reg.TM_RTC_TIME = s.reg Reg.TM_RTC_TIME ∧ t.reg Reg.TM_RTC_DATE = s.reg Reg.TM_RTC_DATE ∧
      Raised Reg.TM_ERR_STATUS Reg.TM_ERR_CODE 0x0B01 t) ∧
    (s.pins.vddAon = false → ∃ t, exec (.vbatSample mv) s = .next t ∧ t = s) ∧
    (s.pins.vddAon = true → ∃ t, exec (.vbatSample mv) s = .next t ∧ t.flag Fld.TM_STATUS_VBAT_LOW = decide (mv < 1800) ∧
      t.time = s.time ∧ MemoryKept s t ∧ t.flag Fld.TM_STATUS_OSC_STOP = s.flag Fld.TM_STATUS_OSC_STOP ∧
      (mv < 1800 → Raised Reg.TM_ERR_STATUS Reg.TM_ERR_CODE 0x0B06 t) ∧
      (1800 ≤ mv → OnlyRegs [Reg.TM_STATUS] s t)) ∧
    ∃ t, exec .delayNow s = .next t ∧ t = { s with time := { s.time with delayDue := true } }

/-- R445 to R449: a SYNC taken while FREE steps Plumb time to T_TX + PATH + the time since, one without a valid path is
counted and changes nothing else, the timeout enters HOLDOVER with F kept, and RTC_FOLLOW waits for the next second. -/
def Obligations.ServoFollowsSync : Prop :=
  ∀ (s : State) (y : RxSync) (path : Nat),
    (s.time.rxSync = some y → y.path = some path → s.flag Fld.TM_CFG_SYNC_EN = true → 10 ≤ y.interval →
      y.interval ≤ 1000 → s.fld Fld.TM_STATUS_STATE = 0 →
      ∃ t, exec .sync s = .next t ∧ MemoryKept s t ∧ t.time.rxSync = none ∧ t.time.localT = s.time.localT ∧
        t.plumbNs = y.tTx + BitVec.ofNat 64 path + (s.localNs - y.localAt) ∧ t.fld Fld.TM_STATUS_STATE = 1 ∧
        t.reg Reg.TM_RATE = s.reg Reg.TM_RATE ∧ t.time.lastSync = some y.localAt ∧
        Raised Reg.TM_ERR_STATUS Reg.TM_ERR_CODE 0x0B03 t) ∧
    (s.time.rxSync = some y → y.path = none →
      ∃ t, exec .sync s = .next t ∧ t.time = { s.time with rxSync := none } ∧
        t = { s with regs := t.regs, time := t.time } ∧ RegsKept [Reg.TM_SYNC_MISS] s t ∧
        t.fld Fld.TM_SYNC_MISS_COUNT = min (s.fld Fld.TM_SYNC_MISS_COUNT + 1) 65535) ∧
    (s.time.lastSync.isSome = true → s.fld Fld.TM_STATUS_STATE ≠ 3 →
      ∃ t, exec .syncTimeout s = .next t ∧ MemoryKept s t ∧ t.fld Fld.TM_STATUS_STATE = 3 ∧
        t.flag Fld.TM_STATUS_LOCKED = false ∧ t.reg Reg.TM_RATE = s.reg Reg.TM_RATE ∧ t.time.slewLeft = 0 ∧
        t.time.plumbT = s.time.plumbT ∧ Raised Reg.TM_ERR_STATUS Reg.TM_ERR_CODE 0x0B02 t) ∧
    (s.locked = true → s.flag Fld.TM_CFG_RTC_FOLLOW = true → s.plumbNs.toNat / 1000000000 + 1 < calSpan →
      2000000 * 128 < ((s.calFine : Int) - (s.plumbNs.toNat / 1000000000 * 128000000000 : Nat)).natAbs →
      ∃ t, exec .rtcFollowCheck s = .next t ∧
        t = { s with time := { s.time with followAt := some (s.plumbNs.toNat / 1000000000 + 1) } })

/-- R458, R461 to R464, R466 to R468, R471, R477, R480, R484, R486, Tables 15.2, 15.4, 15.6 and 15.8: a START triggers one
pass, or is held, or late; RUN and BANK are taken for a valid bank, at once or at the pass's end, and refused whole for an
invalid one; mask bits stay set; a tile outside the destination clears AX_SIG.EN; a pass starts under the live bank with the
factors in force. -/
def Obligations.AuxSequencerRuns : Prop :=
  ∀ (s : State) (v w : Word) (run late : Bool) (b : Fin 2) (k : Fin 16) (j : Fin 12),
    let bank := s.fld Fld.AX_STATUS_LIVE
    let cfg := fun x : Nat => s.reg (if x = 0 then Reg.AX_SEQA_CFG else Reg.AX_SEQB_CFG)
    let ent := fun (x i : Nat) => s.reg (if x = 0 then Reg.AX_SEQA_ENT i else Reg.AX_SEQB_ENT i)
    let trig := bits (cfg bank) 5 4
    let idle := s.ax.passes = []
    let held := s.flag Fld.AX_STATUS_START_HELD = true
    let busy := ¬ idle ∨ s.flag Fld.AX_STATUS_CAL_BUSY = true ∨ s.ax.trig = true
    let raises := [Reg.AX_ERR_STATUS, Reg.AX_ERR_CODE, Reg.CC_IRQ_PEND] ++ snagRegs
    let refused := fun t : State => MemoryKept s t ∧ t.ax = s.ax ∧ RegsKept raises s t ∧
      Raised Reg.AX_ERR_STATUS Reg.AX_ERR_CODE 0x0C01 t
    let lates := fun t : State => t.fld Fld.AX_LATE_CNT_COUNT = min (s.fld Fld.AX_LATE_CNT_COUNT + 1) 65535 ∧
      MemoryKept s t ∧ RegsKept (Reg.AX_LATE_CNT :: raises) s t
    let sel := fun (x : Nat) (r : Bool) (t : State) => MemoryKept s t ∧ RegsKept [Reg.AX_SEL, Reg.AX_STATUS] s t ∧
      t.fld Fld.AX_SEL_BANK = x ∧ t.flag Fld.AX_SEL_RUN = r ∧ t.ax.running = r ∧ t.ax.passes = s.ax.passes ∧
      (idle → t.fld Fld.AX_STATUS_LIVE = x ∧ t.flag Fld.AX_STATUS_FLIP_PENDING = false) ∧
      (¬ idle → t.fld Fld.AX_STATUS_LIVE = bank ∧ t.flag Fld.AX_STATUS_FLIP_PENDING = (x != bank)) ∧
      (r = false → t.flag Fld.AX_STATUS_START_HELD = false ∧ t.flag Fld.AX_STATUS_RUNNING = !decide idle)
    let invalidEntry := fun x : Nat => bits (cfg x) 3 0 = k.val ∧ (5 ≤ bits (ent x k.val) 18 16 ∨ 9 ≤ bits (ent x k.val) 23 20 ∨
      9 ≤ bits (ent x k.val) 27 24 ∨ bits (ent x k.val) 27 24 + 2 < bits (ent x k.val) 23 20 ∨
      bits (ent x k.val) 5 0 = 12 ∨ 45 ≤ bits (ent x k.val) 5 0 ∨ (32 ≤ bits (ent x k.val) 5 0 ∧ tstBit (ent x k.val) 29 = true))
    let tiny := fun x : Nat => bits (cfg x) 3 0 = 0 ∧ bits (cfg x) 5 4 ≠ 2 ∧ bits (ent x 0) 5 0 < 12 ∧ bits (ent x 0) 18 16 < 5 ∧
      bits (ent x 0) 23 20 ≤ 2 ∧ bits (ent x 0) 27 24 ≤ 8
    let now := s.fld Fld.AX_SEL_BANK
    let booted := s.flag Fld.SYS_BOOT_STATUS_BOOT_DONE = true
    let free := s.ax.running = true ∧ s.flag Fld.AX_STATUS_CAL_BUSY = false ∧ s.px.supplyGood = true ∧
      s.flag Fld.AX_STATUS_FLIP_PENDING = false
    let tile := bits w 3 0
    (s.ax.running = false ∨ trig ≠ 0 → ∃ t, exec .start s = .next t ∧ t = s) ∧
    (s.ax.running = true → trig = 0 → ¬ busy → ∃ t, exec .start s = .next t ∧ t = { s with ax := { s.ax with trig := true } }) ∧
    (s.ax.running = true → trig = 0 → busy → ¬ held → ∃ t, exec .start s = .next t ∧ OnlyRegs [Reg.AX_STATUS] s t ∧
      t.flag Fld.AX_STATUS_START_HELD = true) ∧
    (s.ax.running = true → trig = 0 → busy → held → ∃ t, exec .start s = .next t ∧ lates t) ∧
    (tiny now → s.reg Reg.AX_IMG_MASK = 0 → s.flag Fld.DS_FUSE_POLICY_AUX_ALL_TAGGED = false → run = false ∨ booted →
      ∃ t, exec (.axRun run) s = .next t ∧ sel now run t) ∧
    (invalidEntry now → ∃ t, exec (.axRun true) s = .next t ∧ refused t) ∧
    (tiny b.val → s.reg Reg.AX_IMG_MASK = 0 → s.flag Fld.DS_FUSE_POLICY_AUX_ALL_TAGGED = false →
      s.flag Fld.AX_SEL_RUN = s.ax.running →
      s.ax.running = false ∨ booted → ∃ t, exec (.axBankSwitch b) s = .next t ∧ sel b.val s.ax.running t) ∧
    (now ≠ b.val → invalidEntry b.val → ∃ t, exec (.axBankSwitch b) s = .next t ∧ refused t) ∧
    (∃ t, exec (.axImgMaskWrite v) s = .next t ∧ OnlyRegs [Reg.AX_IMG_MASK] s t ∧
      tstBit (t.reg Reg.AX_IMG_MASK) j.val = (tstBit (s.reg Reg.AX_IMG_MASK) j.val || tstBit v j.val)) ∧
    (tstBit w 31 = false ∨ s.tilePart tile = s.fld Fld.AX_DEST_PART + 1 → ∃ t, exec (.axSigWrite false w) s = .next t ∧
      OnlyRegs [Reg.AX_SIG] s t ∧ t.fld Fld.AX_SIG_TILE = tile ∧ t.fld Fld.AX_SIG_COUNTER = bits w 7 4 ∧
      t.flag Fld.AX_SIG_EN = tstBit w 31) ∧
    (tstBit w 31 = true → s.tilePart tile ≠ s.fld Fld.AX_DEST_PART + 1 → ∃ t, exec (.axSigWrite false w) s = .next t ∧
      MemoryKept s t ∧ RegsKept (Reg.AX_SIG :: raises) s t ∧ t.flag Fld.AX_SIG_EN = false ∧ t.fld Fld.AX_SIG_TILE = tile ∧
      Raised Reg.AX_ERR_STATUS Reg.AX_ERR_CODE 0x0C01 t) ∧
    (s.flag Fld.AX_SIG_EN = false ∨ s.tilePart (s.fld Fld.AX_SIG_TILE) = bits v 1 0 + 1 →
      (s.partition (bits v 1 0)).pkg = none → ∃ t, exec (.axSigWrite true v) s = .next t ∧
      OnlyRegs [Reg.AX_DEST, Reg.AX_DEST_BASE, Reg.AX_DEST_ROWS] s t ∧ t.fld Fld.AX_DEST_PART = bits v 1 0 ∧
      t.flag Fld.AX_DEST_EN = tstBit v 4 ∧ t.fld Fld.AX_DEST_ROWS_ROWS = 0 ∧ t.reg Reg.AX_SIG = s.reg Reg.AX_SIG) ∧
    (s.ax.running = true → ∃ t, exec .axPowerUp s = .next t ∧ OnlyRegs [Reg.AX_STATUS] s t ∧
      t.flag Fld.AX_STATUS_POWERED = true) ∧
    (s.ax.running = false → ∃ t, exec .axPowerUp s = .next t ∧ t = s) ∧
    (free → trig ≠ 0 ∨ s.ax.trig = true ∨ held → late = false ∨ trig < 2 → ∃ t, exec (.axPassStart late) s = .next t ∧
      MemoryKept s t ∧
      RegsKept [Reg.AX_STATUS] s t ∧ t.flag Fld.AX_STATUS_POWERED = true ∧ t.flag Fld.AX_STATUS_RUNNING = true ∧
      t.ax = { s.ax with trig := false, passes := t.ax.passes } ∧ t.ax.passes = s.ax.passes ++ [{
        bank := bank, entries := (List.range (bits (cfg bank) 3 0 + 1)).map (ent bank)
        mask := s.fld Fld.AX_IMG_MASK_AIN, dest := s.reg Reg.AX_DEST
        destBase := s.fld Fld.AX_DEST_BASE_ROW, destRows := s.fld Fld.AX_DEST_ROWS_ROWS
        cal := (List.range 5).map (fun g => (signed 16 (s.fld (Fld.AX_CAL_OFF_OFF g)), s.fld (Fld.AX_CAL_GAIN_GAIN g)))
        sys := (List.range 16).map (fun i => (signed 16 (s.fld (Fld.AX_SYSCAL_SOFF i)), s.fld (Fld.AX_SYSCAL_SGAIN i))) }]) ∧
    (s.ax.running = true → s.flag Fld.AX_STATUS_CAL_BUSY = true → 2 ≤ trig → ∃ t, exec (.axPassStart late) s = .next t ∧ lates t ∧
      t.ax = s.ax) ∧
    (s.ax.running = false ∨ (s.flag Fld.AX_STATUS_CAL_BUSY = false ∧ s.px.supplyGood = false) →
      ∃ t, exec (.axPassStart late) s = .next t ∧ t = s)

/-- R459, R465, R469 to R472, R475 to R479, Tables 15.3 and 15.4: an entry's samples are corrected, clamped, summed, shifted
and aligned into its register, or for an imaging-class entry only into its pass; a pass's end counts it and queues its aux
row; the row lands tagged, or is discarded and counted while its partition has no package or changes; calibrations store their
factors or fail with nothing changed. -/
def Obligations.AuxResultsAndCalibration : Prop :=
  ∀ (s : State) (p : AxPass) (r : AxRow) (raw : List Int) (sums : List (Int × Int)) (k : Fin 16) (g : Fin 5)
      (full waited : Bool),
    let bank := p.bank
    let entAt := fun (x i : Nat) => s.reg (if x = 0 then Reg.AX_SEQA_ENT i else Reg.AX_SEQB_ENT i)
    let len := p.entries.length
    let i := p.results.length
    let w := p.entries.getD i 0
    let chan := bits w 5 0
    let all := s.flag Fld.DS_FUSE_POLICY_AUX_ALL_TAGGED = true
    let imaging := chan = 41 ∨ all ∨ (chan < 12 ∧ p.mask / 2 ^ chan % 2 = 1) ∨
      (16 ≤ chan ∧ chan < 22 ∧ p.mask / 4 ^ (chan - 16) % 4 ≠ 0)
    let diff := 16 ≤ chan ∧ chan < 22
    let step := fun (f : Int × Nat) (x : Int) => (x - f.1) * f.2 + 8192
    let cal := p.cal.getD (bits w 18 16) (0, 0x4000)
    let sys := p.sys.getD i (0, 0x4000)
    let corrected := fun x : Int => if tstBit w 30 then step sys (step cal x / 16384) / 16384 else step cal x / 16384
    let lo : Int := if diff then -8192 else 0
    let hi : Int := if diff then 8191 else 16383
    let clamped := fun x : Int => max lo (min hi (corrected x))
    let sum := (raw.map clamped).sum / 2 ^ bits w 27 24
    let value := if tstBit w 28 then sum * 2 ^ (16 - (14 + bits w 23 20 - bits w 27 24)) else sum
    let passing := s.ax.passes = [p]
    let raises := [Reg.AX_ERR_STATUS, Reg.AX_ERR_CODE, Reg.CC_IRQ_PEND] ++ snagRegs
    let n := (s.reg Reg.AX_PASS_CNT + 1).toNat
    let ents := (List.range 16).filter (fun x => (p.results.getD x (0, false, false)).2.2)
    let fits := tstBit p.dest 4 = true ∧ (s.partition (bits p.dest 1 0)).pkg.isSome = true ∧ p.destRows ≠ 0 ∧
      s.ax.fifo.length < 8 ∧
      s.axDestMoves (bits p.dest 1 0) = false
    let stands := (s.partition r.part).pkg.isSome = true ∧ s.axDestMoves r.part = false
    let ended := fun t : State => MemoryKept s t ∧ t.ax.passes = [] ∧ t.reg Reg.AX_PASS_CNT = s.reg Reg.AX_PASS_CNT + 1 ∧
      t.flag Fld.AX_EVENT_PASS_DONE = true
    let busy := s.flag Fld.AX_STATUS_CAL_BUSY = true
    let refused := fun t : State => MemoryKept s t ∧ t.ax = s.ax ∧ RegsKept raises s t ∧
      Raised Reg.AX_ERR_STATUS Reg.AX_ERR_CODE 0x0C01 t
    let live := s.fld Fld.AX_STATUS_LIVE
    let lw := entAt live k.val
    let liveLen := bits (s.reg (if live = 0 then Reg.AX_SEQA_CFG else Reg.AX_SEQB_CFG)) 3 0 + 1
    let secret := entImaging (s.fld Fld.AX_IMG_MASK_AIN) (s.flag Fld.DS_FUSE_POLICY_AUX_ALL_TAGGED) lw = true
    let syscal := s.flag Fld.AX_SEL_RUN = false ∧ ¬ busy ∧ s.ax.calNext = false ∧ k.val < liveLen
    let fs := (List.range 5).map (fun x => axFactors (sums.getD x (0, 0)))
    let inRange := ∀ x : Fin 5, -256 ≤ (fs.getD x.val (0, 0)).1 ∧ (fs.getD x.val (0, 0)).1 ≤ 255 ∧
      0x3800 ≤ (fs.getD x.val (0, 0)).2 ∧ (fs.getD x.val (0, 0)).2 ≤ 0x4800
    let self := busy ∧ s.ax.syscal = none
    let lcal := (signed 16 (s.fld (Fld.AX_CAL_OFF_OFF (bits lw 18 16))), s.fld (Fld.AX_CAL_GAIN_GAIN (bits lw 18 16)))
    let means := (raw.map (fun x => step lcal x / 16384)).sum
    let target := signed 16 (s.fld Fld.AX_SYSCAL_TARGET_TARGET)
    let gain := roundDiv (target * 16384 * 256) (means - 256 * signed 16 (s.fld (Fld.AX_SYSCAL_SOFF k.val)))
    let calRegs := (List.range 5).flatMap (fun x => [Reg.AX_CAL_OFF x, Reg.AX_CAL_GAIN x])
    (passing → i < len → len ≤ 16 → ¬ imaging → ∃ t, exec (.axEntryResult raw) s = .next t ∧
      t = { s with regs := t.regs, ax := { s.ax with passes := [{ p with
        results := p.results ++ [((value % 65536).toNat, raw.any (fun x => clamped x != corrected x), false)] }] } } ∧
      RegsKept [Reg.AX_RESULT i, Reg.AX_SAMPLE_CNT] s t ∧ (t.fld (Fld.AX_RESULT_VALUE i) : Int) = value % 65536 ∧
      t.flag (Fld.AX_RESULT_NEW i) = true ∧ t.flag (Fld.AX_RESULT_TAGGED i) = false ∧
      t.flag (Fld.AX_RESULT_CLAMP i) = raw.any (fun x => clamped x != corrected x) ∧
      t.flag (Fld.AX_RESULT_LOST i) = (s.flag (Fld.AX_RESULT_NEW i) || s.flag (Fld.AX_RESULT_LOST i)) ∧
      t.reg Reg.AX_SAMPLE_CNT = s.reg Reg.AX_SAMPLE_CNT + word (2 ^ bits w 23 20)) ∧
    (passing → i < len → len ≤ 16 → imaging → ∃ t, exec (.axEntryResult raw) s = .next t ∧
      t = { s with regs := t.regs, ax := { s.ax with passes := [{ p with
        results := p.results ++ [((value % 65536).toNat, raw.any (fun x => clamped x != corrected x), true)] }] } } ∧
      RegsKept [Reg.AX_RESULT i, Reg.AX_SAMPLE_CNT] s t ∧ t.fld (Fld.AX_RESULT_VALUE i) = 0 ∧
      t.flag (Fld.AX_RESULT_TAGGED i) = true ∧ t.flag (Fld.AX_RESULT_CLAMP i) = false ∧
      t.flag (Fld.AX_RESULT_NEW i) = s.flag (Fld.AX_RESULT_NEW i) ∧
      t.flag (Fld.AX_RESULT_LOST i) = s.flag (Fld.AX_RESULT_LOST i)) ∧
    (s.ax.passes = [] ∨ (passing ∧ len ≤ i) → ∃ t, exec (.axEntryResult raw) s = .next t ∧ t = s) ∧
    (passing → len ≤ i → i ≤ 16 → ents = [] → ∃ t, exec .axPassEnd s = .next t ∧ ended t ∧ t.ax.fifo = s.ax.fifo ∧
      t.ax.dropped = s.ax.dropped ∧ RegsKept [Reg.AX_PASS_CNT, Reg.AX_EVENT, Reg.AX_STATUS, Reg.CC_IRQ_PEND] s t) ∧
    (passing → len ≤ i → i ≤ 16 → ents ≠ [] → fits → ∃ t, exec .axPassEnd s = .next t ∧ ended t ∧ t.ax.dropped = 0 ∧
      t.ax.fifo = s.ax.fifo ++ [⟨0x200000 + (p.destBase + n % p.destRows), t.ax.fifo.getLast?.elim 0 (·.data), bits p.dest 1 0⟩] ∧
      (let row := (t.ax.fifo.getLast?.elim 0 (·.data) : Row)
       (row.extractLsb' 0 32).toNat = n ∧ row.getLsbD (32 + k.val) = decide (k.val ∈ ents) ∧
       (row.extractLsb' 48 8).toNat = bank % 256 ∧ (row.extractLsb' 56 8).toNat = min 255 s.ax.dropped ∧
       (row.extractLsb' (64 + 16 * k.val) 16).toNat =
         (if k.val ∈ ents then (p.results.getD k.val (0, false, false)).1 % 65536 else 0) ∧
       row.getLsbD (320 + k.val) = (decide (k.val ∈ ents) && (p.results.getD k.val (0, false, false)).2.1))) ∧
    (passing → len ≤ i → ents ≠ [] → tstBit p.dest 4 = false → ∃ t, exec .axPassEnd s = .next t ∧ ended t ∧
      t.ax.fifo = s.ax.fifo ∧ t.ax.dropped = s.ax.dropped + 1 ∧
      t.fld Fld.AX_IMG_DROP_COUNT = min (s.fld Fld.AX_IMG_DROP_COUNT + 1) 65535) ∧
    (s.ax.passes = [] ∨ (passing ∧ i < len) → ∃ t, exec .axPassEnd s = .next t ∧ t = s) ∧
    (s.ax.fifo = [r] → stands → s.rowOpen r.dest = true →
      s.flag Fld.AX_SIG_EN = false → ∃ t, exec (.auxRowLanded waited) s = .next t ∧ BytesKept (bytesOfRow r.dest) s t ∧
      TagsKept [r.dest] s t ∧ t.tagged r.dest = true ∧ t.row r.dest = r.data ∧ RegsKept [Reg.SP_WAIT_CNT] s t ∧
      t.fld Fld.SP_WAIT_CNT_COUNT = min (s.fld Fld.SP_WAIT_CNT_COUNT + bit waited) 0xFFFFFFFF ∧
      t.ax = { s.ax with fifo := [] } ∧ t.nvm = s.nvm ∧ t.tiles = s.tiles) ∧
    (s.ax.fifo = [r] → stands → s.bankPowered (bankOf r.dest) = false →
      ∃ t, exec (.auxRowLanded waited) s = .next t ∧ MemoryKept s t ∧ t.ax.fifo = [] ∧
      Raised Reg.SP_ERR_STATUS Reg.SP_ERR_CODE 0x0404 t ∧
      t.fld Fld.AX_IMG_DROP_COUNT = min (s.fld Fld.AX_IMG_DROP_COUNT + 1) 65535) ∧
    (s.ax.fifo = [r] → ¬ stands → ∃ t, exec (.auxRowLanded waited) s = .next t ∧ MemoryKept s t ∧ t.ax.fifo = [] ∧
      RegsKept (Reg.AX_IMG_DROP :: raises) s t ∧ t.fld Fld.AX_IMG_DROP_COUNT = min (s.fld Fld.AX_IMG_DROP_COUNT + 1) 65535) ∧
    (s.ax.fifo = [] → ∃ t, exec (.auxRowLanded waited) s = .next t ∧ t = s) ∧
    (¬ busy → s.ax.calNext = false → ∃ t, exec .selfcal s = .next t ∧ MemoryKept s t ∧ RegsKept [Reg.AX_STATUS] s t ∧
      t.flag Fld.AX_STATUS_CAL_BUSY = s.ax.passes.isEmpty ∧ t.ax = { s.ax with calNext := !s.ax.passes.isEmpty }) ∧
    (busy ∨ s.ax.calNext = true → ∃ t, exec .selfcal s = .next t ∧ refused t) ∧
    (syscal → ¬ secret ∨ s.lifecycle = 0 → ∃ t, exec (if full then .syscalFull k else .syscalZero k) s = .next t ∧
      t = { s with regs := t.regs, ax := { s.ax with syscal := some (k.val, full) } } ∧ RegsKept [Reg.AX_STATUS] s t ∧
      t.flag Fld.AX_STATUS_CAL_BUSY = true) ∧
    (¬ syscal ∨ (secret ∧ s.lifecycle ≠ 0) → ∃ t, exec (if full then .syscalFull k else .syscalZero k) s = .next t ∧ refused t) ∧
    (self → inRange → ∃ t, exec (.selfcalDone sums) s = .next t ∧ MemoryKept s t ∧ t.ax = s.ax ∧
      RegsKept (calRegs ++ [Reg.AX_STATUS, Reg.AX_EVENT, Reg.CC_IRQ_PEND]) s t ∧ t.flag Fld.AX_STATUS_CAL_BUSY = false ∧
      t.flag Fld.AX_STATUS_CAL_VALID = true ∧ t.flag Fld.AX_EVENT_CAL_DONE = true ∧
      signed 16 (t.fld (Fld.AX_CAL_OFF_OFF g.val)) = (fs.getD g.val (0, 0)).1 ∧
      (t.fld (Fld.AX_CAL_GAIN_GAIN g.val) : Int) = (fs.getD g.val (0, 0)).2) ∧
    (self → ¬ inRange → ∃ t, exec (.selfcalDone sums) s = .next t ∧ MemoryKept s t ∧ RegsKept (Reg.AX_STATUS :: raises) s t ∧
      t.flag Fld.AX_STATUS_CAL_BUSY = false ∧ t.flag Fld.AX_STATUS_CAL_VALID = s.flag Fld.AX_STATUS_CAL_VALID ∧
      Raised Reg.AX_ERR_STATUS Reg.AX_ERR_CODE 0x0C04 t) ∧
    (¬ self → ∃ t, exec (.selfcalDone sums) s = .next t ∧ t = s) ∧
    (s.ax.syscal = some (k.val, false) → raw.length = 256 → ∃ t, exec (.syscalDone raw) s = .next t ∧ MemoryKept s t ∧
      RegsKept [Reg.AX_SYSCAL k.val, Reg.AX_STATUS, Reg.AX_EVENT, Reg.CC_IRQ_PEND] s t ∧ t.flag Fld.AX_STATUS_CAL_BUSY = false ∧
      t.ax = { s.ax with syscal := none } ∧ (t.fld (Fld.AX_SYSCAL_SOFF k.val) : Int) = roundDiv means 256 % 65536 ∧
      t.flag Fld.AX_EVENT_SYSCAL_DONE = true) ∧
    (s.ax.syscal = some (k.val, true) → raw.length = 256 → target ≠ 0 → 0x2000 ≤ gain → gain ≤ 0x8000 →
      ∃ t, exec (.syscalDone raw) s = .next t ∧ MemoryKept s t ∧ (t.fld (Fld.AX_SYSCAL_SGAIN k.val) : Int) = gain ∧
      t.fld (Fld.AX_SYSCAL_SOFF k.val) = s.fld (Fld.AX_SYSCAL_SOFF k.val) ∧ t.flag Fld.AX_EVENT_SYSCAL_DONE = true) ∧
    (s.ax.syscal = some (k.val, true) → raw.length = 256 → target = 0 ∨ gain < 0x2000 ∨ 0x8000 < gain →
      ∃ t, exec (.syscalDone raw) s = .next t ∧ MemoryKept s t ∧ t.reg (Reg.AX_SYSCAL k.val) = s.reg (Reg.AX_SYSCAL k.val) ∧
      Raised Reg.AX_ERR_STATUS Reg.AX_ERR_CODE 0x0C05 t) ∧
    (s.ax.syscal = none → ∃ t, exec (.syscalDone raw) s = .next t ∧ t = s)

/-- R493 to R496, Table 16.3: a waiting request that a refuser blocks is counted, named in PW_LAST_REFUSER and changes no
state; one for Trim caps the ceiling and one from Trim to Run removes the cap. -/
def Obligations.PowerRequestsDecided : Prop :=
  ∀ (s : State) (k : Fin 5) (src cause unit : Nat),
    let cmd : Instr := match k with
      | 0 => .leaveTrim
      | 1 => .enterTrim
      | 2 => .enterSkim
      | 3 => .enterDoze
      | 4 => .enterOff
    let waits := s.pw.entering = false ∧ s.flag Fld.PW_STATE_BUSY = false ∧ s.pw.request = some (k.val, src)
    (waits → src < 8 → k.val ≠ 0 → s.refuser k.val = some (cause, unit) →
      ∃ t, exec cmd s = .next t ∧ MemoryKept s t ∧ t.pw = { s.pw with request := none } ∧
        t.reg Reg.PW_STATE = s.reg Reg.PW_STATE ∧ t.fld Fld.PW_LAST_REFUSER_TARGET = k.val ∧
        t.fld Fld.PW_LAST_REFUSER_CAUSE = cause ∧ t.fld Fld.PW_LAST_REFUSER_UNIT = unit ∧
        t.fld Fld.PW_LAST_REFUSER_SOURCE = src ∧ t.fld (refuseCnt k.val) = min (s.fld (refuseCnt k.val) + 1) 0xFFFF ∧
        tstBit (t.reg Reg.LK_EVENT) 5 = true ∧ tstBit (t.reg Reg.HP_IRQ_STATUS) 5 = true) ∧
    (waits → k = 0 → ∃ t, exec cmd s = .next t ∧ MemoryKept s t ∧ t.power = 0 ∧ t.flag Fld.PW_STATE_BUSY = false ∧
      t.flag Fld.PW_STATUS_CEIL_TRIM = false ∧ t.pw.request = none ∧ t.tiles = s.tiles ∧ t.pw.avs = s.pw.avs) ∧
    (waits → k = 1 → s.refuser 1 = none → ∃ t, exec cmd s = .next t ∧ MemoryKept s t ∧ t.power = 1 ∧
      t.flag Fld.PW_STATE_BUSY = false ∧ t.flag Fld.PW_STATUS_CEIL_TRIM = true ∧ t.pw.request = none ∧ t.tiles = s.tiles ∧
      tstBit (t.reg Reg.CC_IRQ_PEND) 15 = true)

/-- R497, R500, R503: with no partition enabled, the sensor stopped and everything drained, a request that no refuser blocks
enters Skim with the request at V_floor, Doze with the scratchpad lost and the egress slots and queue kept, or the Off hold
with both outputs released; the LDO is then in low-power mode. -/
def Obligations.LowPowerEntriesComplete : Prop :=
  ∀ (s : State) (src : Nat),
    let still := s.pw.entering = false ∧ s.flag Fld.PW_STATE_BUSY = false ∧ s.reg Reg.SV_CTRL = 0 ∧ s.sensorStopped = true ∧
      s.csState ≠ 3 ∧ s.csState ≠ 4 ∧ s.pk.begun = false ∧ s.pk.quiesce = 0 ∧ s.heldStores = [] ∧ s.coresDrained = true ∧
        (∀ p : Fin 4, (s.partition p.val).toSuspend = false) ∧ s.anySkim = false
    let down := fun t : State => ScratchClear t ∧ t.nvm = s.nvm ∧ t.pins.vcoreEn = false ∧ t.eg.slots = s.eg.slots ∧
      t.eg.queue = s.eg.queue ∧ t.fld Fld.LK_STATUS_U_STATE = portClosed ∧ t.fld Fld.LK_STATUS_D_STATE = portClosed ∧
      t.flag Fld.PW_STATUS_LDO_NORMAL = false ∧ t.flag Fld.PW_STATE_BUSY = false ∧
      RangeKept 0x40000 0x78000 s t ∧ t.tiles = Vector.replicate 16 {}
    (still → s.pw.request = some (2, src) → s.refuser 2 = none → s.vFloor < 1024 →
      ∃ t, exec .enterSkim s = .next t ∧ MemoryKept s t ∧ t.power = 2 ∧ t.flag Fld.PW_STATE_BUSY = false ∧
        t.flag Fld.PW_STATUS_LDO_NORMAL = false ∧ t.fld Fld.TF_SUP_STATUS_REQ = s.vFloor ∧
        t.pw.heldRequest = s.fld Fld.TF_SUP_STATUS_REQ ∧ t.tiles = s.tiles ∧ t.eg = s.eg) ∧
    (still → s.pw.request = some (3, src) → s.refuser 3 = none → s.ax.passes = [] → s.fld mbState ≠ 2 →
      ∃ t, exec .enterDoze s = .next t ∧ down t ∧ t.power = 3 ∧
        t.time.refRuns = (s.flag Fld.LK_WAKE_CFG_PATTERN && s.time.refRuns)) ∧
    (still → s.pw.request = some (4, src) → s.refuser 4 = none → s.ax.passes = [] → s.fld mbState ≠ 2 →
      s.snagQueue = [] → s.mg.snagOps = [] →
      ∃ t, exec .enterOff s = .next t ∧ down t ∧ t.power = 4 ∧ t.time.refRuns = false ∧ t.outOn 0 = false ∧
        t.outOn 1 = false)

/-- R498, R501, R515, Tables 16.4 and 16.5: a held wake begins the exit from Skim with the request held at its entry, a state
request that still waits losing to it, and from Doze with the reference or VCORE_EN; the exit from Skim ends, its request
answered, in Run or Trim with CC_IRQ_PEND.PW, and the exit from Doze, every image read, in the state RESUME names. -/
def Obligations.WakesLeaveSkimAndDoze : Prop :=
  ∀ s : State,
    let ready := s.pw.entering = false ∧ s.pw.wake = true ∧ s.pw.exitStep = 0 ∧ s.flag Fld.PW_STATE_BUSY = false
    (s.power = 2 → ready → s.flag Fld.PW_AVS_STATUS_LOST = false → s.pw.avs.current = none → s.pw.heldRequest < 1024 →
      ∃ t, exec .wakeFromSkim s = .next t ∧ MemoryKept s t ∧ t.pw.exitStep = 2 ∧ t.pw.wake = false ∧
        t.flag Fld.PW_STATUS_LDO_NORMAL = true ∧ t.flag Fld.PW_STATE_BUSY = true ∧ t.power = 2 ∧
        t.pw.avs.current = some (s.pw.heldRequest, false) ∧ t.fld Fld.TF_SUP_STATUS_REQ = s.pw.heldRequest ∧ t.pw.request = none ∧
        (s.pw.request.isSome = true → Raised Reg.PW_ERR_STATUS Reg.PW_ERR_CODE 0x0D01 t)) ∧
    (s.power = 2 → s.pw.entering = false → s.pw.exitStep = 2 → s.pw.avs.current = none → s.anySkim = false →
      s.px.skim = false → s.px.skimNext = none → ∃ t, exec .wakeFromSkim s = .next t ∧ MemoryKept s t ∧
        t.power = (if s.fld Fld.PW_STATE_TARGET = 1 then 1 else 0) ∧ t.flag Fld.PW_STATE_BUSY = false ∧
        tstBit (t.reg Reg.CC_IRQ_PEND) 15 = true ∧ t.pw.exitStep = 0 ∧
        ∀ p : Fin 4, s.svEnabled p.val = true → s.suspended p.val = true →
          t.fld (Fld.SV_STATUS_STATE p.val) = svRunning ∧ (t.partition p.val).gap = true) ∧
    (s.power = 3 → ready → s.pw.restartEnd = 0 → s.boot.failed = none →
      ∃ t, exec .wakeFromDoze s = .next t ∧ MemoryKept s t ∧ t.pw.wake = false ∧ t.flag Fld.PW_STATUS_LDO_NORMAL = true ∧
        t.flag Fld.PW_STATE_BUSY = true ∧ t.power = 3 ∧ t.pw.exitStep = (if s.time.refRuns then 3 else 1) ∧
        t.pins.vcoreEn = (s.time.refRuns || s.pins.vcoreEn)) ∧
    (s.power = 3 → s.pw.entering = false → s.boot.failed = none → s.pw.exitStep = 6 → s.boot.toLoad = [] →
      s.boot.imageFailed = false → s.fld Fld.PW_STATE_TARGET < 2 →
      ∃ t, exec .wakeFromDoze s = .next t ∧ MemoryKept s t ∧ t.power = s.fld Fld.PW_STATE_TARGET ∧
        t.flag Fld.PW_STATUS_RESTART = false ∧ t.flag Fld.PW_STATE_BUSY = false ∧ t.pw.exitStep = 0 ∧
        tstBit (t.reg Reg.CC_IRQ_PEND) 15 = true)

/-- R507, R512, R513, Tables 16.8 and 16.10: the comparator of the LDO, the temperature samples with the warning's cap and its
hysteresis, and the undervoltages, each with its code; an undervoltage of VDD_CORE or VDD_MEM begins a supply restart,
which ends in the exit from Doze once its end condition holds. -/
def Obligations.MonitorsAndSupplyRestart : Prop :=
  ∀ (s : State) (pg : Bool) (a b c : Int),
    let warn : Int := s.fld Fld.PW_TEMP_WARN_DEGC
    let trip : Int := if s.fuses.grade = 0 then 118 else 133
    let hot := decide (warn ≤ a) || decide (warn ≤ b) || decide (warn ≤ c)
    let up := s.boot.step = 17 ∧ s.boot.stopped = false ∧ s.boot.failed = none
    let restarted := fun t : State => t.power = 3 ∧ t.flag Fld.PW_STATUS_RESTART = true ∧ ScratchClear t ∧
      t.nvm = s.nvm ∧ t.pins.vcoreEn = false ∧ t.flag Fld.PW_STATE_BUSY = false ∧ t.eg.slots = s.eg.slots
    (s.flag Fld.PW_STATUS_LDO_NORMAL = false → ∃ t, exec .ldoHigh s = .next t ∧ OnlyRegs [Reg.PW_STATUS,
      Reg.PW_ERR_STATUS, Reg.PW_ERR_CODE, Reg.CC_IRQ_PEND] s t ∧ t.flag Fld.PW_STATUS_LDO_NORMAL = true ∧
      Raised Reg.PW_ERR_STATUS Reg.PW_ERR_CODE 0x0D06 t) ∧
    (s.power < 3 → a < trip → b < trip → c < trip → ∃ t, exec (.tempSample a b c) s = .next t ∧ MemoryKept s t ∧
      t.power = s.power ∧ t.pw.temps = [a, b, c] ∧
      bits (t.reg Reg.PW_MON_STATUS) 10 8 = bit (decide (warn ≤ a)) + 2 * bit (decide (warn ≤ b)) + 4 * bit (decide (warn ≤ c)) ∧
      t.flag Fld.PW_STATUS_CEIL_THERM = (hot || (s.flag Fld.PW_STATUS_CEIL_THERM &&
        !(decide (a + 5 < warn) && decide (b + 5 < warn) && decide (c + 5 < warn)))) ∧
      (hot = true → s.flag Fld.PW_STATUS_CEIL_THERM = false → Raised Reg.PW_ERR_STATUS Reg.PW_ERR_CODE 0x0D0B t)) ∧
    (up → s.power < 3 → s.pw.restartEnd = 0 → (trip ≤ a ∨ trip ≤ b ∨ trip ≤ c) →
      s.flag Fld.PW_STATUS_RESTART = false →
      ∃ t, exec (.tempSample a b c) s = .next t ∧ restarted t ∧ t.pw.restartEnd = 4 ∧
        tstBit (t.reg Reg.PW_ERR_STATUS) 11 = true) ∧
    (up → s.power < 3 → s.flag Fld.PW_STATUS_RESTART = false → s.pw.restartEnd = 0 →
      ∃ t, exec (.vddCoreUv pg) s = .next t ∧ restarted t ∧ t.pw.restartEnd = 1 ∧
        tstBit (t.reg Reg.PW_MON_STATUS) (if pg then 3 else 0) = true ∧ tstBit (t.reg Reg.PW_ERR_STATUS) 8 = true) ∧
    (up → s.power < 3 → s.flag Fld.PW_STATUS_RESTART = false → s.pw.restartEnd = 0 →
      ∃ t, exec .vddMemUv s = .next t ∧ restarted t ∧ t.pw.restartEnd = 2 ∧ t.pins.vddMemGood = false ∧
        tstBit (t.reg Reg.PW_MON_STATUS) 1 = true ∧ tstBit (t.reg Reg.PW_ERR_STATUS) 7 = true) ∧
    (s.power < 3 → ∃ t, exec .vddPixaUv s = .next t ∧ t.px.supplyGood = false ∧ t.px.exposing = false ∧
      tstBit (t.reg Reg.PW_MON_STATUS) 2 = true ∧ tstBit (t.reg Reg.PW_ERR_STATUS) 9 = true ∧
      tstBit (t.reg Reg.PX_ERR_STATUS) 6 = true ∧ t.power = s.power ∧ t.nvm = s.nvm) ∧
    (s.flag Fld.PW_STATUS_RESTART = true → s.pw.restartEnd = 1 → s.power = 3 → s.pw.entering = false →
      s.boot.failed = none → s.pw.exitStep = 0 → s.flag Fld.PW_STATE_BUSY = false →
      ∃ t, exec (.supplyRestartEnd 1) s = .next t ∧ MemoryKept s t ∧ t.pw.restartEnd = 0 ∧ t.pw.wake = false ∧
        t.flag Fld.PW_STATE_BUSY = true ∧ t.pw.exitStep = (if s.time.refRuns then 3 else 1))

/-- R522 to R526, R533 to R535, R544, Tables 17.1 to 17.3: DOORBELL from the owner makes the mailbox BUSY; each command the
mailbox holds is answered in its response area with the state DONE, MBOX on both paths and CC_IRQ_PEND.BLOCK[8], one outside
its limits with MG_MBOX_CMD; updates open, erase, program, finish and end as their commands say, for their owner alone. -/
def Obligations.MailboxServesRequests : Prop :=
  ∀ (s : State) (r : Requester) (v : Word) (status res0 res1 : Nat) (payload : List Byte) (j : Fin 10),
    let busy := s.fld mbState = 2
    let room := s.snagQueue.length < 64
    let off := s.mbArg 0
    let len := s.mbArg 1
    let updState := s.fld Fld.MG_UPD_STATUS_STATE
    let mine := s.fld Fld.MG_UPD_STATUS_OWNER = s.fld mbOwner
    let answerRegs := [mbStateReg, Reg.LK_EVENT, Reg.HP_IRQ_STATUS, Reg.CC_IRQ_PEND]
    let mgRegs := [Reg.MG_ERR_STATUS, Reg.MG_ERR_CODE]
    let answered := fun (t : State) (code r0 r1 : Nat) (bs : List Byte) =>
      t.fld mbState = 3 ∧ t.mb 0x800 2 = code ∧ t.mb 0x802 2 = bs.length ∧ t.mb 0x804 2 = s.mb 4 2 ∧ t.mb 0x808 4 = r0 ∧
        t.mb 0x80C 4 = r1 ∧ t.mbBytes 0x810 bs.length = bs ∧ t.mbBytes 0 0x800 = s.mbBytes 0 0x800 ∧
        tstBit (t.reg Reg.LK_EVENT) 2 = true ∧ tstBit (t.reg Reg.HP_IRQ_STATUS) 2 = true ∧
        tstBit (t.reg Reg.CC_IRQ_PEND) 8 = true
    let limits : List (Instr × Nat × Bool × Bool) := [(.mboxInfo, 0x0001, true, s.mbLen == 0),
      (.snagRead, 0x0010, true, s.mbLen == 0 && off < 4096 && 1 ≤ len && len ≤ 63), (.updBegin, 0x0020, true, s.mbLen == 0),
      (.updData, 0x0021, true, 16 ≤ s.mbLen && s.mbLen ≤ 2032 && s.mbLen % 16 == 0 && off % 16 == 0),
      (.updFinish, 0x0022, true, s.mbLen == 0), (.updAbort, 0x0023, true, s.mbLen == 0),
      (.arbAdvance, 0x0024, false, s.mbLen == 0), (.keyRevoke, 0x0031, false, s.mbLen == 64 && off < 4),
      (.policyProgram, 0x0032, false, s.mbLen == 0), (.reset, 0x0050, true, s.mbLen == 0 && off == 0x5352)]
    let at' := fun k : Nat => s.snagEntry ((s.fld Fld.MG_SNAG_WP_WP + 8191 - off - k) % 4096)
    let check := s.updVerify (s.reg Reg.MG_UPD_OFFSET).toNat (s.reg Reg.MG_UPD_LEN).toNat len
    let cmd := limits.getD j.val (.mboxInfo, 0x0001, true, true)
    let refused := fun (t : State) => answered t 0x0E07 0 0 [] ∧ (room → Raised Reg.MG_ERR_STATUS Reg.MG_ERR_CODE 0x0E07 t) ∧
      MemoryKept s t ∧ t.mg.updOps = s.mg.updOps ∧ t.fld Fld.MG_UPD_STATUS_STATE = updState
    (s.fld mbState = 1 → s.mbOwns r = true → tstBit v 0 = true → ∃ t, exec (.mboxDoorbell r v) s = .next t ∧
      OnlyRegs [mbStateReg] s t ∧ t.fld mbState = 2 ∧ t.fld mbOwner = s.fld mbOwner ∧ t.fld mbCore = s.fld mbCore) ∧
    (busy ∨ (s.fld mbState = 1 ∧ s.mbOwns r = false) → ∃ t, exec (.mboxDoorbell r v) s = .next t ∧ OnlyRegs mgRegs s t ∧
      Raised Reg.MG_ERR_STATUS Reg.MG_ERR_CODE 0x0E05 t) ∧
    (∃ t, exec .mboxFillTimeout s = .next t ∧ OnlyRegs [mbStateReg] s t ∧
      t.fld mbState = (if s.fld mbState = 1 then 0 else s.fld mbState)) ∧
    (busy → s.mbCmd = cmd.2.1 → cmd.2.2.2 = false ∨ (s.safeHalt = true ∧ cmd.2.2.1 = false) →
      ∃ t, exec cmd.1 s = .next t ∧ MemoryKept s t ∧ answered t 0x0E06 0 0 [] ∧ RegsKept (answerRegs ++ mgRegs) s t ∧
        Raised Reg.MG_ERR_STATUS Reg.MG_ERR_CODE 0x0E06 t ∧ t.fuses = s.fuses ∧ t.mg.job = s.mg.job) ∧
    (busy → s.mbCmd = 0x0001 → s.mbLen = 0 → ∃ t, exec .mboxInfo s = .next t ∧ MemoryKept s t ∧ RegsKept answerRegs s t ∧
      answered t 0 0 0 (toLe 4 (s.reg Reg.MG_STATUS).toNat ++ toLe 4 (s.reg Reg.MG_FW_VERSION).toNat ++
        toLe 4 s.boot.clusterVersion ++ toLe 4 (s.reg Reg.SYS_BOOT_STATUS).toNat ++
        toLe 4 (s.reg Reg.SYS_BOOT_SLOTS).toNat ++ toLe 1 s.lifecycle ++ toLe 1 s.fuses.arb ++ toLe 2 s.keyState ++
        toLe 4 (s.reg Reg.MG_SNAG_WP).toNat ++ toLe 4 (s.reg Reg.MG_UPD_STATUS).toNat)) ∧
    (busy → s.mbCmd = 0x0010 → s.mbLen = 0 → off < 4096 → 1 ≤ len → len ≤ 63 →
      ∃ t, exec .snagRead s = .next t ∧ MemoryKept s t ∧ RegsKept answerRegs s t ∧ t.fld mbState = 3 ∧
        t.mb 0x800 2 = 0 ∧ t.mb 0x808 4 ≤ len ∧ t.mb 0x80C 4 = (s.reg Reg.MG_SNAG_WP).toNat ∧
        t.mb 0x802 2 = 32 * t.mb 0x808 4 ∧
        (∀ k : Fin 63, k.val < t.mb 0x808 4 → t.mbBytes (0x810 + 32 * k.val) 32 = at' k.val ∧
          snagErased (at' k.val) = false) ∧
        (t.mb 0x808 4 < len → off + t.mb 0x808 4 = 4096 ∨ snagErased (at' (t.mb 0x808 4)) = true)) ∧
    (busy → s.mbCmd = 0x0050 → s.mbLen = 0 → off = 0x5352 → s.mg.current = none → ∃ t, exec .reset s = .next t ∧ MemoryKept s t ∧
      t.boot.step = 1 ∧ t.fld Fld.SYS_RESET_CAUSE_CAUSE = causeSoftware ∧ t.reg mbStateReg = RegMap.resetValue mbStateReg ∧
      t.fuses = s.fuses) ∧
    (busy → 0x8000 ≤ s.mbCmd → s.flag Fld.MG_STATUS_FW = true → s.safeHalt = false → payload.length ≤ 2016 →
      status < 2 ^ 16 → res0 < 2 ^ 32 → res1 < 2 ^ 32 →
      ∃ t, exec (.mboxFirmwareCmd status res0 res1 payload) s = .next t ∧ MemoryKept s t ∧ RegsKept answerRegs s t ∧
        answered t status res0 res1 payload) ∧
    (busy → 0x8000 ≤ s.mbCmd → s.flag Fld.MG_STATUS_FW = false ∨ s.safeHalt = true →
      ∃ t, exec (.mboxFirmwareCmd status res0 res1 payload) s = .next t ∧ MemoryKept s t ∧ answered t 0x0E06 0 0 [] ∧
        Raised Reg.MG_ERR_STATUS Reg.MG_ERR_CODE 0x0E06 t) ∧
    (busy → s.mbCmd = 0x0020 → s.mbLen = 0 → updState = 1 ∨ updState = 2 ∨ updState = 3 ∨ s.updSlotOk off len = false →
      ∃ t, exec .updBegin s = .next t ∧ refused t) ∧
    (busy → s.mbCmd = 0x0020 → s.mbLen = 0 → ¬(1 ≤ updState ∧ updState ≤ 3) → s.updSlotOk off len = true →
      s.mg.current ≠ some false → ∃ t, exec .updBegin s = .next t ∧ MemoryKept s t ∧ t.fld Fld.MG_UPD_STATUS_STATE = 1 ∧
        t.fld Fld.MG_UPD_STATUS_OWNER = s.fld mbOwner ∧ t.reg Reg.MG_UPD_OFFSET = word off ∧ t.reg Reg.MG_UPD_LEN = word len ∧
        t.mg.programmed = [] ∧ t.fld mbState = 2 ∧ (t.mg.updOps.map (·.erase)).sum = len ∧
        (t.mg.updOps.map (·.addr)).head? = some off ∧ t.mg.current.isSome = true ∧
        RegsKept [Reg.MG_UPD_STATUS, Reg.MG_UPD_OFFSET, Reg.MG_UPD_LEN, Reg.MG_STATUS] s t) ∧
    (busy → s.mbCmd = 0x0021 → 16 ≤ s.mbLen → s.mbLen ≤ 2032 → s.mbLen % 16 = 0 → off % 16 = 0 →
      updState ≠ 2 ∨ ¬mine ∨ (off + s.mbLen ≤ (s.reg Reg.MG_UPD_LEN).toNat ∧
        s.mg.programmed.any (fun p => overlap off s.mbLen p.1 p.2) = true) → ∃ t, exec .updData s = .next t ∧ refused t) ∧
    (busy → s.mbCmd = 0x0021 → 16 ≤ s.mbLen → s.mbLen ≤ 2032 → s.mbLen % 16 = 0 → off % 16 = 0 → updState = 2 → mine →
      off + s.mbLen ≤ (s.reg Reg.MG_UPD_LEN).toNat →
      s.mg.programmed.any (fun p => overlap off s.mbLen p.1 p.2) = false → s.mg.current = none →
      ∃ t, exec .updData s = .next t ∧ MemoryKept s t ∧ t.fld mbState = 2 ∧ t.mg.programmed = s.mg.programmed ++ [(off,
        s.mbLen)] ∧
        t.mg.updOps.flatMap (·.data) = s.mbData ∧
        (t.mg.updOps.map (·.addr)).head? = some ((s.reg Reg.MG_UPD_OFFSET).toNat + off) ∧
        t.mg.updOps.all (fun o => o.addr % 256 + o.data.length ≤ 256) = true ∧
        t.flag Fld.MG_STATUS_NVM_BUSY = true ∧ RegsKept [Reg.MG_STATUS] s t) ∧
    (busy → s.mbCmd = 0x0022 → s.mbLen = 0 → updState ≠ 2 ∨ ¬mine → ∃ t, exec .updFinish s = .next t ∧ refused t) ∧
    (busy → s.mbCmd = 0x0022 → s.mbLen = 0 → updState = 2 → mine → len ≤ (s.reg Reg.MG_UPD_LEN).toNat →
      ∃ t, exec .updFinish s = .next t ∧ MemoryKept s t ∧ t.mg.programmed = [] ∧
        (check.2 = none → t.fld Fld.MG_UPD_STATUS_STATE = 4 ∧ answered t 0 check.1 0 []) ∧
        (∀ c ∈ check.2, t.fld Fld.MG_UPD_STATUS_STATE = 5 ∧ answered t 0x0E08 0 c [] ∧
          (room → Raised Reg.MG_ERR_STATUS Reg.MG_ERR_CODE 0x0E08 t)) ∧
        (room → (t.snagQueue.map (fun e => (e.kind, e.arg))) =
          s.snagQueue.map (fun e => (e.kind, e.arg)) ++ [(5, s.reg Reg.MG_UPD_OFFSET)])) ∧
    (busy → s.mbCmd = 0x0023 → s.mbLen = 0 → 1 ≤ updState → updState ≤ 3 → mine → s.mg.current = none →
      ∃ t, exec .updAbort s = .next t ∧ MemoryKept s t ∧ t.fld Fld.MG_UPD_STATUS_STATE = 6 ∧ t.mg.updOps = [] ∧
        answered t 0 0 0 [] ∧ RegsKept (Reg.MG_UPD_STATUS :: answerRegs) s t) ∧
    (busy → s.mbCmd = 0x0023 → s.mbLen = 0 → updState = 0 ∨ 4 ≤ updState ∨ ¬mine →
      ∃ t, exec .updAbort s = .next t ∧ refused t) ∧
    (∃ t, exec .updTimeout s = .next t ∧ MemoryKept s t ∧
      (¬ busy ∨ s.mg.updOps = [] → RegsKept [Reg.MG_UPD_STATUS] s t ∧ t.fld mbState = s.fld mbState) ∧
      (busy → s.mbCmd = 0x0020 ∨ s.mbCmd = 0x0021 → s.mg.updOps ≠ [] → s.mg.current ≠ some false → 1 ≤ updState → updState ≤ 3 →
        answered t 0 0 0 []) ∧
      t.fld Fld.MG_UPD_STATUS_STATE = (if 1 ≤ updState ∧ updState ≤ 3 then 6 else updState) ∧
      (s.mg.current = none → 1 ≤ updState → updState ≤ 3 → t.mg.updOps = []))

/-- R523, R529 to R531, R536 to R538, R542, Table 17.8: the oldest queued entry is programmed at the write point, after an
erase of its sector where it starts one; an operation changes the NVM when it ends and moves the write point, or is given up
with MG_NVM_PROG; a fuse program starts where its conditions hold, refuses by its code, and sets its fuses when it is done;
the watchdog resets the device while firmware runs and is served by the KEY of the management core alone. -/
def Obligations.NvmFusesAndWatchdog : Prop :=
  ∀ (s : State) (r : Requester) (v : Word) (slot : Fin 4) (left : List Byte) (ok : Bool) (part : Nat) (e : SnagEntry)
    (o : NvmOp) (job : FuseJob) (k : Fin 5) (m : Fin 3),
    let busy := s.fld mbState = 2
    let room := s.snagQueue.length < 64
    let w := s.fld Fld.MG_SNAG_WP_WP
    let c := s.fld Fld.MG_SNAG_WP_PASS
    let arg := s.reg Reg.FZ_PROG_ARG
    let early := s.lifecycle = 0 ∨ s.lifecycle = 1
    let others := (List.range 4).any (fun i => i != slot.val && s.fuses.usable i)
    let started := fun (t : State) (op n : Nat) (value : BitVec 256) (mailbox : Bool) =>
      t.mg.job = some ⟨op, n, value, mailbox⟩ ∧ t.flag Fld.FZ_PROG_STATUS_BUSY = true ∧ t.fuses = s.fuses ∧ MemoryKept s t ∧
        RegsKept [Reg.FZ_PROG_STATUS] s t
    let refused := fun (t : State) (code : Nat) =>
      t.mg.job = s.mg.job ∧ t.fuses = s.fuses ∧ MemoryKept s t ∧ t.fld Fld.FZ_PROG_STATUS_CODE = code ∧
        t.flag Fld.FZ_PROG_STATUS_FAIL = true ∧ (code / 256 = 0x10 → Raised Reg.FZ_ERR_STATUS Reg.FZ_ERR_CODE code t)
    let fz := fun (code : Option Nat) (t : State) (op n : Nat) (value : BitVec 256) =>
      (code = none → started t op n value false) ∧ ∀ x ∈ code, refused t x
    let cmds : List (Nat × Instr) := [(1, .fzProgKey r slot), (2, .fzProgRevoke r slot), (3, .fzProgArb r),
      (4, .fzProgPolicy r), (5, .pseudoGen r)]
    let queries : List (Nat × Instr) := [(0x0030, .keyProgram), (0x0031, .keyRevoke), (0x0032, .policyProgram)]
    let query := queries.getD m.val (0x0032, .policyProgram)
    let isErase := decide (o.erase ≠ 0)
    let lost := [Reg.MG_STATUS, Reg.MG_SNAG_WP] ++ snagRegs
    (s.snagQueue.head? = some e → s.mg.snagOps = [] → s.mg.current = none → ∃ t, exec .snagEntryWrite s = .next t ∧
      MemoryKept s t ∧ t.mg.current = some true ∧ t.flag Fld.MG_STATUS_NVM_BUSY = true ∧ t.snagQueue = s.snagQueue ∧
      RegsKept [Reg.MG_STATUS] s t ∧ t.mg.snagOps = (if w % 128 = 0 then [⟨0x30000 + 32 * w, 4096, []⟩] else []) ++
        [⟨0x30000 + 32 * w, 0, snagBytes c e⟩]) ∧
    (s.snagQueue = [] → ∃ t, exec .snagEntryWrite s = .next t ∧ t = s) ∧
    (s.mg.current = some true → s.mg.snagOps = [o] → o.erase = 0 →
      ((s.nvmBytes o.addr o.data.length).zip o.data).all (fun p => p.1 &&& p.2 == p.2) = true → s.mg.lostDue = 0 →
      s.mg.updOps = [] → ∃ t, exec .writeInProgressClear s = .next t ∧ t.mem = s.mem ∧ t.nvmBytes o.addr o.data.length = o.data ∧
      (∀ i : Fin 32, t.nvmBytes (o.addr + o.data.length + i) 1 = s.nvmBytes (o.addr + o.data.length + i) 1) ∧
      t.snagQueue = s.snagQueue.drop 1 ∧ t.mg.current = none ∧ t.flag Fld.MG_STATUS_NVM_BUSY = false ∧
      t.fld Fld.MG_SNAG_WP_WP = (if w = 4095 then 0 else w + 1) ∧
      t.fld Fld.MG_SNAG_WP_PASS = (if w = 4095 then (c + 1) % 65536 else c) ∧
      RegsKept [Reg.MG_STATUS, Reg.MG_SNAG_WP, Reg.MG_SNAG_QUEUE] s t) ∧
    (s.mg.current = some false → s.mg.updOps = [o] → o.erase ≠ 0 → s.mg.snagOps = [] → s.fld Fld.MG_UPD_STATUS_STATE = 1 →
      busy → s.mbCmd = 0x0020 → ∃ t, exec .writeInProgressClear s = .next t ∧ t.mem = s.mem ∧
      t.nvmBytes o.addr o.erase = List.replicate o.erase 0xFF#8 ∧ t.mg.current = none ∧ t.mg.updOps = [] ∧
      t.fld Fld.MG_UPD_STATUS_STATE = 2 ∧ t.fld mbState = 3 ∧ t.mb 0x800 2 = 0) ∧
    (s.mg.current = some true → s.mg.snagOps.head? = some o → s.mg.updOps = [] → s.snagQueue ≠ [] →
      left.length = (if isErase then o.erase else o.data.length) → s.snagQueue.length ≤ 64 → s.mg.lostDue < 65535 →
      ∃ t, exec (.mgNvmProg left) s = .next t ∧
      t.mem = s.mem ∧ t.nvmBytes o.addr left.length = left ∧ t.mg.snagOps = [] ∧ t.mg.current = none ∧
      RegsKept lost s t ∧ tstBit (t.reg Reg.MG_ERR_STATUS) 8 = true ∧ tstBit (t.reg Reg.MG_ERR_STATUS) 10 = true ∧
      (s.snagQueue.length < 60 → t.fld Fld.MG_SNAG_LOST_COUNT = min (s.fld Fld.MG_SNAG_LOST_COUNT + 1) 65535 ∧
        (isErase = true → t.fld Fld.MG_SNAG_WP_WP = w) ∧ t.snagQueue.getLast?.map (·.kind) = some 3)) ∧
    (s.mg.current = some false → s.mg.updOps.head? = some o → s.mg.snagOps = [] → busy → s.mbCmd = 0x0021 →
      s.fld Fld.MG_UPD_STATUS_STATE = 2 → left.length = (if isErase then o.erase else o.data.length) →
      ∃ t, exec (.mgNvmProg left) s = .next t ∧ t.mem = s.mem ∧ t.nvmBytes o.addr left.length = left ∧ t.mg.updOps = [] ∧
        t.fld Fld.MG_UPD_STATUS_STATE = 5 ∧ t.fld mbState = 3 ∧ t.mb 0x800 2 = 0x0E09) ∧
    (s.fzWriter r = false → ∃ t, exec (cmds.getD k.val (5, .pseudoGen r)).2 s = .next t ∧ t.mg.job = s.mg.job ∧
      t.fuses = s.fuses ∧ MemoryKept s t ∧ (r ≠ .debug → t = s) ∧
      (r = .debug → room → Raised Reg.MG_ERR_STATUS Reg.MG_ERR_CODE 0x0E0D t)) ∧
    (s.fzWriter r = true → s.mg.job = none → ∃ t, exec (.fzProgKey r slot) s = .next t ∧
      fz (if early ∧ s.fuses.programmed slot = false then (if s.lifecycle = 1 ∧ s.authOk (some slot.val)
          (s.uidBytes ++ asciiBytes "KEY" ++ toLe 1 slot ++ toLe 32 s.fzDigest.toNat) s.fzAuth = false then some 0x1003 else none)
        else some 0x1001) t 1 slot s.fzDigest) ∧
    (s.fzWriter r = true → s.mg.job = none → ∃ t, exec (.fzProgRevoke r slot) s = .next t ∧
      fz (if s.inService = true ∧ s.fuses.programmed slot = true then (if others = false then some 0x1004
          else if s.authOk (some slot.val) (s.uidBytes ++ asciiBytes "REVOKE" ++ toLe 1 slot) s.fzAuth = false then some 0x1003
          else none)
        else some 0x1001) t 2 slot 0) ∧
    (s.fzWriter r = true → s.mg.job = none → ∃ t, exec (.fzProgPolicy r) s = .next t ∧
      fz (if early then (if arg &&& s.fuses.policy = s.fuses.policy ∧ arg &&& ~~~0x017F7F7F#32 = 0 then none else some 0x1004)
        else some 0x1001) t 4 0 (arg.setWidth 256)) ∧
    (s.fzWriter r = true → s.mg.job = none → s.inService = true → s.arbOk arg.toNat = true →
      ∃ t, exec (.fzProgArb r) s = .next t ∧ started t 3 0 (arg.setWidth 256) false) ∧
    (s.fzWriter r = true → s.mg.job = none → s.inService = false → ∃ t, exec (.fzProgArb r) s = .next t ∧ refused t 0x1001) ∧
    (s.fzWriter r = true → s.mg.job = none → early → s.fuses.pseudo = none → ∃ t, exec (.pseudoGen r) s = .next t ∧
      started t 5 0 (Config.entropy s.freeIdx) false) ∧
    (busy → s.mbCmd = 0x0024 → s.mbLen = 0 → s.safeHalt = false → s.mg.job = none → ∃ t, exec .arbAdvance s = .next t ∧
      (s.arbOk (s.mbArg 0) = true → started t 3 0 (BitVec.ofNat 256 (s.mbArg 0)) true ∧ t.fld mbState = 2) ∧
      (s.arbOk (s.mbArg 0) = false → t.fuses = s.fuses ∧ t.mg.job = none ∧ t.fld mbState = 3 ∧ t.mb 0x800 2 = 0x0E0A ∧
        t.mb 0x808 4 = s.fuses.arb % 2 ^ 32 ∧
        (room → Raised Reg.MG_ERR_STATUS Reg.MG_ERR_CODE 0x0E0A t))) ∧
    (busy → s.mbCmd = 0x0030 → s.lifecycle = 0 → s.mbLen = 32 → s.mbArg 0 = slot.val → s.safeHalt = false → s.mg.job = none →
      s.fuses.programmed slot = false → ∃ t, exec .keyProgram s = .next t ∧
      started t 1 slot (BitVec.ofNat 256 (le s.mbData 0 32)) true ∧ t.fld mbState = 2) ∧
    (busy → s.mbCmd = 0x0032 → s.mbLen = 0 → s.safeHalt = false → s.mg.job = none → early →
      word (s.mbArg 0) &&& s.fuses.policy = s.fuses.policy → word (s.mbArg 0) &&& ~~~0x017F7F7F#32 = 0 →
      ∃ t, exec .policyProgram s = .next t ∧ started t 4 0 (BitVec.ofNat 256 (s.mbArg 0)) true ∧ t.fld mbState = 2) ∧
    (busy → s.mbCmd = 0x0031 → s.mbLen = 64 → s.mbArg 0 = slot.val → s.safeHalt = false → s.mg.job = none → s.inService = true →
      s.fuses.programmed slot = true → others = true → ∃ t, exec .keyRevoke s = .next t ∧
      (if s.authOk (some slot.val) (s.uidBytes ++ asciiBytes "REVOKE" ++ toLe 1 slot) s.mbData = true
        then started t 2 slot 0 true ∧ t.fld mbState = 2
        else refused t 0x1003 ∧ t.fld mbState = 3 ∧ t.mb 0x800 2 = 0x1003)) ∧
    (busy → s.mbCmd = query.1 → s.mg.job = none → s.safeHalt = false → s.lifecycle = 7 → s.mbArg 0 < 4 →
      s.mbLen = (if m = 0 then 32 else if m = 1 then 64 else 0) → ∃ t, exec query.2 s = .next t ∧ refused t 0x1001 ∧
      t.fld mbState = 3 ∧ t.mb 0x800 2 = 0x1001) ∧
    (s.mg.job = some job → job.op < 6 → 1 ≤ job.op → job.mailbox = false → job.slot < 4 → s.fuses.keys.length = 4 →
      s.fuses.revoked.length = 4 → s.fuses.arb ≤ 64 → ∃ t, exec (.fuseProgramDone ok part) s = .next t ∧
      MemoryKept s t ∧ t.mg.job = none ∧ t.flag Fld.FZ_PROG_STATUS_BUSY = false ∧
      (ok = true → t.flag Fld.FZ_PROG_STATUS_DONE = true ∧ (job.op = 1 → t.fuses.keys.getD job.slot none = some job.value) ∧
        (job.op = 2 → t.fuses.revoked.getD job.slot false = true) ∧ (job.op = 3 → t.fuses.arb = job.value.toNat) ∧
        (job.op = 4 → t.fuses.frameCut = (s.fuses.frameCut ||| job.value.toNat % 128)) ∧
        (job.op = 5 → t.fuses.pseudo = some job.value)) ∧
      (ok = false → t.flag Fld.FZ_PROG_STATUS_FAIL = true ∧ Raised Reg.FZ_ERR_STATUS Reg.FZ_ERR_CODE 0x1002 t ∧
        (job.op ≠ 3 → job.op ≠ 4 → t.fuses = s.fuses) ∧ (job.op = 3 → s.fuses.arb ≤ job.value.toNat →
          s.fuses.arb ≤ t.fuses.arb ∧ t.fuses.arb ≤ job.value.toNat))) ∧
    (∃ t, exec (.mgWdtKick r v) s = .next t ∧ t = (if r = .mgmt ∧ bits v 15 0 = 0x4D47
      then { s with boot := { s.boot with mgWdtFrom := s.localNs } } else s)) ∧
    (s.flag Fld.MG_STATUS_FW = true → s.power < 3 → s.mg.current = none → ∃ t, exec .mgWdt s = .next t ∧ MemoryKept s t ∧
      t.boot.step = 1 ∧
      t.fld Fld.SYS_RESET_CAUSE_CAUSE = causeWatchdog ∧ t.boot.held.any (fun h => h.code == 0x0E0E) = true) ∧
    (s.flag Fld.MG_STATUS_FW = false ∨ 3 ≤ s.power → ∃ t, exec .mgWdt s = .next t ∧ t = s)
end

