-- ==== Sys2Proof/Laws/Sparse.lean ====
section
/-! SUPPORT. Laws of the sparse maps: reading after writing, and that every operation keeps the canonical form. -/

namespace Sys2Proof.Machine

variable {α : Type}

/-! ## Reading after writing -/

theorem Sparse.get_erase (d : Nat → α) (m : List (Nat × α)) (k j : Nat) :
    Sparse.get d (Sparse.erase k m) j = if j = k then d j else Sparse.get d m j := by
  induction m with
  | nil => simp [Sparse.erase, Sparse.get]
  | cons e m ih =>
    obtain ⟨a, v⟩ := e
    by_cases h : a = k <;> by_cases h2 : a = j <;> simp_all [Sparse.erase, Sparse.get]

theorem Sparse.get_insert (d : Nat → α) (m : List (Nat × α)) (k j : Nat) (v : α) (hk : ∀ e ∈ m, e.1 ≠ k) :
    Sparse.get d (Sparse.insert k v m) j = if j = k then v else Sparse.get d m j := by
  induction m with
  | nil =>
    by_cases h : k = j
    · simp [Sparse.insert, Sparse.get, h]
    · simp [Sparse.insert, Sparse.get, h, Ne.symm h]
  | cons e m ih =>
    obtain ⟨a, w⟩ := e
    have ha : a ≠ k := hk (a, w) (by simp)
    have ih := ih (fun e he => hk e (by simp [he]))
    rw [Sparse.insert]
    by_cases h : k < a
    · rw [if_pos h, Sparse.get]
      by_cases h2 : k = j
      · simp [h2]
      · rw [if_neg h2, if_neg (Ne.symm h2)]
    · rw [if_neg h, Sparse.get, ih, Sparse.get]
      by_cases h3 : a = j
      · rw [if_pos h3, if_pos h3, if_neg (by omega)]
      · rw [if_neg h3, if_neg h3]

theorem Sparse.mem_erase (m : List (Nat × α)) (k : Nat) (e : Nat × α) :
    e ∈ Sparse.erase k m ↔ e ∈ m ∧ e.1 ≠ k := by
  induction m with
  | nil => simp [Sparse.erase]
  | cons x m ih =>
    obtain ⟨a, v⟩ := x
    by_cases h : a = k
    · simp only [Sparse.erase, h, if_true, ih, List.mem_cons]
      constructor
      · rintro ⟨h1, h2⟩; exact ⟨.inr h1, h2⟩
      · rintro ⟨h1 | h1, h2⟩
        · exact absurd (by rw [h1]) h2
        · exact ⟨h1, h2⟩
    · simp only [Sparse.erase, h, if_false, ih, List.mem_cons]
      constructor
      · rintro (h1 | ⟨h1, h2⟩)
        · exact ⟨.inl h1, by rw [h1]; exact h⟩
        · exact ⟨.inr h1, h2⟩
      · rintro ⟨h1 | h1, h2⟩
        · exact .inl h1
        · exact .inr ⟨h1, h2⟩

/-- A read after a write to the same key gives the value written; every other key reads as before. -/
theorem Sparse.get_put [DecidableEq α] (d : Nat → α) (m : List (Nat × α)) (k j : Nat) (v : α) :
    Sparse.get d (Sparse.put d k v m) j = if j = k then v else Sparse.get d m j := by
  unfold Sparse.put
  split
  · rename_i h; rw [Sparse.get_erase]; split
    · simp_all
    · rfl
  · rw [Sparse.get_insert d _ k j v (fun e he => ((Sparse.mem_erase m k e).1 he).2), Sparse.get_erase]
    split <;> simp_all

theorem Sparse.get_puts_outside [DecidableEq α] (d : Nat → α) (vs : List α) (m : List (Nat × α)) (k j : Nat)
    (h : j < k ∨ k + vs.length ≤ j) : Sparse.get d (Sparse.puts d k vs m) j = Sparse.get d m j := by
  induction vs generalizing k m with
  | nil => rfl
  | cons v vs ih =>
    simp only [List.length_cons] at h
    rw [Sparse.puts, ih _ (k + 1) (by omega), Sparse.get_put, if_neg (by omega)]

theorem Sparse.get_puts_inside [DecidableEq α] (d : Nat → α) (vs : List α) (m : List (Nat × α)) (k i : Nat)
    (h : i < vs.length) : Sparse.get d (Sparse.puts d k vs m) (k + i) = vs[i] := by
  induction vs generalizing k m i with
  | nil => simp at h
  | cons v vs ih =>
    rw [Sparse.puts]
    cases i with
    | zero => rw [Sparse.get_puts_outside d vs _ _ _ (by omega), Nat.add_zero, Sparse.get_put]; simp
    | succ i =>
      have := ih (Sparse.put d k v m) (k + 1) i (by simpa using h)
      rw [show k + (i + 1) = k + 1 + i by omega, this]; rfl

/-! ## The canonical form is kept -/

theorem Sparse.wfFrom_mono [DecidableEq α] (d : Nat → α) (m : List (Nat × α)) (a b : Nat) (h : a ≤ b)
    (w : Sparse.wfFrom d b m = true) : Sparse.wfFrom d a m = true := by
  cases m with
  | nil => rfl
  | cons e m =>
    simp only [Sparse.wfFrom, Bool.and_eq_true, decide_eq_true_eq] at w ⊢
    exact ⟨⟨by omega, w.1.2⟩, w.2⟩

theorem Sparse.wfFrom_filter [DecidableEq α] (d : Nat → α) (p : Nat × α → Bool) (m : List (Nat × α)) (lo : Nat)
    (w : Sparse.wfFrom d lo m = true) : Sparse.wfFrom d lo (m.filter p) = true := by
  induction m generalizing lo with
  | nil => rfl
  | cons e m ih =>
    obtain ⟨a, v⟩ := e
    simp only [Sparse.wfFrom, Bool.and_eq_true, decide_eq_true_eq] at w
    cases hp : p (a, v) with
    | true =>
      simp only [List.filter_cons, hp, if_true, Sparse.wfFrom, Bool.and_eq_true, decide_eq_true_eq]
      exact ⟨w.1, ih _ w.2⟩
    | false =>
      simp only [List.filter_cons, hp, Bool.false_eq_true, if_false]
      exact Sparse.wfFrom_mono d _ lo (a + 1) (by omega) (ih _ w.2)

theorem Sparse.erase_eq_filter (k : Nat) (m : List (Nat × α)) : Sparse.erase k m = m.filter (fun e => e.1 != k) := by
  induction m with
  | nil => rfl
  | cons e m ih =>
    obtain ⟨a, v⟩ := e
    by_cases h : a = k <;> simp [Sparse.erase, h, ih]

theorem Sparse.wfFrom_insert [DecidableEq α] (d : Nat → α) (k : Nat) (v : α) (hv : v ≠ d k) (m : List (Nat × α))
    (lo : Nat) (hlo : lo ≤ k) (hk : ∀ e ∈ m, e.1 ≠ k) (w : Sparse.wfFrom d lo m = true) :
    Sparse.wfFrom d lo (Sparse.insert k v m) = true := by
  induction m generalizing lo with
  | nil => simp [Sparse.insert, Sparse.wfFrom, hlo, hv]
  | cons e m ih =>
    obtain ⟨a, u⟩ := e
    have ha : a ≠ k := hk (a, u) (by simp)
    simp only [Sparse.wfFrom, Bool.and_eq_true, decide_eq_true_eq] at w
    by_cases h : k < a
    · simp only [Sparse.insert, h, if_true, Sparse.wfFrom, Bool.and_eq_true, decide_eq_true_eq]
      exact ⟨⟨hlo, hv⟩, ⟨by omega, w.1.2⟩, w.2⟩
    · simp only [Sparse.insert, h, if_false, Sparse.wfFrom, Bool.and_eq_true, decide_eq_true_eq]
      exact ⟨w.1, ih (a + 1) (by omega) (fun e he => hk e (by simp [he])) w.2⟩

theorem Sparse.wf_filter [DecidableEq α] (d : Nat → α) (p : Nat × α → Bool) (m : List (Nat × α))
    (w : Sparse.wf d m = true) : Sparse.wf d (m.filter p) = true := Sparse.wfFrom_filter d p m 0 w

theorem Sparse.wf_clear [DecidableEq α] (d : Nat → α) (lo hi : Nat) (m : List (Nat × α)) (w : Sparse.wf d m = true) :
    Sparse.wf d (Sparse.clear lo hi m) = true := Sparse.wf_filter d _ m w

theorem Sparse.wf_put [DecidableEq α] (d : Nat → α) (k : Nat) (v : α) (m : List (Nat × α)) (w : Sparse.wf d m = true) :
    Sparse.wf d (Sparse.put d k v m) = true := by
  unfold Sparse.put
  have we : Sparse.wf d (Sparse.erase k m) = true := by
    rw [Sparse.erase_eq_filter]; exact Sparse.wf_filter d _ m w
  split
  · exact we
  · rename_i h
    exact Sparse.wfFrom_insert d k v h _ 0 (Nat.zero_le _) (fun e he => ((Sparse.mem_erase m k e).1 he).2) we

theorem Sparse.wf_puts [DecidableEq α] (d : Nat → α) (vs : List α) (k : Nat) (m : List (Nat × α))
    (w : Sparse.wf d m = true) : Sparse.wf d (Sparse.puts d k vs m) = true := by
  induction vs generalizing k m with
  | nil => exact w
  | cons v vs ih => exact ih (k + 1) _ (Sparse.wf_put d k v m w)

/-- A key below every listed one reads as unlisted. -/
theorem Sparse.get_lt [DecidableEq α] (d : Nat → α) (m : List (Nat × α)) (lo k : Nat) (w : Sparse.wfFrom d lo m = true)
    (h : k < lo) : Sparse.get d m k = d k := by
  induction m generalizing lo with
  | nil => rfl
  | cons e m ih =>
    obtain ⟨a, v⟩ := e
    simp only [Sparse.wfFrom, Bool.and_eq_true, decide_eq_true_eq] at w
    rw [Sparse.get, if_neg (by omega)]
    exact ih (a + 1) w.2 (by omega)

end Sys2Proof.Machine
end

