-- ==== Sys2Proof/Laws/State.lean ====
section
/-! SUPPORT. What each of the plain updates of State leaves: one lemma per update and field, true by rfl. -/

namespace Sys2Proof.Machine

variable (s : State)

/-! ### setReg -/

@[simp] theorem State.setReg_time (a : Nat) (v : Word) : (s.setReg a v).time = s.time := rfl
@[simp] theorem State.setReg_mem (a : Nat) (v : Word) : (s.setReg a v).mem = s.mem := rfl
@[simp] theorem State.setReg_tags (a : Nat) (v : Word) : (s.setReg a v).tags = s.tags := rfl
@[simp] theorem State.setReg_nvm (a : Nat) (v : Word) : (s.setReg a v).nvm = s.nvm := rfl
@[simp] theorem State.setReg_spillMem (a : Nat) (v : Word) : (s.setReg a v).spillMem = s.spillMem := rfl
@[simp] theorem State.setReg_layout (a : Nat) (v : Word) : (s.setReg a v).layout = s.layout := rfl
@[simp] theorem State.setReg_fuses (a : Nat) (v : Word) : (s.setReg a v).fuses = s.fuses := rfl
@[simp] theorem State.setReg_ds (a : Nat) (v : Word) : (s.setReg a v).ds = s.ds := rfl
@[simp] theorem State.setReg_sp (a : Nat) (v : Word) : (s.setReg a v).sp = s.sp := rfl
@[simp] theorem State.setReg_tiles (a : Nat) (v : Word) : (s.setReg a v).tiles = s.tiles := rfl
@[simp] theorem State.setReg_inFlight (a : Nat) (v : Word) : (s.setReg a v).inFlight = s.inFlight := rfl
@[simp] theorem State.setReg_sup (a : Nat) (v : Word) : (s.setReg a v).sup = s.sup := rfl
@[simp] theorem State.setReg_parts (a : Nat) (v : Word) : (s.setReg a v).parts = s.parts := rfl
@[simp] theorem State.setReg_eg (a : Nat) (v : Word) : (s.setReg a v).eg = s.eg := rfl
@[simp] theorem State.setReg_px (a : Nat) (v : Word) : (s.setReg a v).px = s.px := rfl
@[simp] theorem State.setReg_pw (a : Nat) (v : Word) : (s.setReg a v).pw = s.pw := rfl
@[simp] theorem State.setReg_pins (a : Nat) (v : Word) : (s.setReg a v).pins = s.pins := rfl
@[simp] theorem State.setReg_ax (a : Nat) (v : Word) : (s.setReg a v).ax = s.ax := rfl
@[simp] theorem State.setReg_boot (a : Nat) (v : Word) : (s.setReg a v).boot = s.boot := rfl
@[simp] theorem State.setReg_pk (a : Nat) (v : Word) : (s.setReg a v).pk = s.pk := rfl
@[simp] theorem State.setReg_mg (a : Nat) (v : Word) : (s.setReg a v).mg = s.mg := rfl
@[simp] theorem State.setReg_cores (a : Nat) (v : Word) : (s.setReg a v).cores = s.cores := rfl
@[simp] theorem State.setReg_sramEcc (a : Nat) (v : Word) : (s.setReg a v).sramEcc = s.sramEcc := rfl
@[simp] theorem State.setReg_heldStores (a : Nat) (v : Word) : (s.setReg a v).heldStores = s.heldStores := rfl
@[simp] theorem State.setReg_link (a : Nat) (v : Word) : (s.setReg a v).link = s.link := rfl
@[simp] theorem State.setReg_spi (a : Nat) (v : Word) : (s.setReg a v).spi = s.spi := rfl
@[simp] theorem State.setReg_debug (a : Nat) (v : Word) : (s.setReg a v).debug = s.debug := rfl
@[simp] theorem State.setReg_freeIdx (a : Nat) (v : Word) : (s.setReg a v).freeIdx = s.freeIdx := rfl
@[simp] theorem State.setReg_snagQueue (a : Nat) (v : Word) : (s.setReg a v).snagQueue = s.snagQueue := rfl
@[simp] theorem State.setReg_logSlots (a : Nat) (v : Word) : (s.setReg a v).logSlots = s.logSlots := rfl
@[simp] theorem State.setReg_pending (a : Nat) (v : Word) : (s.setReg a v).pending = s.pending := rfl

/-! ### setFld -/

@[simp] theorem State.setFld_time (f : RegField) (v : Nat) : (s.setFld f v).time = s.time := rfl
@[simp] theorem State.setFld_mem (f : RegField) (v : Nat) : (s.setFld f v).mem = s.mem := rfl
@[simp] theorem State.setFld_tags (f : RegField) (v : Nat) : (s.setFld f v).tags = s.tags := rfl
@[simp] theorem State.setFld_nvm (f : RegField) (v : Nat) : (s.setFld f v).nvm = s.nvm := rfl
@[simp] theorem State.setFld_spillMem (f : RegField) (v : Nat) : (s.setFld f v).spillMem = s.spillMem := rfl
@[simp] theorem State.setFld_layout (f : RegField) (v : Nat) : (s.setFld f v).layout = s.layout := rfl
@[simp] theorem State.setFld_fuses (f : RegField) (v : Nat) : (s.setFld f v).fuses = s.fuses := rfl
@[simp] theorem State.setFld_ds (f : RegField) (v : Nat) : (s.setFld f v).ds = s.ds := rfl
@[simp] theorem State.setFld_sp (f : RegField) (v : Nat) : (s.setFld f v).sp = s.sp := rfl
@[simp] theorem State.setFld_tiles (f : RegField) (v : Nat) : (s.setFld f v).tiles = s.tiles := rfl
@[simp] theorem State.setFld_inFlight (f : RegField) (v : Nat) : (s.setFld f v).inFlight = s.inFlight := rfl
@[simp] theorem State.setFld_sup (f : RegField) (v : Nat) : (s.setFld f v).sup = s.sup := rfl
@[simp] theorem State.setFld_parts (f : RegField) (v : Nat) : (s.setFld f v).parts = s.parts := rfl
@[simp] theorem State.setFld_eg (f : RegField) (v : Nat) : (s.setFld f v).eg = s.eg := rfl
@[simp] theorem State.setFld_px (f : RegField) (v : Nat) : (s.setFld f v).px = s.px := rfl
@[simp] theorem State.setFld_pw (f : RegField) (v : Nat) : (s.setFld f v).pw = s.pw := rfl
@[simp] theorem State.setFld_pins (f : RegField) (v : Nat) : (s.setFld f v).pins = s.pins := rfl
@[simp] theorem State.setFld_ax (f : RegField) (v : Nat) : (s.setFld f v).ax = s.ax := rfl
@[simp] theorem State.setFld_boot (f : RegField) (v : Nat) : (s.setFld f v).boot = s.boot := rfl
@[simp] theorem State.setFld_pk (f : RegField) (v : Nat) : (s.setFld f v).pk = s.pk := rfl
@[simp] theorem State.setFld_mg (f : RegField) (v : Nat) : (s.setFld f v).mg = s.mg := rfl
@[simp] theorem State.setFld_cores (f : RegField) (v : Nat) : (s.setFld f v).cores = s.cores := rfl
@[simp] theorem State.setFld_sramEcc (f : RegField) (v : Nat) : (s.setFld f v).sramEcc = s.sramEcc := rfl
@[simp] theorem State.setFld_heldStores (f : RegField) (v : Nat) : (s.setFld f v).heldStores = s.heldStores := rfl
@[simp] theorem State.setFld_link (f : RegField) (v : Nat) : (s.setFld f v).link = s.link := rfl
@[simp] theorem State.setFld_spi (f : RegField) (v : Nat) : (s.setFld f v).spi = s.spi := rfl
@[simp] theorem State.setFld_debug (f : RegField) (v : Nat) : (s.setFld f v).debug = s.debug := rfl
@[simp] theorem State.setFld_freeIdx (f : RegField) (v : Nat) : (s.setFld f v).freeIdx = s.freeIdx := rfl
@[simp] theorem State.setFld_snagQueue (f : RegField) (v : Nat) : (s.setFld f v).snagQueue = s.snagQueue := rfl
@[simp] theorem State.setFld_logSlots (f : RegField) (v : Nat) : (s.setFld f v).logSlots = s.logSlots := rfl
@[simp] theorem State.setFld_pending (f : RegField) (v : Nat) : (s.setFld f v).pending = s.pending := rfl

/-! ### setFlag -/

@[simp] theorem State.setFlag_time (f : RegField) (b : Bool) : (s.setFlag f b).time = s.time := rfl
@[simp] theorem State.setFlag_mem (f : RegField) (b : Bool) : (s.setFlag f b).mem = s.mem := rfl
@[simp] theorem State.setFlag_tags (f : RegField) (b : Bool) : (s.setFlag f b).tags = s.tags := rfl
@[simp] theorem State.setFlag_nvm (f : RegField) (b : Bool) : (s.setFlag f b).nvm = s.nvm := rfl
@[simp] theorem State.setFlag_spillMem (f : RegField) (b : Bool) : (s.setFlag f b).spillMem = s.spillMem := rfl
@[simp] theorem State.setFlag_layout (f : RegField) (b : Bool) : (s.setFlag f b).layout = s.layout := rfl
@[simp] theorem State.setFlag_fuses (f : RegField) (b : Bool) : (s.setFlag f b).fuses = s.fuses := rfl
@[simp] theorem State.setFlag_ds (f : RegField) (b : Bool) : (s.setFlag f b).ds = s.ds := rfl
@[simp] theorem State.setFlag_sp (f : RegField) (b : Bool) : (s.setFlag f b).sp = s.sp := rfl
@[simp] theorem State.setFlag_tiles (f : RegField) (b : Bool) : (s.setFlag f b).tiles = s.tiles := rfl
@[simp] theorem State.setFlag_inFlight (f : RegField) (b : Bool) : (s.setFlag f b).inFlight = s.inFlight := rfl
@[simp] theorem State.setFlag_sup (f : RegField) (b : Bool) : (s.setFlag f b).sup = s.sup := rfl
@[simp] theorem State.setFlag_parts (f : RegField) (b : Bool) : (s.setFlag f b).parts = s.parts := rfl
@[simp] theorem State.setFlag_eg (f : RegField) (b : Bool) : (s.setFlag f b).eg = s.eg := rfl
@[simp] theorem State.setFlag_px (f : RegField) (b : Bool) : (s.setFlag f b).px = s.px := rfl
@[simp] theorem State.setFlag_pw (f : RegField) (b : Bool) : (s.setFlag f b).pw = s.pw := rfl
@[simp] theorem State.setFlag_pins (f : RegField) (b : Bool) : (s.setFlag f b).pins = s.pins := rfl
@[simp] theorem State.setFlag_ax (f : RegField) (b : Bool) : (s.setFlag f b).ax = s.ax := rfl
@[simp] theorem State.setFlag_boot (f : RegField) (b : Bool) : (s.setFlag f b).boot = s.boot := rfl
@[simp] theorem State.setFlag_pk (f : RegField) (b : Bool) : (s.setFlag f b).pk = s.pk := rfl
@[simp] theorem State.setFlag_mg (f : RegField) (b : Bool) : (s.setFlag f b).mg = s.mg := rfl
@[simp] theorem State.setFlag_cores (f : RegField) (b : Bool) : (s.setFlag f b).cores = s.cores := rfl
@[simp] theorem State.setFlag_sramEcc (f : RegField) (b : Bool) : (s.setFlag f b).sramEcc = s.sramEcc := rfl
@[simp] theorem State.setFlag_heldStores (f : RegField) (b : Bool) : (s.setFlag f b).heldStores = s.heldStores := rfl
@[simp] theorem State.setFlag_link (f : RegField) (b : Bool) : (s.setFlag f b).link = s.link := rfl
@[simp] theorem State.setFlag_spi (f : RegField) (b : Bool) : (s.setFlag f b).spi = s.spi := rfl
@[simp] theorem State.setFlag_debug (f : RegField) (b : Bool) : (s.setFlag f b).debug = s.debug := rfl
@[simp] theorem State.setFlag_freeIdx (f : RegField) (b : Bool) : (s.setFlag f b).freeIdx = s.freeIdx := rfl
@[simp] theorem State.setFlag_snagQueue (f : RegField) (b : Bool) : (s.setFlag f b).snagQueue = s.snagQueue := rfl
@[simp] theorem State.setFlag_logSlots (f : RegField) (b : Bool) : (s.setFlag f b).logSlots = s.logSlots := rfl
@[simp] theorem State.setFlag_pending (f : RegField) (b : Bool) : (s.setFlag f b).pending = s.pending := rfl

/-! ### incSat -/

@[simp] theorem State.incSat_time (f : RegField) (n : Nat) : (s.incSat f n).time = s.time := by unfold State.incSat; split <;> rfl
@[simp] theorem State.incSat_mem (f : RegField) (n : Nat) : (s.incSat f n).mem = s.mem := by unfold State.incSat; split <;> rfl
@[simp] theorem State.incSat_tags (f : RegField) (n : Nat) : (s.incSat f n).tags = s.tags := by unfold State.incSat; split <;> rfl
@[simp] theorem State.incSat_nvm (f : RegField) (n : Nat) : (s.incSat f n).nvm = s.nvm := by unfold State.incSat; split <;> rfl
@[simp] theorem State.incSat_spillMem (f : RegField) (n : Nat) : (s.incSat f n).spillMem = s.spillMem := by unfold State.incSat; split <;> rfl
@[simp] theorem State.incSat_layout (f : RegField) (n : Nat) : (s.incSat f n).layout = s.layout := by unfold State.incSat; split <;> rfl
@[simp] theorem State.incSat_fuses (f : RegField) (n : Nat) : (s.incSat f n).fuses = s.fuses := by unfold State.incSat; split <;> rfl
@[simp] theorem State.incSat_ds (f : RegField) (n : Nat) : (s.incSat f n).ds = s.ds := by unfold State.incSat; split <;> rfl
@[simp] theorem State.incSat_sp (f : RegField) (n : Nat) : (s.incSat f n).sp = s.sp := by unfold State.incSat; split <;> rfl
@[simp] theorem State.incSat_tiles (f : RegField) (n : Nat) : (s.incSat f n).tiles = s.tiles := by unfold State.incSat; split <;> rfl
@[simp] theorem State.incSat_inFlight (f : RegField) (n : Nat) : (s.incSat f n).inFlight = s.inFlight := by unfold State.incSat; split <;> rfl
@[simp] theorem State.incSat_sup (f : RegField) (n : Nat) : (s.incSat f n).sup = s.sup := by unfold State.incSat; split <;> rfl
@[simp] theorem State.incSat_parts (f : RegField) (n : Nat) : (s.incSat f n).parts = s.parts := by unfold State.incSat; split <;> rfl
@[simp] theorem State.incSat_eg (f : RegField) (n : Nat) : (s.incSat f n).eg = s.eg := by unfold State.incSat; split <;> rfl
@[simp] theorem State.incSat_px (f : RegField) (n : Nat) : (s.incSat f n).px = s.px := by unfold State.incSat; split <;> rfl
@[simp] theorem State.incSat_pw (f : RegField) (n : Nat) : (s.incSat f n).pw = s.pw := by unfold State.incSat; split <;> rfl
@[simp] theorem State.incSat_pins (f : RegField) (n : Nat) : (s.incSat f n).pins = s.pins := by unfold State.incSat; split <;> rfl
@[simp] theorem State.incSat_ax (f : RegField) (n : Nat) : (s.incSat f n).ax = s.ax := by unfold State.incSat; split <;> rfl
@[simp] theorem State.incSat_boot (f : RegField) (n : Nat) : (s.incSat f n).boot = s.boot := by unfold State.incSat; split <;> rfl
@[simp] theorem State.incSat_pk (f : RegField) (n : Nat) : (s.incSat f n).pk = s.pk := by unfold State.incSat; split <;> rfl
@[simp] theorem State.incSat_mg (f : RegField) (n : Nat) : (s.incSat f n).mg = s.mg := by unfold State.incSat; split <;> rfl
@[simp] theorem State.incSat_cores (f : RegField) (n : Nat) : (s.incSat f n).cores = s.cores := by unfold State.incSat; split <;> rfl
@[simp] theorem State.incSat_sramEcc (f : RegField) (n : Nat) : (s.incSat f n).sramEcc = s.sramEcc := by unfold State.incSat; split <;> rfl
@[simp] theorem State.incSat_heldStores (f : RegField) (n : Nat) : (s.incSat f n).heldStores = s.heldStores := by unfold State.incSat; split <;> rfl
@[simp] theorem State.incSat_link (f : RegField) (n : Nat) : (s.incSat f n).link = s.link := by unfold State.incSat; split <;> rfl
@[simp] theorem State.incSat_spi (f : RegField) (n : Nat) : (s.incSat f n).spi = s.spi := by unfold State.incSat; split <;> rfl
@[simp] theorem State.incSat_debug (f : RegField) (n : Nat) : (s.incSat f n).debug = s.debug := by unfold State.incSat; split <;> rfl
@[simp] theorem State.incSat_freeIdx (f : RegField) (n : Nat) : (s.incSat f n).freeIdx = s.freeIdx := by unfold State.incSat; split <;> rfl
@[simp] theorem State.incSat_snagQueue (f : RegField) (n : Nat) : (s.incSat f n).snagQueue = s.snagQueue := by unfold State.incSat; split <;> rfl
@[simp] theorem State.incSat_logSlots (f : RegField) (n : Nat) : (s.incSat f n).logSlots = s.logSlots := by unfold State.incSat; split <;> rfl
@[simp] theorem State.incSat_pending (f : RegField) (n : Nat) : (s.incSat f n).pending = s.pending := by unfold State.incSat; split <;> rfl

/-! ### incWrap -/

@[simp] theorem State.incWrap_time (f : RegField) (n : Nat) : (s.incWrap f n).time = s.time := rfl
@[simp] theorem State.incWrap_mem (f : RegField) (n : Nat) : (s.incWrap f n).mem = s.mem := rfl
@[simp] theorem State.incWrap_tags (f : RegField) (n : Nat) : (s.incWrap f n).tags = s.tags := rfl
@[simp] theorem State.incWrap_nvm (f : RegField) (n : Nat) : (s.incWrap f n).nvm = s.nvm := rfl
@[simp] theorem State.incWrap_spillMem (f : RegField) (n : Nat) : (s.incWrap f n).spillMem = s.spillMem := rfl
@[simp] theorem State.incWrap_layout (f : RegField) (n : Nat) : (s.incWrap f n).layout = s.layout := rfl
@[simp] theorem State.incWrap_fuses (f : RegField) (n : Nat) : (s.incWrap f n).fuses = s.fuses := rfl
@[simp] theorem State.incWrap_ds (f : RegField) (n : Nat) : (s.incWrap f n).ds = s.ds := rfl
@[simp] theorem State.incWrap_sp (f : RegField) (n : Nat) : (s.incWrap f n).sp = s.sp := rfl
@[simp] theorem State.incWrap_tiles (f : RegField) (n : Nat) : (s.incWrap f n).tiles = s.tiles := rfl
@[simp] theorem State.incWrap_inFlight (f : RegField) (n : Nat) : (s.incWrap f n).inFlight = s.inFlight := rfl
@[simp] theorem State.incWrap_sup (f : RegField) (n : Nat) : (s.incWrap f n).sup = s.sup := rfl
@[simp] theorem State.incWrap_parts (f : RegField) (n : Nat) : (s.incWrap f n).parts = s.parts := rfl
@[simp] theorem State.incWrap_eg (f : RegField) (n : Nat) : (s.incWrap f n).eg = s.eg := rfl
@[simp] theorem State.incWrap_px (f : RegField) (n : Nat) : (s.incWrap f n).px = s.px := rfl
@[simp] theorem State.incWrap_pw (f : RegField) (n : Nat) : (s.incWrap f n).pw = s.pw := rfl
@[simp] theorem State.incWrap_pins (f : RegField) (n : Nat) : (s.incWrap f n).pins = s.pins := rfl
@[simp] theorem State.incWrap_ax (f : RegField) (n : Nat) : (s.incWrap f n).ax = s.ax := rfl
@[simp] theorem State.incWrap_boot (f : RegField) (n : Nat) : (s.incWrap f n).boot = s.boot := rfl
@[simp] theorem State.incWrap_pk (f : RegField) (n : Nat) : (s.incWrap f n).pk = s.pk := rfl
@[simp] theorem State.incWrap_mg (f : RegField) (n : Nat) : (s.incWrap f n).mg = s.mg := rfl
@[simp] theorem State.incWrap_cores (f : RegField) (n : Nat) : (s.incWrap f n).cores = s.cores := rfl
@[simp] theorem State.incWrap_sramEcc (f : RegField) (n : Nat) : (s.incWrap f n).sramEcc = s.sramEcc := rfl
@[simp] theorem State.incWrap_heldStores (f : RegField) (n : Nat) : (s.incWrap f n).heldStores = s.heldStores := rfl
@[simp] theorem State.incWrap_link (f : RegField) (n : Nat) : (s.incWrap f n).link = s.link := rfl
@[simp] theorem State.incWrap_spi (f : RegField) (n : Nat) : (s.incWrap f n).spi = s.spi := rfl
@[simp] theorem State.incWrap_debug (f : RegField) (n : Nat) : (s.incWrap f n).debug = s.debug := rfl
@[simp] theorem State.incWrap_freeIdx (f : RegField) (n : Nat) : (s.incWrap f n).freeIdx = s.freeIdx := rfl
@[simp] theorem State.incWrap_snagQueue (f : RegField) (n : Nat) : (s.incWrap f n).snagQueue = s.snagQueue := rfl
@[simp] theorem State.incWrap_logSlots (f : RegField) (n : Nat) : (s.incWrap f n).logSlots = s.logSlots := rfl
@[simp] theorem State.incWrap_pending (f : RegField) (n : Nat) : (s.incWrap f n).pending = s.pending := rfl

/-! ### pend -/

@[simp] theorem State.pend_time (k : Nat) : (s.pend k).time = s.time := rfl
@[simp] theorem State.pend_mem (k : Nat) : (s.pend k).mem = s.mem := rfl
@[simp] theorem State.pend_tags (k : Nat) : (s.pend k).tags = s.tags := rfl
@[simp] theorem State.pend_nvm (k : Nat) : (s.pend k).nvm = s.nvm := rfl
@[simp] theorem State.pend_spillMem (k : Nat) : (s.pend k).spillMem = s.spillMem := rfl
@[simp] theorem State.pend_layout (k : Nat) : (s.pend k).layout = s.layout := rfl
@[simp] theorem State.pend_fuses (k : Nat) : (s.pend k).fuses = s.fuses := rfl
@[simp] theorem State.pend_ds (k : Nat) : (s.pend k).ds = s.ds := rfl
@[simp] theorem State.pend_sp (k : Nat) : (s.pend k).sp = s.sp := rfl
@[simp] theorem State.pend_tiles (k : Nat) : (s.pend k).tiles = s.tiles := rfl
@[simp] theorem State.pend_inFlight (k : Nat) : (s.pend k).inFlight = s.inFlight := rfl
@[simp] theorem State.pend_sup (k : Nat) : (s.pend k).sup = s.sup := rfl
@[simp] theorem State.pend_parts (k : Nat) : (s.pend k).parts = s.parts := rfl
@[simp] theorem State.pend_eg (k : Nat) : (s.pend k).eg = s.eg := rfl
@[simp] theorem State.pend_px (k : Nat) : (s.pend k).px = s.px := rfl
@[simp] theorem State.pend_pw (k : Nat) : (s.pend k).pw = s.pw := rfl
@[simp] theorem State.pend_pins (k : Nat) : (s.pend k).pins = s.pins := rfl
@[simp] theorem State.pend_ax (k : Nat) : (s.pend k).ax = s.ax := rfl
@[simp] theorem State.pend_boot (k : Nat) : (s.pend k).boot = s.boot := rfl
@[simp] theorem State.pend_pk (k : Nat) : (s.pend k).pk = s.pk := rfl
@[simp] theorem State.pend_mg (k : Nat) : (s.pend k).mg = s.mg := rfl
@[simp] theorem State.pend_cores (k : Nat) : (s.pend k).cores = s.cores := rfl
@[simp] theorem State.pend_sramEcc (k : Nat) : (s.pend k).sramEcc = s.sramEcc := rfl
@[simp] theorem State.pend_heldStores (k : Nat) : (s.pend k).heldStores = s.heldStores := rfl
@[simp] theorem State.pend_link (k : Nat) : (s.pend k).link = s.link := rfl
@[simp] theorem State.pend_spi (k : Nat) : (s.pend k).spi = s.spi := rfl
@[simp] theorem State.pend_debug (k : Nat) : (s.pend k).debug = s.debug := rfl
@[simp] theorem State.pend_freeIdx (k : Nat) : (s.pend k).freeIdx = s.freeIdx := rfl
@[simp] theorem State.pend_snagQueue (k : Nat) : (s.pend k).snagQueue = s.snagQueue := rfl
@[simp] theorem State.pend_logSlots (k : Nat) : (s.pend k).logSlots = s.logSlots := rfl
@[simp] theorem State.pend_pending (k : Nat) : (s.pend k).pending = s.pending := rfl

/-! ### raiseBits -/

@[simp] theorem State.raiseBits_time (st codeReg code : Nat) : (s.raiseBits st codeReg code).time = s.time := by
  rw [State.raiseBits, State.setFld_time, State.setReg_time]
@[simp] theorem State.raiseBits_mem (st codeReg code : Nat) : (s.raiseBits st codeReg code).mem = s.mem := by
  rw [State.raiseBits, State.setFld_mem, State.setReg_mem]
@[simp] theorem State.raiseBits_tags (st codeReg code : Nat) : (s.raiseBits st codeReg code).tags = s.tags := by
  rw [State.raiseBits, State.setFld_tags, State.setReg_tags]
@[simp] theorem State.raiseBits_nvm (st codeReg code : Nat) : (s.raiseBits st codeReg code).nvm = s.nvm := by
  rw [State.raiseBits, State.setFld_nvm, State.setReg_nvm]
@[simp] theorem State.raiseBits_spillMem (st codeReg code : Nat) : (s.raiseBits st codeReg code).spillMem = s.spillMem := by
  rw [State.raiseBits, State.setFld_spillMem, State.setReg_spillMem]
@[simp] theorem State.raiseBits_layout (st codeReg code : Nat) : (s.raiseBits st codeReg code).layout = s.layout := by
  rw [State.raiseBits, State.setFld_layout, State.setReg_layout]
@[simp] theorem State.raiseBits_fuses (st codeReg code : Nat) : (s.raiseBits st codeReg code).fuses = s.fuses := by
  rw [State.raiseBits, State.setFld_fuses, State.setReg_fuses]
@[simp] theorem State.raiseBits_ds (st codeReg code : Nat) : (s.raiseBits st codeReg code).ds = s.ds := by
  rw [State.raiseBits, State.setFld_ds, State.setReg_ds]
@[simp] theorem State.raiseBits_sp (st codeReg code : Nat) : (s.raiseBits st codeReg code).sp = s.sp := by
  rw [State.raiseBits, State.setFld_sp, State.setReg_sp]
@[simp] theorem State.raiseBits_tiles (st codeReg code : Nat) : (s.raiseBits st codeReg code).tiles = s.tiles := by
  rw [State.raiseBits, State.setFld_tiles, State.setReg_tiles]
@[simp] theorem State.raiseBits_inFlight (st codeReg code : Nat) : (s.raiseBits st codeReg code).inFlight = s.inFlight := by
  rw [State.raiseBits, State.setFld_inFlight, State.setReg_inFlight]
@[simp] theorem State.raiseBits_sup (st codeReg code : Nat) : (s.raiseBits st codeReg code).sup = s.sup := by
  rw [State.raiseBits, State.setFld_sup, State.setReg_sup]
@[simp] theorem State.raiseBits_parts (st codeReg code : Nat) : (s.raiseBits st codeReg code).parts = s.parts := by
  rw [State.raiseBits, State.setFld_parts, State.setReg_parts]
@[simp] theorem State.raiseBits_eg (st codeReg code : Nat) : (s.raiseBits st codeReg code).eg = s.eg := by
  rw [State.raiseBits, State.setFld_eg, State.setReg_eg]
@[simp] theorem State.raiseBits_px (st codeReg code : Nat) : (s.raiseBits st codeReg code).px = s.px := by
  rw [State.raiseBits, State.setFld_px, State.setReg_px]
@[simp] theorem State.raiseBits_pw (st codeReg code : Nat) : (s.raiseBits st codeReg code).pw = s.pw := by
  rw [State.raiseBits, State.setFld_pw, State.setReg_pw]
@[simp] theorem State.raiseBits_pins (st codeReg code : Nat) : (s.raiseBits st codeReg code).pins = s.pins := by
  rw [State.raiseBits, State.setFld_pins, State.setReg_pins]
@[simp] theorem State.raiseBits_ax (st codeReg code : Nat) : (s.raiseBits st codeReg code).ax = s.ax := by
  rw [State.raiseBits, State.setFld_ax, State.setReg_ax]
@[simp] theorem State.raiseBits_boot (st codeReg code : Nat) : (s.raiseBits st codeReg code).boot = s.boot := by
  rw [State.raiseBits, State.setFld_boot, State.setReg_boot]
@[simp] theorem State.raiseBits_pk (st codeReg code : Nat) : (s.raiseBits st codeReg code).pk = s.pk := by
  rw [State.raiseBits, State.setFld_pk, State.setReg_pk]
@[simp] theorem State.raiseBits_mg (st codeReg code : Nat) : (s.raiseBits st codeReg code).mg = s.mg := by
  rw [State.raiseBits, State.setFld_mg, State.setReg_mg]
@[simp] theorem State.raiseBits_cores (st codeReg code : Nat) : (s.raiseBits st codeReg code).cores = s.cores := by
  rw [State.raiseBits, State.setFld_cores, State.setReg_cores]
@[simp] theorem State.raiseBits_sramEcc (st codeReg code : Nat) : (s.raiseBits st codeReg code).sramEcc = s.sramEcc := by
  rw [State.raiseBits, State.setFld_sramEcc, State.setReg_sramEcc]
@[simp] theorem State.raiseBits_heldStores (st codeReg code : Nat) : (s.raiseBits st codeReg code).heldStores = s.heldStores := by
  rw [State.raiseBits, State.setFld_heldStores, State.setReg_heldStores]
@[simp] theorem State.raiseBits_link (st codeReg code : Nat) : (s.raiseBits st codeReg code).link = s.link := by
  rw [State.raiseBits, State.setFld_link, State.setReg_link]
@[simp] theorem State.raiseBits_spi (st codeReg code : Nat) : (s.raiseBits st codeReg code).spi = s.spi := by
  rw [State.raiseBits, State.setFld_spi, State.setReg_spi]
@[simp] theorem State.raiseBits_debug (st codeReg code : Nat) : (s.raiseBits st codeReg code).debug = s.debug := by
  rw [State.raiseBits, State.setFld_debug, State.setReg_debug]
@[simp] theorem State.raiseBits_freeIdx (st codeReg code : Nat) : (s.raiseBits st codeReg code).freeIdx = s.freeIdx := by
  rw [State.raiseBits, State.setFld_freeIdx, State.setReg_freeIdx]
@[simp] theorem State.raiseBits_snagQueue (st codeReg code : Nat) : (s.raiseBits st codeReg code).snagQueue = s.snagQueue := by
  rw [State.raiseBits, State.setFld_snagQueue, State.setReg_snagQueue]
@[simp] theorem State.raiseBits_logSlots (st codeReg code : Nat) : (s.raiseBits st codeReg code).logSlots = s.logSlots := by
  rw [State.raiseBits, State.setFld_logSlots, State.setReg_logSlots]
@[simp] theorem State.raiseBits_pending (st codeReg code : Nat) : (s.raiseBits st codeReg code).pending = s.pending := by
  rw [State.raiseBits, State.setFld_pending, State.setReg_pending]

/-! ### setBankPower -/

@[simp] theorem State.setBankPower_time (b : Nat) (on : Bool) : (s.setBankPower b on).time = s.time := rfl
@[simp] theorem State.setBankPower_mem (b : Nat) (on : Bool) : (s.setBankPower b on).mem = s.mem := rfl
@[simp] theorem State.setBankPower_tags (b : Nat) (on : Bool) : (s.setBankPower b on).tags = s.tags := rfl
@[simp] theorem State.setBankPower_nvm (b : Nat) (on : Bool) : (s.setBankPower b on).nvm = s.nvm := rfl
@[simp] theorem State.setBankPower_spillMem (b : Nat) (on : Bool) : (s.setBankPower b on).spillMem = s.spillMem := rfl
@[simp] theorem State.setBankPower_layout (b : Nat) (on : Bool) : (s.setBankPower b on).layout = s.layout := rfl
@[simp] theorem State.setBankPower_fuses (b : Nat) (on : Bool) : (s.setBankPower b on).fuses = s.fuses := rfl
@[simp] theorem State.setBankPower_ds (b : Nat) (on : Bool) : (s.setBankPower b on).ds = s.ds := rfl
@[simp] theorem State.setBankPower_sp (b : Nat) (on : Bool) : (s.setBankPower b on).sp = s.sp := rfl
@[simp] theorem State.setBankPower_tiles (b : Nat) (on : Bool) : (s.setBankPower b on).tiles = s.tiles := rfl
@[simp] theorem State.setBankPower_inFlight (b : Nat) (on : Bool) : (s.setBankPower b on).inFlight = s.inFlight := rfl
@[simp] theorem State.setBankPower_sup (b : Nat) (on : Bool) : (s.setBankPower b on).sup = s.sup := rfl
@[simp] theorem State.setBankPower_parts (b : Nat) (on : Bool) : (s.setBankPower b on).parts = s.parts := rfl
@[simp] theorem State.setBankPower_eg (b : Nat) (on : Bool) : (s.setBankPower b on).eg = s.eg := rfl
@[simp] theorem State.setBankPower_px (b : Nat) (on : Bool) : (s.setBankPower b on).px = s.px := rfl
@[simp] theorem State.setBankPower_pw (b : Nat) (on : Bool) : (s.setBankPower b on).pw = s.pw := rfl
@[simp] theorem State.setBankPower_pins (b : Nat) (on : Bool) : (s.setBankPower b on).pins = s.pins := rfl
@[simp] theorem State.setBankPower_ax (b : Nat) (on : Bool) : (s.setBankPower b on).ax = s.ax := rfl
@[simp] theorem State.setBankPower_boot (b : Nat) (on : Bool) : (s.setBankPower b on).boot = s.boot := rfl
@[simp] theorem State.setBankPower_pk (b : Nat) (on : Bool) : (s.setBankPower b on).pk = s.pk := rfl
@[simp] theorem State.setBankPower_mg (b : Nat) (on : Bool) : (s.setBankPower b on).mg = s.mg := rfl
@[simp] theorem State.setBankPower_cores (b : Nat) (on : Bool) : (s.setBankPower b on).cores = s.cores := rfl
@[simp] theorem State.setBankPower_sramEcc (b : Nat) (on : Bool) : (s.setBankPower b on).sramEcc = s.sramEcc := rfl
@[simp] theorem State.setBankPower_heldStores (b : Nat) (on : Bool) : (s.setBankPower b on).heldStores = s.heldStores := rfl
@[simp] theorem State.setBankPower_link (b : Nat) (on : Bool) : (s.setBankPower b on).link = s.link := rfl
@[simp] theorem State.setBankPower_spi (b : Nat) (on : Bool) : (s.setBankPower b on).spi = s.spi := rfl
@[simp] theorem State.setBankPower_debug (b : Nat) (on : Bool) : (s.setBankPower b on).debug = s.debug := rfl
@[simp] theorem State.setBankPower_freeIdx (b : Nat) (on : Bool) : (s.setBankPower b on).freeIdx = s.freeIdx := rfl
@[simp] theorem State.setBankPower_snagQueue (b : Nat) (on : Bool) : (s.setBankPower b on).snagQueue = s.snagQueue := rfl
@[simp] theorem State.setBankPower_logSlots (b : Nat) (on : Bool) : (s.setBankPower b on).logSlots = s.logSlots := rfl
@[simp] theorem State.setBankPower_pending (b : Nat) (on : Bool) : (s.setBankPower b on).pending = s.pending := rfl

/-! ### nextFree -/

@[simp] theorem State.nextFree_regs : (s.nextFree).regs = s.regs := rfl
@[simp] theorem State.nextFree_time : (s.nextFree).time = s.time := rfl
@[simp] theorem State.nextFree_mem : (s.nextFree).mem = s.mem := rfl
@[simp] theorem State.nextFree_tags : (s.nextFree).tags = s.tags := rfl
@[simp] theorem State.nextFree_nvm : (s.nextFree).nvm = s.nvm := rfl
@[simp] theorem State.nextFree_spillMem : (s.nextFree).spillMem = s.spillMem := rfl
@[simp] theorem State.nextFree_layout : (s.nextFree).layout = s.layout := rfl
@[simp] theorem State.nextFree_fuses : (s.nextFree).fuses = s.fuses := rfl
@[simp] theorem State.nextFree_ds : (s.nextFree).ds = s.ds := rfl
@[simp] theorem State.nextFree_sp : (s.nextFree).sp = s.sp := rfl
@[simp] theorem State.nextFree_tiles : (s.nextFree).tiles = s.tiles := rfl
@[simp] theorem State.nextFree_inFlight : (s.nextFree).inFlight = s.inFlight := rfl
@[simp] theorem State.nextFree_sup : (s.nextFree).sup = s.sup := rfl
@[simp] theorem State.nextFree_parts : (s.nextFree).parts = s.parts := rfl
@[simp] theorem State.nextFree_eg : (s.nextFree).eg = s.eg := rfl
@[simp] theorem State.nextFree_px : (s.nextFree).px = s.px := rfl
@[simp] theorem State.nextFree_pw : (s.nextFree).pw = s.pw := rfl
@[simp] theorem State.nextFree_pins : (s.nextFree).pins = s.pins := rfl
@[simp] theorem State.nextFree_ax : (s.nextFree).ax = s.ax := rfl
@[simp] theorem State.nextFree_boot : (s.nextFree).boot = s.boot := rfl
@[simp] theorem State.nextFree_pk : (s.nextFree).pk = s.pk := rfl
@[simp] theorem State.nextFree_mg : (s.nextFree).mg = s.mg := rfl
@[simp] theorem State.nextFree_cores : (s.nextFree).cores = s.cores := rfl
@[simp] theorem State.nextFree_sramEcc : (s.nextFree).sramEcc = s.sramEcc := rfl
@[simp] theorem State.nextFree_heldStores : (s.nextFree).heldStores = s.heldStores := rfl
@[simp] theorem State.nextFree_link : (s.nextFree).link = s.link := rfl
@[simp] theorem State.nextFree_spi : (s.nextFree).spi = s.spi := rfl
@[simp] theorem State.nextFree_debug : (s.nextFree).debug = s.debug := rfl
@[simp] theorem State.nextFree_snagQueue : (s.nextFree).snagQueue = s.snagQueue := rfl
@[simp] theorem State.nextFree_logSlots : (s.nextFree).logSlots = s.logSlots := rfl
@[simp] theorem State.nextFree_pending : (s.nextFree).pending = s.pending := rfl
@[simp] theorem State.nextFree_reg (r : Nat) : (s.nextFree).reg r = s.reg r := rfl
@[simp] theorem State.nextFree_fld (g : RegField) : (s.nextFree).fld g = s.fld g := rfl
@[simp] theorem State.nextFree_flag (g : RegField) : (s.nextFree).flag g = s.flag g := rfl

/-! ### setTile -/

@[simp] theorem State.setTile_regs (t : Nat) (x : Tile) : (s.setTile t x).regs = s.regs := rfl
@[simp] theorem State.setTile_time (t : Nat) (x : Tile) : (s.setTile t x).time = s.time := rfl
@[simp] theorem State.setTile_mem (t : Nat) (x : Tile) : (s.setTile t x).mem = s.mem := rfl
@[simp] theorem State.setTile_tags (t : Nat) (x : Tile) : (s.setTile t x).tags = s.tags := rfl
@[simp] theorem State.setTile_nvm (t : Nat) (x : Tile) : (s.setTile t x).nvm = s.nvm := rfl
@[simp] theorem State.setTile_spillMem (t : Nat) (x : Tile) : (s.setTile t x).spillMem = s.spillMem := rfl
@[simp] theorem State.setTile_layout (t : Nat) (x : Tile) : (s.setTile t x).layout = s.layout := rfl
@[simp] theorem State.setTile_fuses (t : Nat) (x : Tile) : (s.setTile t x).fuses = s.fuses := rfl
@[simp] theorem State.setTile_ds (t : Nat) (x : Tile) : (s.setTile t x).ds = s.ds := rfl
@[simp] theorem State.setTile_sp (t : Nat) (x : Tile) : (s.setTile t x).sp = s.sp := rfl
@[simp] theorem State.setTile_inFlight (t : Nat) (x : Tile) : (s.setTile t x).inFlight = s.inFlight := rfl
@[simp] theorem State.setTile_sup (t : Nat) (x : Tile) : (s.setTile t x).sup = s.sup := rfl
@[simp] theorem State.setTile_parts (t : Nat) (x : Tile) : (s.setTile t x).parts = s.parts := rfl
@[simp] theorem State.setTile_eg (t : Nat) (x : Tile) : (s.setTile t x).eg = s.eg := rfl
@[simp] theorem State.setTile_px (t : Nat) (x : Tile) : (s.setTile t x).px = s.px := rfl
@[simp] theorem State.setTile_pw (t : Nat) (x : Tile) : (s.setTile t x).pw = s.pw := rfl
@[simp] theorem State.setTile_pins (t : Nat) (x : Tile) : (s.setTile t x).pins = s.pins := rfl
@[simp] theorem State.setTile_ax (t : Nat) (x : Tile) : (s.setTile t x).ax = s.ax := rfl
@[simp] theorem State.setTile_boot (t : Nat) (x : Tile) : (s.setTile t x).boot = s.boot := rfl
@[simp] theorem State.setTile_pk (t : Nat) (x : Tile) : (s.setTile t x).pk = s.pk := rfl
@[simp] theorem State.setTile_mg (t : Nat) (x : Tile) : (s.setTile t x).mg = s.mg := rfl
@[simp] theorem State.setTile_cores (t : Nat) (x : Tile) : (s.setTile t x).cores = s.cores := rfl
@[simp] theorem State.setTile_sramEcc (t : Nat) (x : Tile) : (s.setTile t x).sramEcc = s.sramEcc := rfl
@[simp] theorem State.setTile_heldStores (t : Nat) (x : Tile) : (s.setTile t x).heldStores = s.heldStores := rfl
@[simp] theorem State.setTile_link (t : Nat) (x : Tile) : (s.setTile t x).link = s.link := rfl
@[simp] theorem State.setTile_spi (t : Nat) (x : Tile) : (s.setTile t x).spi = s.spi := rfl
@[simp] theorem State.setTile_debug (t : Nat) (x : Tile) : (s.setTile t x).debug = s.debug := rfl
@[simp] theorem State.setTile_freeIdx (t : Nat) (x : Tile) : (s.setTile t x).freeIdx = s.freeIdx := rfl
@[simp] theorem State.setTile_snagQueue (t : Nat) (x : Tile) : (s.setTile t x).snagQueue = s.snagQueue := rfl
@[simp] theorem State.setTile_logSlots (t : Nat) (x : Tile) : (s.setTile t x).logSlots = s.logSlots := rfl
@[simp] theorem State.setTile_pending (t : Nat) (x : Tile) : (s.setTile t x).pending = s.pending := rfl
@[simp] theorem State.setTile_reg (t : Nat) (x : Tile) (r : Nat) : (s.setTile t x).reg r = s.reg r := rfl
@[simp] theorem State.setTile_fld (t : Nat) (x : Tile) (g : RegField) : (s.setTile t x).fld g = s.fld g := rfl
@[simp] theorem State.setTile_flag (t : Nat) (x : Tile) (g : RegField) : (s.setTile t x).flag g = s.flag g := rfl

/-! ### setCounter -/

@[simp] theorem State.setCounter_regs (t k : Nat) (c : Counter) : (s.setCounter t k c).regs = s.regs := rfl
@[simp] theorem State.setCounter_time (t k : Nat) (c : Counter) : (s.setCounter t k c).time = s.time := rfl
@[simp] theorem State.setCounter_mem (t k : Nat) (c : Counter) : (s.setCounter t k c).mem = s.mem := rfl
@[simp] theorem State.setCounter_tags (t k : Nat) (c : Counter) : (s.setCounter t k c).tags = s.tags := rfl
@[simp] theorem State.setCounter_nvm (t k : Nat) (c : Counter) : (s.setCounter t k c).nvm = s.nvm := rfl
@[simp] theorem State.setCounter_spillMem (t k : Nat) (c : Counter) : (s.setCounter t k c).spillMem = s.spillMem := rfl
@[simp] theorem State.setCounter_layout (t k : Nat) (c : Counter) : (s.setCounter t k c).layout = s.layout := rfl
@[simp] theorem State.setCounter_fuses (t k : Nat) (c : Counter) : (s.setCounter t k c).fuses = s.fuses := rfl
@[simp] theorem State.setCounter_ds (t k : Nat) (c : Counter) : (s.setCounter t k c).ds = s.ds := rfl
@[simp] theorem State.setCounter_sp (t k : Nat) (c : Counter) : (s.setCounter t k c).sp = s.sp := rfl
@[simp] theorem State.setCounter_inFlight (t k : Nat) (c : Counter) : (s.setCounter t k c).inFlight = s.inFlight := rfl
@[simp] theorem State.setCounter_sup (t k : Nat) (c : Counter) : (s.setCounter t k c).sup = s.sup := rfl
@[simp] theorem State.setCounter_parts (t k : Nat) (c : Counter) : (s.setCounter t k c).parts = s.parts := rfl
@[simp] theorem State.setCounter_eg (t k : Nat) (c : Counter) : (s.setCounter t k c).eg = s.eg := rfl
@[simp] theorem State.setCounter_px (t k : Nat) (c : Counter) : (s.setCounter t k c).px = s.px := rfl
@[simp] theorem State.setCounter_pw (t k : Nat) (c : Counter) : (s.setCounter t k c).pw = s.pw := rfl
@[simp] theorem State.setCounter_pins (t k : Nat) (c : Counter) : (s.setCounter t k c).pins = s.pins := rfl
@[simp] theorem State.setCounter_ax (t k : Nat) (c : Counter) : (s.setCounter t k c).ax = s.ax := rfl
@[simp] theorem State.setCounter_boot (t k : Nat) (c : Counter) : (s.setCounter t k c).boot = s.boot := rfl
@[simp] theorem State.setCounter_pk (t k : Nat) (c : Counter) : (s.setCounter t k c).pk = s.pk := rfl
@[simp] theorem State.setCounter_mg (t k : Nat) (c : Counter) : (s.setCounter t k c).mg = s.mg := rfl
@[simp] theorem State.setCounter_cores (t k : Nat) (c : Counter) : (s.setCounter t k c).cores = s.cores := rfl
@[simp] theorem State.setCounter_sramEcc (t k : Nat) (c : Counter) : (s.setCounter t k c).sramEcc = s.sramEcc := rfl
@[simp] theorem State.setCounter_heldStores (t k : Nat) (c : Counter) : (s.setCounter t k c).heldStores = s.heldStores := rfl
@[simp] theorem State.setCounter_link (t k : Nat) (c : Counter) : (s.setCounter t k c).link = s.link := rfl
@[simp] theorem State.setCounter_spi (t k : Nat) (c : Counter) : (s.setCounter t k c).spi = s.spi := rfl
@[simp] theorem State.setCounter_debug (t k : Nat) (c : Counter) : (s.setCounter t k c).debug = s.debug := rfl
@[simp] theorem State.setCounter_freeIdx (t k : Nat) (c : Counter) : (s.setCounter t k c).freeIdx = s.freeIdx := rfl
@[simp] theorem State.setCounter_snagQueue (t k : Nat) (c : Counter) : (s.setCounter t k c).snagQueue = s.snagQueue := rfl
@[simp] theorem State.setCounter_logSlots (t k : Nat) (c : Counter) : (s.setCounter t k c).logSlots = s.logSlots := rfl
@[simp] theorem State.setCounter_pending (t k : Nat) (c : Counter) : (s.setCounter t k c).pending = s.pending := rfl
@[simp] theorem State.setCounter_reg (t k : Nat) (c : Counter) (r : Nat) : (s.setCounter t k c).reg r = s.reg r := rfl
@[simp] theorem State.setCounter_fld (t k : Nat) (c : Counter) (g : RegField) : (s.setCounter t k c).fld g = s.fld g := rfl
@[simp] theorem State.setCounter_flag (t k : Nat) (c : Counter) (g : RegField) : (s.setCounter t k c).flag g = s.flag g := rfl

/-! ### setPart -/

@[simp] theorem State.setPart_regs (p : Nat) (x : PartState) : (s.setPart p x).regs = s.regs := rfl
@[simp] theorem State.setPart_time (p : Nat) (x : PartState) : (s.setPart p x).time = s.time := rfl
@[simp] theorem State.setPart_mem (p : Nat) (x : PartState) : (s.setPart p x).mem = s.mem := rfl
@[simp] theorem State.setPart_tags (p : Nat) (x : PartState) : (s.setPart p x).tags = s.tags := rfl
@[simp] theorem State.setPart_nvm (p : Nat) (x : PartState) : (s.setPart p x).nvm = s.nvm := rfl
@[simp] theorem State.setPart_spillMem (p : Nat) (x : PartState) : (s.setPart p x).spillMem = s.spillMem := rfl
@[simp] theorem State.setPart_layout (p : Nat) (x : PartState) : (s.setPart p x).layout = s.layout := rfl
@[simp] theorem State.setPart_fuses (p : Nat) (x : PartState) : (s.setPart p x).fuses = s.fuses := rfl
@[simp] theorem State.setPart_ds (p : Nat) (x : PartState) : (s.setPart p x).ds = s.ds := rfl
@[simp] theorem State.setPart_sp (p : Nat) (x : PartState) : (s.setPart p x).sp = s.sp := rfl
@[simp] theorem State.setPart_tiles (p : Nat) (x : PartState) : (s.setPart p x).tiles = s.tiles := rfl
@[simp] theorem State.setPart_inFlight (p : Nat) (x : PartState) : (s.setPart p x).inFlight = s.inFlight := rfl
@[simp] theorem State.setPart_sup (p : Nat) (x : PartState) : (s.setPart p x).sup = s.sup := rfl
@[simp] theorem State.setPart_eg (p : Nat) (x : PartState) : (s.setPart p x).eg = s.eg := rfl
@[simp] theorem State.setPart_px (p : Nat) (x : PartState) : (s.setPart p x).px = s.px := rfl
@[simp] theorem State.setPart_pw (p : Nat) (x : PartState) : (s.setPart p x).pw = s.pw := rfl
@[simp] theorem State.setPart_pins (p : Nat) (x : PartState) : (s.setPart p x).pins = s.pins := rfl
@[simp] theorem State.setPart_ax (p : Nat) (x : PartState) : (s.setPart p x).ax = s.ax := rfl
@[simp] theorem State.setPart_boot (p : Nat) (x : PartState) : (s.setPart p x).boot = s.boot := rfl
@[simp] theorem State.setPart_pk (p : Nat) (x : PartState) : (s.setPart p x).pk = s.pk := rfl
@[simp] theorem State.setPart_mg (p : Nat) (x : PartState) : (s.setPart p x).mg = s.mg := rfl
@[simp] theorem State.setPart_cores (p : Nat) (x : PartState) : (s.setPart p x).cores = s.cores := rfl
@[simp] theorem State.setPart_sramEcc (p : Nat) (x : PartState) : (s.setPart p x).sramEcc = s.sramEcc := rfl
@[simp] theorem State.setPart_heldStores (p : Nat) (x : PartState) : (s.setPart p x).heldStores = s.heldStores := rfl
@[simp] theorem State.setPart_link (p : Nat) (x : PartState) : (s.setPart p x).link = s.link := rfl
@[simp] theorem State.setPart_spi (p : Nat) (x : PartState) : (s.setPart p x).spi = s.spi := rfl
@[simp] theorem State.setPart_debug (p : Nat) (x : PartState) : (s.setPart p x).debug = s.debug := rfl
@[simp] theorem State.setPart_freeIdx (p : Nat) (x : PartState) : (s.setPart p x).freeIdx = s.freeIdx := rfl
@[simp] theorem State.setPart_snagQueue (p : Nat) (x : PartState) : (s.setPart p x).snagQueue = s.snagQueue := rfl
@[simp] theorem State.setPart_logSlots (p : Nat) (x : PartState) : (s.setPart p x).logSlots = s.logSlots := rfl
@[simp] theorem State.setPart_pending (p : Nat) (x : PartState) : (s.setPart p x).pending = s.pending := rfl
@[simp] theorem State.setPart_reg (p : Nat) (x : PartState) (r : Nat) : (s.setPart p x).reg r = s.reg r := rfl
@[simp] theorem State.setPart_fld (p : Nat) (x : PartState) (g : RegField) : (s.setPart p x).fld g = s.fld g := rfl
@[simp] theorem State.setPart_flag (p : Nat) (x : PartState) (g : RegField) : (s.setPart p x).flag g = s.flag g := rfl

/-! ### setCore -/

@[simp] theorem State.setCore_regs (c : Nat) (x : Core) : (s.setCore c x).regs = s.regs := rfl
@[simp] theorem State.setCore_time (c : Nat) (x : Core) : (s.setCore c x).time = s.time := rfl
@[simp] theorem State.setCore_mem (c : Nat) (x : Core) : (s.setCore c x).mem = s.mem := rfl
@[simp] theorem State.setCore_tags (c : Nat) (x : Core) : (s.setCore c x).tags = s.tags := rfl
@[simp] theorem State.setCore_nvm (c : Nat) (x : Core) : (s.setCore c x).nvm = s.nvm := rfl
@[simp] theorem State.setCore_spillMem (c : Nat) (x : Core) : (s.setCore c x).spillMem = s.spillMem := rfl
@[simp] theorem State.setCore_layout (c : Nat) (x : Core) : (s.setCore c x).layout = s.layout := rfl
@[simp] theorem State.setCore_fuses (c : Nat) (x : Core) : (s.setCore c x).fuses = s.fuses := rfl
@[simp] theorem State.setCore_ds (c : Nat) (x : Core) : (s.setCore c x).ds = s.ds := rfl
@[simp] theorem State.setCore_sp (c : Nat) (x : Core) : (s.setCore c x).sp = s.sp := rfl
@[simp] theorem State.setCore_tiles (c : Nat) (x : Core) : (s.setCore c x).tiles = s.tiles := rfl
@[simp] theorem State.setCore_inFlight (c : Nat) (x : Core) : (s.setCore c x).inFlight = s.inFlight := rfl
@[simp] theorem State.setCore_sup (c : Nat) (x : Core) : (s.setCore c x).sup = s.sup := rfl
@[simp] theorem State.setCore_parts (c : Nat) (x : Core) : (s.setCore c x).parts = s.parts := rfl
@[simp] theorem State.setCore_eg (c : Nat) (x : Core) : (s.setCore c x).eg = s.eg := rfl
@[simp] theorem State.setCore_px (c : Nat) (x : Core) : (s.setCore c x).px = s.px := rfl
@[simp] theorem State.setCore_pw (c : Nat) (x : Core) : (s.setCore c x).pw = s.pw := rfl
@[simp] theorem State.setCore_pins (c : Nat) (x : Core) : (s.setCore c x).pins = s.pins := rfl
@[simp] theorem State.setCore_ax (c : Nat) (x : Core) : (s.setCore c x).ax = s.ax := rfl
@[simp] theorem State.setCore_boot (c : Nat) (x : Core) : (s.setCore c x).boot = s.boot := rfl
@[simp] theorem State.setCore_pk (c : Nat) (x : Core) : (s.setCore c x).pk = s.pk := rfl
@[simp] theorem State.setCore_mg (c : Nat) (x : Core) : (s.setCore c x).mg = s.mg := rfl
@[simp] theorem State.setCore_sramEcc (c : Nat) (x : Core) : (s.setCore c x).sramEcc = s.sramEcc := rfl
@[simp] theorem State.setCore_heldStores (c : Nat) (x : Core) : (s.setCore c x).heldStores = s.heldStores := rfl
@[simp] theorem State.setCore_link (c : Nat) (x : Core) : (s.setCore c x).link = s.link := rfl
@[simp] theorem State.setCore_spi (c : Nat) (x : Core) : (s.setCore c x).spi = s.spi := rfl
@[simp] theorem State.setCore_debug (c : Nat) (x : Core) : (s.setCore c x).debug = s.debug := rfl
@[simp] theorem State.setCore_freeIdx (c : Nat) (x : Core) : (s.setCore c x).freeIdx = s.freeIdx := rfl
@[simp] theorem State.setCore_snagQueue (c : Nat) (x : Core) : (s.setCore c x).snagQueue = s.snagQueue := rfl
@[simp] theorem State.setCore_logSlots (c : Nat) (x : Core) : (s.setCore c x).logSlots = s.logSlots := rfl
@[simp] theorem State.setCore_pending (c : Nat) (x : Core) : (s.setCore c x).pending = s.pending := rfl
@[simp] theorem State.setCore_reg (c : Nat) (x : Core) (r : Nat) : (s.setCore c x).reg r = s.reg r := rfl
@[simp] theorem State.setCore_fld (c : Nat) (x : Core) (g : RegField) : (s.setCore c x).fld g = s.fld g := rfl
@[simp] theorem State.setCore_flag (c : Nat) (x : Core) (g : RegField) : (s.setCore c x).flag g = s.flag g := rfl

/-! ### writeBytes -/

@[simp] theorem State.writeBytes_regs (a : Nat) (bs : List Byte) : (s.writeBytes a bs).regs = s.regs := rfl
@[simp] theorem State.writeBytes_time (a : Nat) (bs : List Byte) : (s.writeBytes a bs).time = s.time := rfl
@[simp] theorem State.writeBytes_tags (a : Nat) (bs : List Byte) : (s.writeBytes a bs).tags = s.tags := rfl
@[simp] theorem State.writeBytes_nvm (a : Nat) (bs : List Byte) : (s.writeBytes a bs).nvm = s.nvm := rfl
@[simp] theorem State.writeBytes_spillMem (a : Nat) (bs : List Byte) : (s.writeBytes a bs).spillMem = s.spillMem := rfl
@[simp] theorem State.writeBytes_layout (a : Nat) (bs : List Byte) : (s.writeBytes a bs).layout = s.layout := rfl
@[simp] theorem State.writeBytes_fuses (a : Nat) (bs : List Byte) : (s.writeBytes a bs).fuses = s.fuses := rfl
@[simp] theorem State.writeBytes_ds (a : Nat) (bs : List Byte) : (s.writeBytes a bs).ds = s.ds := rfl
@[simp] theorem State.writeBytes_sp (a : Nat) (bs : List Byte) : (s.writeBytes a bs).sp = s.sp := rfl
@[simp] theorem State.writeBytes_tiles (a : Nat) (bs : List Byte) : (s.writeBytes a bs).tiles = s.tiles := rfl
@[simp] theorem State.writeBytes_inFlight (a : Nat) (bs : List Byte) : (s.writeBytes a bs).inFlight = s.inFlight := rfl
@[simp] theorem State.writeBytes_sup (a : Nat) (bs : List Byte) : (s.writeBytes a bs).sup = s.sup := rfl
@[simp] theorem State.writeBytes_parts (a : Nat) (bs : List Byte) : (s.writeBytes a bs).parts = s.parts := rfl
@[simp] theorem State.writeBytes_eg (a : Nat) (bs : List Byte) : (s.writeBytes a bs).eg = s.eg := rfl
@[simp] theorem State.writeBytes_px (a : Nat) (bs : List Byte) : (s.writeBytes a bs).px = s.px := rfl
@[simp] theorem State.writeBytes_pw (a : Nat) (bs : List Byte) : (s.writeBytes a bs).pw = s.pw := rfl
@[simp] theorem State.writeBytes_pins (a : Nat) (bs : List Byte) : (s.writeBytes a bs).pins = s.pins := rfl
@[simp] theorem State.writeBytes_ax (a : Nat) (bs : List Byte) : (s.writeBytes a bs).ax = s.ax := rfl
@[simp] theorem State.writeBytes_boot (a : Nat) (bs : List Byte) : (s.writeBytes a bs).boot = s.boot := rfl
@[simp] theorem State.writeBytes_pk (a : Nat) (bs : List Byte) : (s.writeBytes a bs).pk = s.pk := rfl
@[simp] theorem State.writeBytes_mg (a : Nat) (bs : List Byte) : (s.writeBytes a bs).mg = s.mg := rfl
@[simp] theorem State.writeBytes_cores (a : Nat) (bs : List Byte) : (s.writeBytes a bs).cores = s.cores := rfl
@[simp] theorem State.writeBytes_sramEcc (a : Nat) (bs : List Byte) : (s.writeBytes a bs).sramEcc = s.sramEcc := rfl
@[simp] theorem State.writeBytes_heldStores (a : Nat) (bs : List Byte) : (s.writeBytes a bs).heldStores = s.heldStores := rfl
@[simp] theorem State.writeBytes_link (a : Nat) (bs : List Byte) : (s.writeBytes a bs).link = s.link := rfl
@[simp] theorem State.writeBytes_spi (a : Nat) (bs : List Byte) : (s.writeBytes a bs).spi = s.spi := rfl
@[simp] theorem State.writeBytes_debug (a : Nat) (bs : List Byte) : (s.writeBytes a bs).debug = s.debug := rfl
@[simp] theorem State.writeBytes_freeIdx (a : Nat) (bs : List Byte) : (s.writeBytes a bs).freeIdx = s.freeIdx := rfl
@[simp] theorem State.writeBytes_snagQueue (a : Nat) (bs : List Byte) : (s.writeBytes a bs).snagQueue = s.snagQueue := rfl
@[simp] theorem State.writeBytes_logSlots (a : Nat) (bs : List Byte) : (s.writeBytes a bs).logSlots = s.logSlots := rfl
@[simp] theorem State.writeBytes_pending (a : Nat) (bs : List Byte) : (s.writeBytes a bs).pending = s.pending := rfl
@[simp] theorem State.writeBytes_reg (a : Nat) (bs : List Byte) (r : Nat) : (s.writeBytes a bs).reg r = s.reg r := rfl
@[simp] theorem State.writeBytes_fld (a : Nat) (bs : List Byte) (g : RegField) : (s.writeBytes a bs).fld g = s.fld g := rfl
@[simp] theorem State.writeBytes_flag (a : Nat) (bs : List Byte) (g : RegField) : (s.writeBytes a bs).flag g = s.flag g := rfl

/-! ### setTag -/

@[simp] theorem State.setTag_regs (key : Nat) : (s.setTag key).regs = s.regs := rfl
@[simp] theorem State.setTag_time (key : Nat) : (s.setTag key).time = s.time := rfl
@[simp] theorem State.setTag_mem (key : Nat) : (s.setTag key).mem = s.mem := rfl
@[simp] theorem State.setTag_nvm (key : Nat) : (s.setTag key).nvm = s.nvm := rfl
@[simp] theorem State.setTag_spillMem (key : Nat) : (s.setTag key).spillMem = s.spillMem := rfl
@[simp] theorem State.setTag_layout (key : Nat) : (s.setTag key).layout = s.layout := rfl
@[simp] theorem State.setTag_fuses (key : Nat) : (s.setTag key).fuses = s.fuses := rfl
@[simp] theorem State.setTag_ds (key : Nat) : (s.setTag key).ds = s.ds := rfl
@[simp] theorem State.setTag_sp (key : Nat) : (s.setTag key).sp = s.sp := rfl
@[simp] theorem State.setTag_tiles (key : Nat) : (s.setTag key).tiles = s.tiles := rfl
@[simp] theorem State.setTag_inFlight (key : Nat) : (s.setTag key).inFlight = s.inFlight := rfl
@[simp] theorem State.setTag_sup (key : Nat) : (s.setTag key).sup = s.sup := rfl
@[simp] theorem State.setTag_parts (key : Nat) : (s.setTag key).parts = s.parts := rfl
@[simp] theorem State.setTag_eg (key : Nat) : (s.setTag key).eg = s.eg := rfl
@[simp] theorem State.setTag_px (key : Nat) : (s.setTag key).px = s.px := rfl
@[simp] theorem State.setTag_pw (key : Nat) : (s.setTag key).pw = s.pw := rfl
@[simp] theorem State.setTag_pins (key : Nat) : (s.setTag key).pins = s.pins := rfl
@[simp] theorem State.setTag_ax (key : Nat) : (s.setTag key).ax = s.ax := rfl
@[simp] theorem State.setTag_boot (key : Nat) : (s.setTag key).boot = s.boot := rfl
@[simp] theorem State.setTag_pk (key : Nat) : (s.setTag key).pk = s.pk := rfl
@[simp] theorem State.setTag_mg (key : Nat) : (s.setTag key).mg = s.mg := rfl
@[simp] theorem State.setTag_cores (key : Nat) : (s.setTag key).cores = s.cores := rfl
@[simp] theorem State.setTag_sramEcc (key : Nat) : (s.setTag key).sramEcc = s.sramEcc := rfl
@[simp] theorem State.setTag_heldStores (key : Nat) : (s.setTag key).heldStores = s.heldStores := rfl
@[simp] theorem State.setTag_link (key : Nat) : (s.setTag key).link = s.link := rfl
@[simp] theorem State.setTag_spi (key : Nat) : (s.setTag key).spi = s.spi := rfl
@[simp] theorem State.setTag_debug (key : Nat) : (s.setTag key).debug = s.debug := rfl
@[simp] theorem State.setTag_freeIdx (key : Nat) : (s.setTag key).freeIdx = s.freeIdx := rfl
@[simp] theorem State.setTag_snagQueue (key : Nat) : (s.setTag key).snagQueue = s.snagQueue := rfl
@[simp] theorem State.setTag_logSlots (key : Nat) : (s.setTag key).logSlots = s.logSlots := rfl
@[simp] theorem State.setTag_pending (key : Nat) : (s.setTag key).pending = s.pending := rfl
@[simp] theorem State.setTag_reg (key : Nat) (r : Nat) : (s.setTag key).reg r = s.reg r := rfl
@[simp] theorem State.setTag_fld (key : Nat) (g : RegField) : (s.setTag key).fld g = s.fld g := rfl
@[simp] theorem State.setTag_flag (key : Nat) (g : RegField) : (s.setTag key).flag g = s.flag g := rfl

/-- A row is written as its bytes. -/
theorem State.putRow_eq (key : Nat) (r : Row) : s.putRow key r = s.writeBytes (512 * key) (rowBytes r) := rfl

end Sys2Proof.Machine
end

