-- ==== Sys2Proof/Laws/Memory.lean ====
section
/-! SUPPORT. Laws of the memories: what a byte, a tag or a register reads after a write, and that every operation that
writes a memory, the tag plane or the register file keeps its canonical form. -/

namespace Sys2Proof.Machine

/-! ## Reading after writing -/

/-- A byte outside the written ones reads as before. -/
theorem State.byte_writeBytes_outside (s : State) (a k : Nat) (bs : List Byte) (h : k < a ∨ a + bs.length ≤ k) :
    (s.writeBytes a bs).byte k = s.byte k := Sparse.get_puts_outside memDefault bs s.mem a k h

/-- A written byte reads as it was written. -/
theorem State.byte_writeBytes_inside (s : State) (a i : Nat) (bs : List Byte) (h : i < bs.length) :
    (s.writeBytes a bs).byte (a + i) = bs[i] := Sparse.get_puts_inside memDefault bs s.mem a i h

theorem toLe_length (n v : Nat) : (toLe n v).length = n := by
  induction n generalizing v with
  | zero => rfl
  | succ n ih => exact congrArg (· + 1) (ih _)

theorem rowBytes_length (r : Row) : (rowBytes r).length = 512 := toLe_length 512 _

/-- A row write reaches the 512 bytes of its row alone. -/
theorem State.byte_putRow_outside (s : State) (key k : Nat) (r : Row) (h : k / 512 ≠ key) :
    (s.putRow key r).byte k = s.byte k := by
  have hl := rowBytes_length r
  exact s.byte_writeBytes_outside _ _ _ (by omega)

/-- Writing a row changes the tag of that row at most, and only sets it (R14). -/
theorem State.tags_writeRow (s : State) (key : Nat) (r : Row) (tag : Bool) :
    (s.writeRow key r tag).tags = if tag then Sparse.put tagDefault key true s.tags else s.tags := by
  cases tag <;> simp [State.writeRow, State.setTag, State.putRow]

/-! ## The canonical form -/

/-- The canonical form, memory by memory. -/
theorem State.memWf_iff (s : State) : s.memWf = true ↔
    Sparse.wf memDefault s.mem = true ∧ Sparse.wf nvmDefault s.nvm = true ∧ Sparse.wf spillDefault s.spillMem = true ∧
      Sparse.wf tagDefault s.tags = true ∧ Sparse.wf RegMap.resetValue s.regs = true := by
  simp [State.memWf, Memory.wf, and_assoc]

/-- An update that leaves the five maps alone keeps the canonical form. -/
theorem State.memWf_congr (s t : State) (hm : t.mem = s.mem) (hn : t.nvm = s.nvm) (hs : t.spillMem = s.spillMem)
    (ht : t.tags = s.tags) (hr : t.regs = s.regs) : t.memWf = s.memWf := by
  simp [State.memWf, hm, hn, hs, ht, hr]

/-- A fold of updates that each keep the canonical form keeps it. -/
theorem State.memWf_foldl {α : Type} (f : State → α → State) (hf : ∀ s x, s.memWf = true → (f s x).memWf = true)
    (l : List α) (s : State) (h : s.memWf = true) : (l.foldl f s).memWf = true := by
  induction l generalizing s with
  | nil => exact h
  | cons x l ih => exact ih _ (hf s x h)

/-- A fold of puts keeps the canonical form of a map. -/
theorem Sparse.wf_foldl {α β : Type} [DecidableEq β] (d : Nat → β) (f : List (Nat × β) → α → List (Nat × β))
    (hf : ∀ m x, Sparse.wf d m = true → Sparse.wf d (f m x) = true) (l : List α) (m : List (Nat × β))
    (h : Sparse.wf d m = true) : Sparse.wf d (l.foldl f m) = true := by
  induction l generalizing m with
  | nil => exact h
  | cons x l ih => exact ih _ (hf m x h)

theorem State.memWf_reset : State.reset.memWf = true := by decide

section Keep
variable (s : State) (w : s.memWf = true)
include w

/-! ### Registers -/

theorem State.memWf_setReg (a : Nat) (v : Word) : (s.setReg a v).memWf = true := by
  rw [State.memWf_iff] at w ⊢
  exact ⟨w.1, w.2.1, w.2.2.1, w.2.2.2.1, Sparse.wf_put _ a v _ w.2.2.2.2⟩

theorem State.memWf_setFld (f : RegField) (v : Nat) : (s.setFld f v).memWf = true := s.memWf_setReg w _ _

theorem State.memWf_setFlag (f : RegField) (b : Bool) : (s.setFlag f b).memWf = true := s.memWf_setReg w _ _

theorem State.memWf_incSat (f : RegField) (n : Nat) : (s.incSat f n).memWf = true := by
  unfold State.incSat
  split
  · exact w
  · exact s.memWf_setReg w _ _

theorem State.memWf_incWrap (f : RegField) (n : Nat) : (s.incWrap f n).memWf = true := s.memWf_setReg w _ _

theorem State.memWf_setBankPower (b : Nat) (on : Bool) : (s.setBankPower b on).memWf = true := s.memWf_setReg w _ _

theorem State.memWf_raiseBits (status codeReg code : Nat) : (s.raiseBits status codeReg code).memWf = true :=
  State.memWf_setFld _ (s.memWf_setReg w _ _) _ _

/-- The Snag Log queue takes an entry or counts it lost: only registers change among the five maps. -/
theorem State.memWf_queueSnag (e : SnagEntry) : (s.queueSnag e).memWf = true := by
  unfold State.queueSnag
  split
  · exact State.memWf_setFld { s with snagQueue := s.snagQueue ++ [e] } w _ _
  · exact State.memWf_setFld _ (State.memWf_setFlag _
      (State.memWf_incSat { s with mg := { s.mg with lostDue := s.mg.lostDue + 1 } } w _ _) _ _) _ _

theorem State.memWf_logLimited (key ns src code : Nat) (arg : Word) :
    (s.logLimited key ns src code arg).memWf = true := by
  unfold State.logLimited
  dsimp only
  refine iteInduction (motive := fun t : State => t.memWf = true) (fun _ => ?_) (fun _ => w)
  refine State.memWf_queueSnag _ ?_ _
  exact w

/-- Raising a DS code changes registers and the Snag Log alone (R50). -/
theorem State.memWf_raiseDs (code : Nat) (src : Requester) (addr : Nat) : (s.raiseDs code src addr).memWf = true :=
  State.memWf_logLimited _ (State.memWf_incSat _ (State.memWf_setReg _ (State.memWf_setFld _
    (s.memWf_raiseBits w _ _ _) _ _) _ _) _ _) _ _ _ _ _

theorem State.memWf_putShadow (m : List (Nat × Word)) : (s.putShadow m).memWf = true := by
  rw [State.memWf_iff] at w ⊢
  exact ⟨w.1, w.2.1, w.2.2.1, w.2.2.2.1, Sparse.wf_foldl _ _ (fun _ x h => Sparse.wf_put _ x.1 x.2 _ h) m _
    (Sparse.wf_filter _ _ _ w.2.2.2.2)⟩

/-! ### Bytes, rows and tags -/

theorem State.memWf_writeBytes (a : Nat) (bs : List Byte) : (s.writeBytes a bs).memWf = true := by
  rw [State.memWf_iff] at w ⊢
  exact ⟨Sparse.wf_puts _ bs a _ w.1, w.2⟩

theorem State.memWf_putRow (key : Nat) (r : Row) : (s.putRow key r).memWf = true := s.memWf_writeBytes w _ _

theorem State.memWf_setTag (key : Nat) : (s.setTag key).memWf = true := by
  rw [State.memWf_iff] at w ⊢
  exact ⟨w.1, w.2.1, w.2.2.1, Sparse.wf_put _ key true _ w.2.2.2.1, w.2.2.2.2⟩

theorem State.memWf_writeRow (key : Nat) (r : Row) (tag : Bool) : (s.writeRow key r tag).memWf = true := by
  unfold State.writeRow
  have h := s.memWf_putRow w key r
  generalize s.putRow key r = u at h ⊢
  cases tag with
  | false => exact h
  | true => exact State.memWf_setTag _ h key

theorem State.memWf_openRowAt (key : Nat) (tag : Bool) : (s.openRowAt key tag).memWf = true := s.memWf_writeRow w _ _ tag

theorem State.memWf_openBank (b : Nat) : (s.openBank b).memWf = true :=
  State.memWf_foldl (fun (s : State) k => s.openRowAt (bankFirst b + k) false) (fun s _ h => s.memWf_openRowAt h _ false) _ s w

theorem State.memWf_scrubRow (key : Nat) : (s.scrubRow key).memWf = true := by
  rw [State.memWf_iff] at w ⊢
  exact ⟨Sparse.wf_clear _ _ _ _ w.1, w.2.1, w.2.2.1, Sparse.wf_put _ key false _ w.2.2.2.1, w.2.2.2.2⟩

theorem State.memWf_noteParity (r : Requester) (key : Nat) : (s.noteParity r key).memWf = true := by
  unfold State.noteParity
  split
  · refine State.memWf_raiseDs _ (State.memWf_setTag _ ?_ key) _ _ _
    exact w
  · exact w

theorem State.memWf_scrubOne (key : Nat) : (s.scrubOne key).memWf = true :=
  State.memWf_scrubRow _ (s.memWf_noteParity w .verifier key) key

theorem State.memWf_scrubTagged (lo hi : Nat) : (s.scrubTagged lo hi).memWf = true :=
  State.memWf_foldl _ (fun s k h => s.memWf_scrubOne h k) _ s w

theorem State.memWf_zeroRows (lo hi : Nat) : (s.zeroRows lo hi).memWf = true := by
  rw [State.memWf_iff] at w ⊢
  exact ⟨Sparse.wf_clear _ _ _ _ w.1, w.2.1, w.2.2.1, Sparse.wf_clear _ _ _ _ w.2.2.2.1, w.2.2.2.2⟩

theorem State.memWf_readyBank (old m : List (Nat × Word)) (b : Nat) : (s.readyBank old m b).memWf = true := by
  unfold State.readyBank
  split
  · split
    · exact s.memWf_openBank w b
    · exact w
  · exact State.memWf_setBankPower _ (s.memWf_zeroRows w _ _) b true

theorem State.memWf_clusterDown : s.clusterDown.memWf = true := by
  have h := State.memWf_foldl (fun (s : State) n => s.setCore n (s.core n).off) (fun _ _ h => h) (List.range 4) s w
  rw [State.memWf_iff] at h ⊢
  exact ⟨Sparse.wf_clear _ _ _ _ h.1, h.2⟩

/-! ### The spill memory -/

theorem State.memWf_storeBytes (own : Option Nat) (a : Nat) (bs : List Byte) : (s.storeBytes own a bs).memWf = true := by
  have hb := s.memWf_writeBytes w a bs
  unfold State.storeBytes
  split
  · split
    · exact w
    · rw [State.memWf_iff] at w ⊢
      exact ⟨w.1, w.2.1, Sparse.wf_puts _ bs _ _ w.2.2.1, w.2.2.2⟩
  · exact hb
  · exact hb
  · exact hb

theorem State.memWf_writeRows (p : Nat) (k : Package) : (s.writeRows p k).memWf = true := by
  have h := State.memWf_foldl (fun (s : State) (r : Nat × Row) => s.writeRow r.1 r.2 false)
    (fun s r h => s.memWf_writeRow h r.1 r.2 false) k.rows s w
  unfold State.writeRows
  dsimp only
  split
  · exact h
  · rw [State.memWf_iff] at h ⊢
    exact ⟨h.1, h.2.1, Sparse.wf_foldl _ _ (fun _ r hm => Sparse.wf_puts _ _ _ _ hm) _ _ h.2.2.1, h.2.2.2⟩

/-! ### The NVM -/

theorem State.memWf_nvmProgram (a : Nat) (bs : List Byte) : (s.nvmProgram a bs).memWf = true := by
  rw [State.memWf_iff] at w ⊢
  exact ⟨w.1, Sparse.wf_puts _ _ _ _ w.2.1, w.2.2⟩

theorem State.memWf_nvmErase (a n : Nat) : (s.nvmErase a n).memWf = true := by
  rw [State.memWf_iff] at w ⊢
  exact ⟨w.1, Sparse.wf_clear _ _ _ _ w.2.1, w.2.2⟩

end Keep

end Sys2Proof.Machine
end

