-- ==== Sys2Proof/Laws/Regs.lean ====
section
/-! SUPPORT. Laws of registers and their fields: what a read gives after a write. -/

namespace Sys2Proof.Machine

/-! ## Registers -/

/-- A register reads as it was last written; every other register is unchanged. -/
@[simp] theorem State.reg_setReg (s : State) (a b : Nat) (v : Word) :
    (s.setReg a v).reg b = if b = a then v else s.reg b := Sparse.get_put _ _ _ _ _

theorem State.reg_setReg_same (s : State) (a : Nat) (v : Word) : (s.setReg a v).reg a = v := by simp

theorem State.reg_setReg_ne (s : State) {a b : Nat} (v : Word) (h : b ≠ a) : (s.setReg a v).reg b = s.reg b := by
  simp [h]

/-! ## Bits of a word -/

theorem setBits_nat (n hi lo v : Nat) (h : lo ≤ hi) :
    n / 2 ^ (hi + 1) * 2 ^ (hi + 1) + v % 2 ^ (hi - lo + 1) * 2 ^ lo + n % 2 ^ lo =
      2 ^ lo * (2 ^ (hi - lo + 1) * (n / 2 ^ (hi + 1)) + v % 2 ^ (hi - lo + 1)) + n % 2 ^ lo := by
  have : 2 ^ (hi + 1) = 2 ^ lo * 2 ^ (hi - lo + 1) := by rw [← Nat.pow_add]; congr 1; omega
  rw [this, Nat.mul_add]
  congr 1
  congr 1
  · rw [Nat.mul_comm (n / _), Nat.mul_assoc]
  · exact Nat.mul_comm _ _

/-- Every bit of a word with a field set. -/
theorem getLsbD_setBits (w : Word) (hi lo v i : Nat) (h : lo ≤ hi) (hi32 : i < 32) :
    (setBits w hi lo v).getLsbD i = if lo ≤ i ∧ i ≤ hi then v.testBit (i - lo) else w.getLsbD i := by
  unfold setBits word
  simp only []
  rw [BitVec.getLsbD_ofNat, setBits_nat _ _ _ _ h, Nat.testBit_two_pow_mul_add _ (Nat.mod_lt _ (Nat.two_pow_pos _))]
  simp only [hi32, decide_true, Bool.true_and]
  by_cases h1 : i < lo
  · rw [if_pos h1, if_neg (by omega), Nat.testBit_mod_two_pow]
    simp [h1, BitVec.getLsbD]
  · rw [if_neg h1, Nat.testBit_two_pow_mul_add _ (Nat.mod_lt _ (Nat.two_pow_pos _))]
    by_cases h2 : i ≤ hi
    · rw [if_pos (by omega), if_pos ⟨by omega, h2⟩, Nat.testBit_mod_two_pow]
      have : i - lo < hi - lo + 1 := by omega
      simp [this]
    · rw [if_neg (by omega), if_neg (by omega), Nat.testBit_div_two_pow]
      unfold BitVec.getLsbD
      congr 1
      omega

theorem testBit_bits (w : Word) (hi lo i : Nat) :
    (bits w hi lo).testBit i = (decide (i < hi - lo + 1) && w.getLsbD (lo + i)) := by
  unfold bits
  rw [Nat.testBit_mod_two_pow, Nat.testBit_div_two_pow, Nat.add_comm i lo]
  rfl

/-- A field reads as it was last written, cut to its width. -/
theorem bits_setBits_same (w : Word) (hi lo v : Nat) (h : lo ≤ hi) (h32 : hi < 32) :
    bits (setBits w hi lo v) hi lo = v % 2 ^ (hi - lo + 1) := by
  apply Nat.eq_of_testBit_eq
  intro i
  rw [testBit_bits, Nat.testBit_mod_two_pow]
  by_cases hi' : i < hi - lo + 1
  · rw [getLsbD_setBits w hi lo v _ h (by omega), if_pos ⟨by omega, by omega⟩]
    simp [hi']
  · simp [hi']

/-- A field outside the bits written reads as before. -/
theorem bits_setBits_other (w : Word) (hi lo v hi' lo' : Nat) (h : lo ≤ hi) (h' : lo' ≤ hi') (h32 : hi' < 32)
    (hd : hi' < lo ∨ hi < lo') : bits (setBits w hi lo v) hi' lo' = bits w hi' lo' := by
  apply Nat.eq_of_testBit_eq
  intro i
  rw [testBit_bits, testBit_bits]
  by_cases hi'' : i < hi' - lo' + 1
  · rw [getLsbD_setBits w hi lo v _ h (by omega), if_neg (by omega)]
  · simp [hi'']

theorem tstBit_setBits_same (w : Word) (k : Nat) (b : Bool) (h : k < 32) : tstBit (setBits w k k (bit b)) k = b := by
  unfold tstBit
  rw [getLsbD_setBits w k k _ k (by omega) h, if_pos ⟨by omega, by omega⟩]
  cases b <;> simp [bit]

theorem tstBit_setBits_other (w : Word) (hi lo v k : Nat) (h : lo ≤ hi) (hk : k < 32) (hd : k < lo ∨ hi < k) :
    tstBit (setBits w hi lo v) k = tstBit w k := by
  unfold tstBit
  rw [getLsbD_setBits w hi lo v k h hk, if_neg (by omega)]

/-! ## Fields -/

/-- A field's bits lie inside a 32-bit register, low end first. -/
def RegField.ok (f : RegField) : Bool := decide (f.lo ≤ f.hi) && decide (f.hi < 32)

/-- Two fields share no bit. -/
def RegField.apart (f g : RegField) : Bool := f.addr != g.addr || decide (f.hi < g.lo) || decide (g.hi < f.lo)

theorem State.fld_setFld_same (s : State) (f : RegField) (v : Nat) (h : f.ok = true) :
    (s.setFld f v).fld f = v % 2 ^ (f.hi - f.lo + 1) := by
  simp only [RegField.ok, Bool.and_eq_true, decide_eq_true_eq] at h
  simp only [State.fld, State.setFld, State.reg_setReg, if_true]
  exact bits_setBits_same _ _ _ _ h.1 h.2

theorem State.fld_setFld_other (s : State) (f g : RegField) (v : Nat) (hf : f.ok = true) (hg : g.ok = true)
    (h : RegField.apart f g = true) : (s.setFld f v).fld g = s.fld g := by
  simp only [RegField.ok, Bool.and_eq_true, decide_eq_true_eq] at hf hg
  simp only [RegField.apart, Bool.or_eq_true, bne_iff_ne, decide_eq_true_eq] at h
  simp only [State.fld, State.setFld, State.reg_setReg]
  by_cases ha : g.addr = f.addr
  · rw [if_pos ha, ha]
    apply bits_setBits_other _ _ _ _ _ _ hf.1 hg.1 hg.2
    have := Eq.symm ha
    omega
  · rw [if_neg ha]

theorem State.fld_setReg_ne (s : State) (f : RegField) (a : Nat) (v : Word) (h : f.addr ≠ a) :
    (s.setReg a v).fld f = s.fld f := by simp [State.fld, h]

theorem State.fld_setReg_same (s : State) (f : RegField) (v : Word) : (s.setReg f.addr v).fld f = bits v f.hi f.lo := by
  simp [State.fld]

theorem State.flag_setReg_ne (s : State) (f : RegField) (a : Nat) (v : Word) (h : f.addr ≠ a) :
    (s.setReg a v).flag f = s.flag f := by simp [State.flag, h]

theorem State.reg_setFld_ne (s : State) (f : RegField) (a v : Nat) (h : a ≠ f.addr) :
    (s.setFld f v).reg a = s.reg a := by simp [State.setFld, h]

theorem State.reg_setFlag_ne (s : State) (f : RegField) (a : Nat) (b : Bool) (h : a ≠ f.addr) :
    (s.setFlag f b).reg a = s.reg a := State.reg_setFld_ne s f a _ h

theorem State.reg_incSat_ne (s : State) (f : RegField) (a n : Nat) (h : a ≠ f.addr) :
    (s.incSat f n).reg a = s.reg a := by
  unfold State.incSat
  split
  · rfl
  · exact State.reg_setFld_ne s f a _ h

theorem State.flag_setFlag_same (s : State) (f : RegField) (b : Bool) (h : f.hi = f.lo) (h32 : f.lo < 32) :
    (s.setFlag f b).flag f = b := by
  simp only [State.flag, State.setFlag, State.setFld, State.reg_setReg, if_true, h]
  exact tstBit_setBits_same _ _ _ h32

theorem State.flag_setFld_other (s : State) (f g : RegField) (v : Nat) (hf : f.ok = true) (hg : g.lo < 32)
    (h : f.addr ≠ g.addr ∨ g.lo < f.lo ∨ f.hi < g.lo) : (s.setFld f v).flag g = s.flag g := by
  simp only [RegField.ok, Bool.and_eq_true, decide_eq_true_eq] at hf
  simp only [State.flag, State.setFld, State.reg_setReg]
  by_cases ha : g.addr = f.addr
  · rw [if_pos ha, ha]
    apply tstBit_setBits_other _ _ _ _ _ hf.1 hg
    have := Eq.symm ha
    omega
  · rw [if_neg ha]

theorem State.flag_setFlag_other (s : State) (f g : RegField) (b : Bool) (hf : f.ok = true) (hg : g.lo < 32)
    (h : f.addr ≠ g.addr ∨ g.lo < f.lo ∨ f.hi < g.lo) : (s.setFlag f b).flag g = s.flag g :=
  State.flag_setFld_other s f g _ hf hg h

/-- A saturating counter goes up by `n` and stops at its top (R553). -/
theorem State.fld_incSat (s : State) (f : RegField) (n : Nat) (h : f.ok = true) :
    (s.incSat f n).fld f = min (s.fld f + n) (2 ^ (f.hi - f.lo + 1) - 1) := by
  have hp := Nat.two_pow_pos (f.hi - f.lo + 1)
  unfold State.incSat
  split
  next h0 =>
    have hb : s.fld f < 2 ^ (f.hi - f.lo + 1) := Nat.mod_lt _ hp
    omega
  next =>
    rw [State.fld_setFld_same s f _ h, Nat.mod_eq_of_lt]
    omega

end Sys2Proof.Machine
end

