-- ==== Sys2Proof/Tests/Slice0.lean ====
section
/-! SUPPORT. Small checks: a command that well-formedness refuses for each of its checks, single steps against the spec's
own numbers, and for each clause of each statement a state and operands that meet its hypotheses. -/

namespace Sys2Proof.Tests

open Sys2Proof Sys2Proof.Machine

set_option Elab.async false

/-- The reset state with fields set. -/
def withFlds (l : List (RegField × Nat)) : State := l.foldl (fun s e => s.setFld e.1 e.2) State.reset

/-- A running task of tile 15: program rows 0 and 1 of a near window of 64 rows, and a neighbour and a far window. -/
def task15 : Tile :=
  { run := .running
    task := { progRows := 2, rel := ⟨64, 64, 256, 50, 8192, 64, 16384, 30, false⟩ } }

/-- The reset state with tile 15 as given. -/
def tiled (x : Tile) : State := State.reset.setTile 15 x

/-- Its address registers A0 and up as given. -/
def withA (l : List Word) : Tile := { task15 with a := Vector.ofFn (fun (i : Fin 16) => l.getD i.val 0) }

/-- An op of tile 15 with fields given by their lowest bit. -/
def op15 (fs : List (Nat × Nat)) : TileOp :=
  { tile := 15, fields := fs.foldl (fun w e => w ||| BitVec.ofNat 48 (e.2 * 2 ^ (e.1 - 8))) 0 }

/-- Its tile with a bundle that holds the op in slot X. -/
def holds (s : State) (b : TileOp) (cls opc : Nat) : State :=
  s.setTile b.tile { s.tile b.tile with bundle := some { x := BitVec.ofNat 56 (opWord b cls opc) } }

/-- The row an operand names, or 0. -/
def keyAt (s : State) (a : Word) (k : Nat) (write : Bool) : Nat :=
  match s.locate 15 a k write with
  | .ok (.row q) => q
  | _ => 0

/-- Core 3 as given, and an instruction word at 0x600FFFFC. -/
def cored (x : Core) (w : Nat) : State :=
  { State.reset.setCore 3 x with mem := Sparse.puts memDefault 0x600FFFFC (toLe 4 w) [] }

/-- A running core at an address, with x31 as given. -/
def coreAt (pc : Word) (v : Word) : Core := { running := true, pc := pc, x := vput (Vector.replicate 32 0) 31 v }

/-! ## Well-formedness refuses -/

/-- A store that answers, in the best of health. -/
def goodStore : NvmPart := ⟨true, true, 0x100000, false, true, true⟩

theorem test_illFormed_operands :
    ([.bootScrubDone goodStore true [3], .softwareReset (.core 4) 0, .registerWrite (.tile 16) 0 0,
      .provision .mgmt 65536, .sealOp (.core 4) 0, .digestDone 0 [], .frameInstant (some [0]), .taskEnd 15 65536 0,
      .nop { tile := 16 }, .bankReady 576, .partitionFrameClose 3 [(0, List.replicate 513 0)] [],
      .csWrite .mgmt 4096 [0], .csWrite .mgmt 0 [], .status 0, .axEntryResult [8192], .selfcalDone [],
      .syscalDone [0], .supplyRestartEnd 3, .mboxFirmwareCmd 65536 0 0 [], .mboxFirmwareCmd 0 0 0 (List.replicate 2017 0),
      .lathFrameRxU { bytes := List.replicate 275 0 }] : List Instr).all (fun i => !i.wellFormed) = true := by
  decide +kernel

theorem test_illFormed_rows :
    ([.ringRowWrite { line := 0, part := 0, gain := 2, lines := [⟨0, [], []⟩] } false,
      .ringRowWrite { line := 0, part := 0, lines := [⟨0, [4096], []⟩] } false,
      .ringRowWrite { line := 0, part := 0, lines := [⟨2, [0], [0]⟩] } false,
      .ringRowWrite { line := 0, part := 0, cells := [[4096]] } false, .axEntryResult [-8193]] : List Instr).all
      (fun i => !i.wellFormed) = true := by decide +kernel

/-! ## Numbers of the spec's worked examples and tables -/

/-- The example of chapter 8: FP32 156.25, 3.90625, 2.5 and -2.50390625 give INT8 127, 4, 2 and -3. -/
theorem test_cvt_fp32_int8 :
    [0x431C4000, 0x407A0000, 0x40200000, 0xC0204000].map (fun c => (cvtElem .fp32 .int8 false c).1) =
      [0x7F, 0x04, 0x02, 0xFD] := by decide +kernel

/-- Table 8.7: the largest FP16 as BF16 is 65,536. -/
theorem test_cvt_fp16_bf16 : (cvtElem .fp16 .bf16 false 0x7BFF).1 = 0x4780 := by decide +kernel

/-- Table 8.4: the largest value times the smallest. -/
theorem test_vecMul_extremes :
    (vecElem .mul .e4m3 false 0 0x7E 0x01).1 = 0x36 ∧ (vecElem .mul .fp16 false 0 0x7BFF 0x0001).1 = 0x1BFF := by
  decide +kernel

/-- The example of chapter 5: HCG e_1 saturated, HCG e_2 3,000 below the knee, M 32,768, and HCG before LCG at equal M. -/
theorem test_mergePixel :
    mergePixel 3840 [(262144, true, 9), (32768, true, 7), (4096, false, 4095), (32768, false, 3000)] = (24000, false) := by
  decide +kernel

/-- The example of chapter 5: a LIN20 ring of four slots with its staging takes 51,204 rows, a CMP16 ring 30,724. -/
theorem test_ringRows : 4 * slotRowsOf 1 1 false + stagingRowsOf 1 2 2 false = 51204 ∧
    4 * slotRowsOf 1 2 false + stagingRowsOf 1 2 2 false = 30724 := by decide +kernel

/-- The example of chapter 13: the header of a RECORD_READ request. -/
theorem test_frameHeader : (frameOf 0x28 0 0x18 0 0x1A2B 0 0 0 [0, 1]).take 16 =
    [0x28, 0, 0x18, 0, 0x2B, 0x1A, 0, 0, 2, 0, 0, 0, 0, 0, 0, 1] := by decide +kernel

/-- 2000-02-28 and 2100-02-28 (R435): one is followed by the 29th, the other by March the 1st. -/
theorem test_monthDays : monthDays 0 2 = 29 ∧ monthDays 100 2 = 28 := by decide +kernel

/-- R93: the CRC of the ASCII bytes "123456789". -/
theorem test_crc32 : crc32 (asciiBytes "123456789") = 0xCBF43926 := by decide +kernel

/-! ## The Dust Sheet -/

/-- A state in lifecycle state `n` with owner key slot 3 programmed. -/
def inLc (n : Nat) : State :=
  { withFlds [(Fld.DS_LC_STATE, n)] with fuses := { keys := [none, none, none, some 7] } }

/-- A state whose debug port is open, at step 17, with its first near bank of tile 15 narrow. -/
def debugged : State :=
  { State.reset with boot := { step := 17 }, sp := { inForce := [(Reg.SP_BANKMODE_N 15, 0x80000000)] } }

theorem test_lifecycleCommands_0_2 :
    let s : State := inLc 0
    let k : Fin 3 := 0
    let confirm : Nat := 0
    let may := match k with
      | 0 => s.lifecycle == 0 && (List.range 4).any s.fuses.programmed
      | 1 => s.lifecycle == 1
      | 2 => s.inService && s.tokenOk
    let free := s.flag Fld.DS_DIG_STATUS_BUSY = false ∧ s.flag Fld.DS_LC_STATUS_BUSY = false ∧ s.mg.job = none
    free ∧ k ≠ 2 ∧ may = true ∧ (may = false ∨ confirm % 65536 ≠ 0x5EA1) := by decide +kernel

theorem test_lifecycleCommands_1 :
    let s : State := inLc 3
    let k : Fin 3 := 2
    let free := s.flag Fld.DS_DIG_STATUS_BUSY = false ∧ s.flag Fld.DS_LC_STATUS_BUSY = false ∧ s.mg.job = none
    free ∧ k = 2 ∧ s.inService = true := by decide +kernel

theorem test_lifecycleCommands_3 :
    let r : Requester := .debug
    r ≠ .mgmt := by decide +kernel

theorem test_lifecycleCommands_4 :
    let s : State := withFlds [(Fld.DS_DIG_STATUS_BUSY, 1)]
    s.flag Fld.DS_DIG_STATUS_BUSY = true := by decide +kernel

theorem test_tagQueriesAndDigestRuns_0 :
    let v : Word := 0x4FFFFE00
    (regionOf v.toNat = some 4 ∨ regionOf v.toNat = some 5) := by decide +kernel

theorem test_tagQueriesAndDigestRuns_1_6 :
    let s : State := State.reset
    let v : Word := 0x10000
    regionOf v.toNat ≠ some 4 ∧ regionOf v.toNat ≠ some 5 ∧ s.flag Fld.DS_DIG_STATUS_BUSY = false := by decide +kernel

theorem test_tagQueriesAndDigestRuns_2 :
    let s : State := withFlds [(Fld.SYS_BOOT_STATUS_BOOT_DONE, 1), (Fld.DS_LC_STATE, 0)]
    let v : Word := 0x10002
    let may := (bits v 1 0 = 1 ∧ s.lifecycle ≠ 6 ∨ bits v 1 0 = 2 ∧ s.lifecycle = 0) ∧ s.sensorStopped = true ∧ s.flag
      Fld.DS_DIG_STATUS_BUSY = false ∧ s.flag Fld.SYS_BOOT_STATUS_BOOT_DONE = true ∧ ∀ u, s.ds.lastDigest = some u →
      100000000 ≤ (s.localNs - u).toNat
    tstBit v 16 = true ∧ may := by
  exact ⟨by decide +kernel, by decide +kernel, by decide +kernel, by decide +kernel, by decide +kernel,
    fun u => (show (none : Option (BitVec 64)) = some u → _ from nofun)⟩

theorem test_tagQueriesAndDigestRuns_3 :
    let s : State := State.reset
    let v : Word := 0x10000
    let may := (bits v 1 0 = 1 ∧ s.lifecycle ≠ 6 ∨ bits v 1 0 = 2 ∧ s.lifecycle = 0) ∧ s.sensorStopped = true ∧ s.flag
      Fld.DS_DIG_STATUS_BUSY = false ∧ s.flag Fld.SYS_BOOT_STATUS_BOOT_DONE = true ∧ ∀ u, s.ds.lastDigest = some u →
      100000000 ≤ (s.localNs - u).toNat
    tstBit v 16 = true ∧ ¬ may := by
  exact ⟨by decide +kernel, fun h => absurd h.1 (by decide +kernel)⟩

theorem test_tagQueriesAndDigestRuns_4_5 :
    let s : State := { withFlds [(Fld.DS_DIG_STATUS_BUSY, 1)] with ds := { lcHeld := some 0x2FFFF } }
    let v : Word := 0
    let w := 0x2FFFF
    tstBit v 16 = false ∧ s.flag Fld.DS_DIG_STATUS_BUSY = true ∧ s.ds.lcHeld = some w := by decide +kernel

theorem test_tagQueriesAndDigestRuns_5 :
    let s : State := withFlds [(Fld.DS_DIG_STATUS_BUSY, 1)]
    s.flag Fld.DS_DIG_STATUS_BUSY = true ∧ s.ds.lcHeld = none := by decide +kernel

theorem test_debugPortReach_0 :
    let s : State := State.reset
    s.boot.step < 8 := by decide +kernel

theorem test_debugPortReach_1 :
    let s : State := debugged.setFld Fld.DS_LC_STATE 7
    let later := s.boot.step ≥ 8
    later ∧ s.debugOpen = false := by decide +kernel

theorem test_debugPortReach_2 :
    let s : State := debugged.setFld Fld.DS_LC_STATE 3
    let later := s.boot.step ≥ 8
    later ∧ s.lifecycle = 3 := by decide +kernel

theorem test_debugPortReach_3 :
    let s : State := debugged.setTile 15 { debugged.tile 15 with run := .running }
    let i : Fin 16 := 15
    let x := s.tile i.val
    let later := s.boot.step ≥ 8
    later ∧ s.debugOpen = true ∧ x.run = .running ∧ x.bundle = none ∧ x.tag = false := by decide +kernel

theorem test_debugPortReach_4 :
    let s : State := debugged.setTile 15 { run := .running, bundle := some {} }
    let i : Fin 16 := 15
    let x := s.tile i.val
    let later := s.boot.step ≥ 8
    later ∧ s.debugOpen = true ∧ x.run = .running ∧ x.bundle ≠ none := by decide +kernel

theorem test_debugPortReach_5 :
    let s : State := debugged.setTile 15 { debugged.tile 15 with run := .running, tag := true }
    let i : Fin 16 := 15
    let x := s.tile i.val
    let later := s.boot.step ≥ 8
    later ∧ s.debugOpen = true ∧ x.run = .running ∧ x.bundle = none ∧ x.tag = true := by decide +kernel

theorem test_debugPortReach_6 :
    let s : State := debugged.setTile 0 { debugged.tile 0 with run := .halted }
    let i : Fin 16 := 0
    let x := s.tile i.val
    let later := s.boot.step ≥ 8
    later ∧ s.debugOpen = true ∧ x.run = .halted ∧ x.tag = false := by decide +kernel

theorem test_debugPortReach_7 :
    let s : State := debugged.setCore 0 { halted := true }
    let c : Fin 5 := 0
    let later := s.boot.step ≥ 8
    later ∧ s.debugOpen = true ∧ s.corePowered c.val = true ∧ ¬ (c.val = 4 ∧ s.lifecycle = 3) ∧ (s.core c.val).halted = true := by decide +kernel

theorem test_debugPortReach_8 :
    let s : State := debugged
    let a : Word := 0x21FFFFFC
    let size : Fin 3 := 2
    let n := 2 ^ size.val
    let later := s.boot.step ≥ 8
    let near := 0x20000000 ≤ a.toNat ∧ a.toNat % n = 0 ∧ a.toNat + n ≤ 0x22000000 ∧ s.bankPowered (bankOf (a.toNat / 512)) =
      true ∧ s.bankNarrow (bankOf (a.toNat / 512)) = true ∧ s.sp.ecc = [] ∧ s.sp.badParity = []
    later ∧ near ∧ s.debugOpen = true ∧ s.tagged (a.toNat / 512) = false := by decide +kernel

theorem test_debugPortReach_9 :
    let s : State := { debugged with tags := [(0x10FFFF, true)] }
    let a : Word := 0x21FFFFFF
    let size : Fin 3 := 0
    let n := 2 ^ size.val
    let later := s.boot.step ≥ 8
    let near := 0x20000000 ≤ a.toNat ∧ a.toNat % n = 0 ∧ a.toNat + n ≤ 0x22000000 ∧ s.bankPowered (bankOf (a.toNat / 512)) =
      true ∧ s.bankNarrow (bankOf (a.toNat / 512)) = true ∧ s.sp.ecc = [] ∧ s.sp.badParity = []
    later ∧ near ∧ s.debugOpen = true ∧ s.tagged (a.toNat / 512) = true := by decide +kernel

/-! ## Start-up -/

/-- The boot at a step, with nothing else of it set. -/
def booted (n : Nat) : State := { State.reset with boot := { step := n } }

/-- Fuses whose lifecycle vote fails. -/
def badVote : Fuses := { lc := List.replicate 3 (List.replicate 3 none) }

theorem test_resetsAndTheirCauses_1_2 :
    let s : State := { State.reset with pins := { State.reset.pins with resetN := false } }
    s.pins.resetN = false ∧ s.pins.vddAon = true := by decide +kernel

theorem test_resetsAndTheirCauses_3 :
    let s : State := { State.reset with pins := { State.reset.pins with resetN := false, vddAon := false } }
    s.pins.resetN = false ∧ s.pins.vddAon = false := by decide +kernel

theorem test_resetsAndTheirCauses_5 :
    let s : State := withFlds [(Fld.PW_STATUS_LDO_NORMAL, 0), (Fld.PW_STATE_STATE, 4)]
    s.flag Fld.PW_STATUS_LDO_NORMAL = false ∧ (s.power = 2 ∨ s.power = 3 ∨ s.power = 4) := by decide +kernel

theorem test_resetsAndTheirCauses_7 :
    let v : Word := 0x5353FFFF
    bits v 31 16 ≠ 0x5352 := by decide +kernel

theorem test_resetsAndTheirCauses_6_8_9 :
    let s : State := withFlds [(Fld.SYS_WDT_CTRL_EN, 1)]
    let v : Word := 0x53520000
    s.flag Fld.SYS_WDT_CTRL_EN = true ∧ s.power < 2 ∧ bits v 31 16 = 0x5352 ∧ s.resetNow causeWatchdog = false := by decide +kernel

theorem test_bootFailuresRetry_0 :
    let s : State := booted 1
    s.booting = true ∧ s.boot.step = 1 := by decide +kernel

theorem test_bootFailuresRetry_1_5 :
    let s : State := booted 4
    s.booting = true ∧ s.boot.step = 4 ∧ 3 ≤ s.boot.step := by decide +kernel

theorem test_bootFailuresRetry_2 :
    let s : State := booted 5
    s.booting = true ∧ s.boot.step = 5 := by decide +kernel

theorem test_bootFailuresRetry_3 :
    let s : State := booted 6
    s.booting = true ∧ s.boot.step = 6 := by decide +kernel

theorem test_bootFailuresRetry_4 :
    let s : State := booted 7
    s.booting = true ∧ s.boot.step = 7 ∧ s.pins.vddMemGood = false := by decide +kernel

theorem test_bootFailuresRetry_6 :
    let s : State := { withFlds [(Fld.SYS_BOOT_STATUS_RETRIES, 1)] with boot := { failed := some 0x0F01 } }
    s.boot.failed.isSome = true ∧ s.fld Fld.SYS_BOOT_STATUS_RETRIES < 2 := by decide +kernel

theorem test_bootFailuresRetry_7 :
    let s : State := { withFlds [(Fld.SYS_BOOT_STATUS_RETRIES, 2)] with boot := { failed := some 0x0F01 } }
    s.boot.failed.isSome = true ∧ s.fld Fld.SYS_BOOT_STATUS_RETRIES = 2 := by decide +kernel

theorem test_bootStepsAndPins_0 :
    let s : State := booted 1
    s.booting = true ∧ s.boot.step = 1 ∧ s.power ≠ 3 ∧ s.fuses.lifecycle ≠ 6 := by decide +kernel

theorem test_bootStepsAndPins_1 :
    let s : State := { booted 1 with fuses := badVote }
    s.booting = true ∧ s.boot.step = 1 ∧ s.power ≠ 3 ∧ s.fuses.lifecycle = 6 := by decide +kernel

theorem test_bootStepsAndPins_4 :
    let s : State := { State.reset with pins := { State.reset.pins with vddioMode := 2 } }
    s.pins.vddioMode ≠ 0 := by decide +kernel

theorem test_bootStepsAndPins_5 :
    let s : State := { booted 5 with pins := { State.reset.pins with vcoreEn := true } }
    s.pins.vcoreEn = true ∧ s.booting = true ∧ s.boot.step = 5 ∧ s.power ≠ 3 := by decide +kernel

theorem test_bootStepsAndPins_7 :
    let s : State := { State.reset with pw := { avs := { current := some (800, false) } } }
    let a := s.pw.avs
    a.current.isSome = true ∧ a.written = false := by decide +kernel

theorem test_bootStepsAndPins_8 :
    let s : State := { booted 6 with pw := { avs := { current := some (800, false), written := true } } }
    let mv : Nat := 808
    let a := s.pw.avs
    a.current = some (800, false) ∧ a.written = true ∧ a.waiting = none ∧ 792 ≤ mv ∧ mv ≤ 808 ∧ s.booting = true ∧
      s.boot.step = 6 ∧ s.power ≠ 3 := by decide +kernel

theorem test_bootStepsAndPins_11 :
    let s : State := State.reset
    s.flag Fld.SYS_WDT_CTRL_EN = false := by decide +kernel

/-- A unit at boot step `n`, with the boot record and the supplies of that step. -/
def atStep (n : Nat) (x : BootState) : State :=
  { State.reset with boot := { x with step := n }, pins := { State.reset.pins with vddMemGood := true, vcoreEn := true } }

/-- An entry of a register section. -/
def primerEntry (block off val : Nat) : List Byte := toLe 2 block ++ toLe 2 off ++ toLe 4 val

/-- A Primer image with a section for each block that must have one. -/
def primer (gen : Nat) : List Byte :=
  let bodies : List (Nat × List Byte) :=
    [(1, primerEntry 0x0D 0x0C 1), (2, primerEntry 0x08 0x10 0), (5, primerEntry 0x09 0x08 0), (6, toLe 32 0),
      (8, toLe 4 2 ++ toLe 4 0x50000 ++ toLe 16 0x400), (4, primerEntry 0x0C 0x10 0)]
  let data := (bodies.map (fun b => b.2)).flatten
  let table := bodies.foldl (fun (t : List Byte × Nat) b =>
      (t.1 ++ toLe 4 (0x10000 + b.1) ++ toLe 4 t.2 ++ toLe 4 b.2.length ++ toLe 4 (crc32 b.2).toNat, t.2 + b.2.length))
    ([], 0xA0)
  let len := 0xA0 + data.length + 96
  let h := toLe 4 0x52504743 ++ toLe 2 1 ++ toLe 2 0x40 ++ toLe 4 len ++ toLe 4 6 ++ toLe 4 gen ++ toLe 4 0xFF00 ++
    toLe 4 0x4816 ++ toLe 4 (crc32 table.1).toNat ++ toLe 4 (len - 96) ++ toLe 24 0
  h ++ toLe 4 (crc32 h).toNat ++ table.1 ++ data ++ toLe 96 0

/-- A store that answers discovery or not. -/
def store (r : Bool) : NvmPart := { responds := r, sfdp := true, size := 0x100000, method4 := false, quad144 := true, quadAgrees := true }

/-- Bytes of the store from an offset on, in the form State keeps them. -/
def storeCells (o : Nat) (bs : List Byte) : List (Nat × Byte) :=
  (bs.zipIdx.map (fun e => (o + e.2, e.1))).filter (fun e => e.2 != 0xFF)

/-- Boot step 7 with a Primer image in slot A and the header of an older one in slot B. -/
def primed : State :=
  { atStep 7 {} with nvm := storeCells 0 (primer 5) ++ storeCells 0x10000 ((primer 3).take 0xA0) }

theorem test_bootScrubThenPrimer_0 :
    let s : State := atStep 7 {}
    let part : NvmPart := store false
    let due := s.booting = true ∧ s.boot.step = 7 ∧ s.pins.vddMemGood = true
    due ∧ s.lifecycle ≠ 7 ∧ part.responds = false := by decide +kernel

theorem test_bootScrubThenPrimer_1_2 :
    let s : State := (atStep 7 {}).setFld Fld.DS_LC_STATE 7
    let part : NvmPart := store false
    let due := s.booting = true ∧ s.boot.step = 7 ∧ s.pins.vddMemGood = true
    due ∧ s.lifecycle = 7 ∧ part.responds = false := by decide +kernel

theorem test_bootScrubThenPrimer_3 :
    let s : State := atStep 7 {}
    let part : NvmPart := store true
    let none3 := (List.range 3).all (fun k => s.slotExcluded k || !primerHeaderOk (s.primerImage k))
    let due := s.booting = true ∧ s.boot.step = 7 ∧ s.pins.vddMemGood = true
    due ∧ s.lifecycle ≠ 7 ∧ part.responds = true ∧ none3 = true := by decide +kernel

theorem test_bootScrubThenPrimer_4 :
    let s : State := primed
    let part : NvmPart := store true
    let bad : List Nat := []
    let u := (((s.bootScrub).nvmDiscover part).bootSnag)
    let img := u.primerImage 0
    let due := s.booting = true ∧ s.boot.step = 7 ∧ s.pins.vddMemGood = true
    due ∧ s.lifecycle ≠ 7 ∧ s.ax.passes = [] ∧ s.ax.calNext = false ∧ part.responds = true ∧ part.sfdp = true ∧ part.size ≤
      0x1000000 ∧ s.slotExcluded 0 = false ∧ s.slotExcluded 1 = false ∧ primerHeaderOk img = true ∧ primerHeaderOk
      (u.primerImage 1) = true ∧ primerGeneration (u.primerImage 1) ≤ primerGeneration img ∧ u.primerCode img 0
      (bad.contains 0) = none ∧ ((u.setFld Fld.SYS_BOOT_STATUS_PRIMER 0).applyPrimer img).isSome = true := by decide +kernel

/-- An unsigned management firmware image of one body granule, loaded and entered at 0x40000. -/
def firmware : List Byte :=
  let body := toLe 8 7
  let h := toLe 4 0x57464743 ++ toLe 2 1 ++ toLe 2 0x40 ++ toLe 4 0xA8 ++ toLe 4 2 ++ toLe 4 9 ++ toLe 1 0 ++ toLe 1 0xFF ++ toLe 2 0 ++
    toLe 4 0x4816 ++ toLe 4 0x40000 ++ toLe 4 0x48 ++ toLe 4 0x40000 ++ toLe 12 0 ++ toLe 4 (crc32 body).toNat ++ toLe 4 0
  h ++ toLe 4 (crc32 h).toNat ++ body ++ toLe 96 0

/-- Boot step 14 with the locator of management firmware, at an NVM content. -/
def firmwareDue (nvm : List (Nat × Byte)) : State :=
  { atStep 14 { toLoad := [⟨2, 0, false, 0x50000, 0x400, 0, 0⟩], locators := [⟨2, 0, false, 0x50000, 0x400, 0, 0⟩] } with nvm := nvm }

theorem test_bootFirmwareLoads_0 :
    let s : State := firmwareDue (storeCells 0x50000 firmware)
    let l : Locator := ⟨2, 0, false, 0x50000, 0x400, 0, 0⟩
    let ls : List Locator := []
    let io : Option Nat := none
    let img := s.nvmBytes l.aOff (min l.aLen (le (s.nvmBytes l.aOff 64) 8 4))
    let code := s.fwCode img 2 l.aLen (io.any (fun a => decide (a < img.length)))
    s.booting = true ∧ s.boot.step = 14 ∧ s.boot.toLoad = l :: ls ∧ s.boot.locators = l :: ls ∧ l.kind = 2 ∧ l.part = 0 ∧
      l.hasB = false ∧ code = none := by decide +kernel

theorem test_bootFirmwareLoads_0b :
    let s : State := firmwareDue []
    let l : Locator := ⟨2, 0, false, 0x50000, 0x400, 0, 0⟩
    let ls : List Locator := []
    let io : Option Nat := none
    let img := s.nvmBytes l.aOff (min l.aLen (le (s.nvmBytes l.aOff 64) 8 4))
    let code := s.fwCode img 2 l.aLen (io.any (fun a => decide (a < img.length)))
    s.booting = true ∧ s.boot.step = 14 ∧ s.boot.toLoad = l :: ls ∧ s.boot.locators = l :: ls ∧ l.kind = 2 ∧ l.part = 0 ∧
      l.hasB = false ∧ code.isSome = true := by decide +kernel

theorem test_stepSeventeenEntersRun_0 :
    let s : State := booted 7
    s.booting = true ∧ (s.boot.step ≠ 14 ∨ s.boot.toLoad ≠ [] ∨ s.pw.avs.current ≠ none) := by decide +kernel

theorem test_stepSeventeenEntersRun_1 :
    let s : State := atStep 14 {}
    let due := s.booting = true ∧ s.boot.step = 14 ∧ s.boot.toLoad = [] ∧ s.pw.avs.current = none
    due ∧ s.recoveryDue = false ∧ s.boot.startSkim = false := by decide +kernel

theorem test_stepSeventeenEntersRun_2 :
    let s : State := (atStep 14 {}).setFld Fld.SYS_BOOT_STATUS_PRIMER 2
    let due := s.booting = true ∧ s.boot.step = 14 ∧ s.boot.toLoad = [] ∧ s.pw.avs.current = none
    due ∧ s.recoveryDue = true := by decide +kernel

/-! ## Layout and address map -/

theorem test_registerWritesByAccessCode_1_3 :
    let a : Word := 0x100FFFFB
    0x10000000 ≤ a.toNat ∧ a.toNat + 4 ≤ 0x10100000 ∧ a.toNat % 4 ≠ 0 := by decide +kernel

theorem test_registerWritesByAccessCode_2_5 :
    let s : State := State.reset
    let n : Fin 4 := 3
    let a : Word := 0x1000FFFC
    0x10000040 ≤ a.toNat ∧ a.toNat < 0x10010000 ∧ a.toNat % 4 = 0 ∧ (s.core n.val).resetDue = false := by decide +kernel

theorem test_registerWritesByAccessCode_4 :
    let a : Word := 0x00000FFC
    a.toNat + 4 ≤ 0x1000 := by decide +kernel

theorem test_coreResetAndIrqClear_0 :
    let s : State := State.reset
    (∀ m : Fin 4, s.drained m.val = true) ∧ s.heldStores = [] := by decide +kernel

/-! ## Pixel front end -/

/-- A sensor in state `n`, with the front end's record `x`. -/
def sensing (n : Nat) (x : PxState) : State := { withFlds [(Fld.PX_STATUS_STATE, n)] with px := x }

/-- A unit in Run, Provisioned, whose front end may run. -/
def mayRun (x : PxState) : State :=
  { withFlds [(Fld.DS_LC_STATE, 1), (Fld.SYS_BOOT_STATUS_PHASE, 1), (Fld.PX_CTRL_RUN, 1)] with px := x }

theorem test_frameInstantsTakeSlots_0 :
    let s : State := sensing 1 {}
    let k : Fin 16 := 0
    let run := s.fld Fld.PX_STATUS_STATE = 1 ∧ s.px.captured = none ∧ s.px.skimNext = none ∧ s.pxFld Fld.PX_LOCK_CTRL_EN = 0
      ∧ 2 ≤ s.ringSlots ∧ s.ringSlots ≤ 16
    let first := match s.px.lastSlot with
      | none => 0
      | some l => l + 1
    run ∧ k.val < s.ringSlots ∧ s.hold ((first + k.val) % s.ringSlots) = 0 ∧ (∀ i : Fin 16, i < k → s.hold ((first + i.val)
      % s.ringSlots) ≠ 0) := by decide +kernel

theorem test_frameInstantsTakeSlots_1 :
    let s : State := (sensing 1 {}).setReg Reg.PX_RING_HOLD_LO 0x81
    let run := s.fld Fld.PX_STATUS_STATE = 1 ∧ s.px.captured = none ∧ s.px.skimNext = none ∧ s.pxFld Fld.PX_LOCK_CTRL_EN = 0
      ∧ 2 ≤ s.ringSlots ∧ s.ringSlots ≤ 16
    run ∧ (∀ i : Fin 16, i.val < s.ringSlots → s.hold i.val ≠ 0) := by decide +kernel

theorem test_frameInstantsTakeSlots_2 :
    let s : State := State.reset
    s.instantComes = false := by decide +kernel

theorem test_rowsReachTheRing_0 :
    let f : FrameState := { exposure := 2, cfg := [(Reg.PX_MODE, 0x20)] }
    let s : State := { State.reset with px := { frames := [f] } }
    let r : PixRow := { line := 0, part := 0 }
    let due := s.px.frames = [f] ∧ f.complete = true
    due ∧ s.px.fifo.length < 64 ∧ (∀ k ∈ f.mergedFrom r, s.wideCode k = none ∧ s.rowEcc k = none) := by decide +kernel

theorem test_rowsReachTheRing_1 :
    let s : State := { State.reset with px := { frames := [{}], fifo := List.replicate 64 ⟨0, 0x200000, 0, none, false⟩ } }
    let f : FrameState := {}
    let due := s.px.frames = [f] ∧ f.complete = true
    due ∧ 64 ≤ s.px.fifo.length := by decide +kernel

theorem test_rowsReachTheRing_2_6 :
    let f : FrameState := { exposure := 2, cfg := [(Reg.PX_MODE, 0x20)] }
    let s : State := { State.reset.setReg (Reg.SP_FAR_PWR 0) 0 with px := { frames := [f] } }
    let r : PixRow := { line := 0, part := 0 }
    let k : Nat := (f.mergedFrom r).headD 0
    let ks : List Nat := (f.mergedFrom r).tail
    let code : Nat := 0x0404
    let quiet := s.px.frames.all (fun f => (List.range 4).all (fun p => f.fld (Fld.PX_RING_SIG_EN p) == 0)) = true
    let due := s.px.frames = [f] ∧ f.complete = true
    due ∧ quiet ∧ s.px.fifo.length < 64 ∧ f.mergedFrom r = k :: ks ∧ s.wideCode k = some code ∧ s.px.frames = [f] ∧
      s.headerDue f = false := by decide +kernel

theorem test_rowsReachTheRing_3 :
    let s : State := { State.reset with px := { fifo := [⟨0, 0x200000, 0, some 0, false⟩] } }
    let e : FifoRow := ⟨0, 0x200000, 0, some 0, false⟩
    let quiet := s.px.frames.all (fun f => (List.range 4).all (fun p => f.fld (Fld.PX_RING_SIG_EN p) == 0)) = true
    s.px.fifo = [e] ∧ s.wideCode e.dest = none ∧ quiet ∧ e.held = false := by decide +kernel

theorem test_rowsReachTheRing_4 :
    let s : State := { State.reset with px := { fifo := [⟨0, 0x200000, 0, some 0, true⟩] } }
    let e : FifoRow := ⟨0, 0x200000, 0, some 0, true⟩
    let quiet := s.px.frames.all (fun f => (List.range 4).all (fun p => f.fld (Fld.PX_RING_SIG_EN p) == 0)) = true
    s.px.fifo = [e] ∧ s.wideCode e.dest = none ∧ quiet ∧ e.held = true := by decide +kernel

theorem test_rowsReachTheRing_5 :
    let f : FrameState := { skim := true, acked := List.range ({ skim := true } : FrameState).imageRows }
    let s : State := { State.reset with px := { frames := [f] } }
    let quiet := s.px.frames.all (fun f => (List.range 4).all (fun p => f.fld (Fld.PX_RING_SIG_EN p) == 0)) = true
    let due := s.px.frames = [f] ∧ f.complete = true
    due ∧ s.px.fifo = [] ∧ f.acked.length = f.imageRows ∧ quiet ∧ 1 ≤ f.exposures ∧ s.wideCode f.slotKey = none ∧ f.slot <
      16 ∧ s.fld Fld.PX_STATUS_STATE ≠ 2 := by decide +kernel

theorem test_sensorRunAndApply_0 :
    let s : State := mayRun { supplyGood := true, inForce := [(Reg.PX_RING_BANKS, 0x063A)] }
    let may := s.inService = true ∧ s.flag Fld.DS_DIG_STATUS_BUSY = false ∧ s.ds.pixelStopped = false
    let ring := s.ringOk s.px.inForce s.px.skim
    may ∧ ring = true := by decide +kernel

theorem test_sensorRunAndApply_1_4_7 :
    let s : State := sensing 2 { atStop := true }
    let set := s.pxShadow
    let may := s.inService = true ∧ s.flag Fld.DS_DIG_STATUS_BUSY = false ∧ s.ds.pixelStopped = false
    ¬ may ∧ pxCfgOk set = true ∧ (ringCountOf set = 0 ∨ s.ringOk set s.px.skim = true) ∧ s.pxAfterStop = true := by decide +kernel

theorem test_sensorRunAndApply_2 :
    let s : State := (mayRun { inForce := [(Reg.PX_RING_SLOTS, 17)] })
    let may := s.inService = true ∧ s.flag Fld.DS_DIG_STATUS_BUSY = false ∧ s.ds.pixelStopped = false
    let ring := s.ringOk s.px.inForce s.px.skim
    may ∧ ring = false := by decide +kernel

theorem test_sensorRunAndApply_5 :
    let s : State := State.reset.setReg Reg.PX_MODE 0xFFFFFFFF
    let set := s.pxShadow
    pxCfgOk set = false := by decide +kernel

theorem test_sensorRunAndApply_6 :
    let s : State :=
      { State.reset with px := { captured := some [(Reg.PX_RING_BANKS, 0x0000023E)], inForce := [(Reg.PX_RING_BANKS, 0x0000023E)] } }
    let m : List (Nat × Word) := [(Reg.PX_RING_BANKS, 0x0000023E)]
    s.px.captured = some m ∧ s.px.skimNext = none ∧ s.pxAfterStop = false ∧ s.geomChanges m s.px.skim = false ∧ ringCountOf
      m ≠ 0 := by decide +kernel

/-! ## Tile fabric -/

theorem test_opsWaitOrFault_0 :
    let s : State := State.reset
    let b : TileOp := op15 []
    let cls : Nat := 0
    let opc : Nat := 0
    let i : Instr := .nop (op15 [])
    tileInstr cls opc b = some i ∧ s.canIssue b = false := by decide +kernel

theorem test_opsWaitOrFault_1 :
    let s : State := tiled { task15 with pc := 64 }
    let b : TileOp := op15 []
    let cls : Nat := 0
    let opc : Nat := 0
    let i : Instr := .nop (op15 [])
    let x := s.tile b.tile
    let issues := tileInstr cls opc b = some i ∧ s.canIssue b = true
    let alone := (s.partition x.task.part).frame = none ∧ (vget {} s.ds.faults x.task.part).running = false ∧ x.tag = false
    issues ∧ alone ∧ x.bundle = none ∧ 32 * x.task.progRows ≤ x.pc := by decide +kernel

theorem test_opsWaitOrFault_2 :
    let s : State := tiled { task15 with bundle := some { header := 512 } }
    let b : TileOp := op15 []
    let cls : Nat := 0
    let opc : Nat := 0
    let i : Instr := .nop (op15 [])
    let x := s.tile b.tile
    let issues := tileInstr cls opc b = some i ∧ s.canIssue b = true
    let alone := (s.partition x.task.part).frame = none ∧ (vget {} s.ds.faults x.task.part).running = false ∧ x.tag = false
    issues ∧ alone ∧ s.fetchReady b.tile = true ∧ s.nextLegal b.tile = false := by decide +kernel

theorem test_opsWaitOrFault_3 :
    let s : State := tiled { task15 with bundle := some { x := 1 } }
    let b : TileOp := op15 []
    let cls : Nat := 0
    let opc : Nat := 0
    let i : Instr := .nop (op15 [])
    let u := s.nextBundle b.tile
    let issues := tileInstr cls opc b = some i ∧ s.canIssue b = true
    issues ∧ s.fetchReady b.tile = true ∧ s.nextLegal b.tile = true ∧ u.takes b cls opc = false := by decide +kernel

theorem test_opsWaitOrFault_4 :
    let s : State :=
      { tiled { task15 with bundle := some { header := 256 } } with inFlight := [⟨15, 0, 0x200000, 0, false, none, false, 0, 0⟩] }
    let b : TileOp := op15 []
    let cls : Nat := 0
    let opc : Nat := 0
    let i : Instr := .nop (op15 [])
    let u := s.nextBundle b.tile
    let issues := tileInstr cls opc b = some i ∧ s.canIssue b = true
    issues ∧ s.fetchReady b.tile = true ∧ s.nextLegal b.tile = true ∧ u.takes b cls opc = true ∧ s.nextFenced b.tile = true := by decide +kernel

theorem test_controlOpsAct_0 :
    let b : TileOp := op15 []
    let s : State := holds (tiled { task15 with pc := 63 }) b 0 0
    let ready := fun opc => s.opReady b 0 opc = true
    ready 0 := by decide +kernel

theorem test_controlOpsAct_1 :
    let b : TileOp := op15 []
    let s : State := holds (tiled { task15 with pc := 63 }) b 0 1
    let ready := fun opc => s.opReady b 0 opc = true
    ready 1 := by decide +kernel

theorem test_controlOpsAct_2 :
    let b : TileOp := op15 []
    let s : State := holds (tiled { task15 with pc := 63 }) b 0 2
    let ready := fun opc => s.opReady b 0 opc = true
    ready 2 := by decide +kernel

theorem test_controlOpsAct_3 :
    let b : TileOp := op15 []
    let s : State := holds (tiled { task15 with pc := 63 }) b 0 3
    let ready := fun opc => s.opReady b 0 opc = true
    ready 3 := by decide +kernel

theorem test_controlOpsAct_4 :
    let b : TileOp := op15 []
    let s : State := holds (tiled (withA [63])) b 0 4
    let key : Nat := 0x10F07F
    let x := s.tile b.tile
    let ready := fun opc => s.opReady b 0 opc = true
    ready 4 ∧ (s.locate b.tile (vget 0 x.a (opBits b 15 12)) 0 false).toOption = some (.row key) ∧ s.rowPlain key = true ∧
      b.clash = [] := by decide +kernel

theorem test_controlOpsAct_5 :
    let b : TileOp := op15 []
    let s : State := holds (tiled task15) b 0 5
    let x := s.tile b.tile
    let ready := fun opc => s.opReady b 0 opc = true
    let l := opBits b 10 8
    ready 5 ∧ vget 0 x.l l = 0 := by decide +kernel

theorem test_controlOpsAct_6 :
    let b : TileOp := op15 [(8, 7)]
    let s : State := holds (tiled { task15 with l := Vector.replicate 8 65535 }) b 0 5
    let x := s.tile b.tile
    let ready := fun opc => s.opReady b 0 opc = true
    let l := opBits b 10 8
    ready 5 ∧ vget 0 x.l l ≠ 0 := by decide +kernel

theorem test_controlOpsAct_7 :
    let b : TileOp := op15 []
    let s : State := holds (tiled task15) b 0 6
    let x := s.tile b.tile
    let ready := fun opc => s.opReady b 0 opc = true
    let l := opBits b 10 8
    ready 6 ∧ vget 0 x.l l = 0 := by decide +kernel

theorem test_controlOpsAct_8 :
    let b : TileOp := op15 [(8, 7)]
    let s : State := holds (tiled { task15 with l := Vector.replicate 8 65535 }) b 0 6
    let x := s.tile b.tile
    let ready := fun opc => s.opReady b 0 opc = true
    let l := opBits b 10 8
    ready 6 ∧ vget 0 x.l l ≠ 0 := by decide +kernel

theorem test_controlOpsAct_9 :
    let b : TileOp := op15 []
    let s : State := holds (tiled { task15 with pc := 63 }) b 0 7
    let ready := fun opc => s.opReady b 0 opc = true
    ready 7 := by decide +kernel

theorem test_controlOpsAct_10 :
    let b : TileOp := op15 []
    let s : State := holds (tiled { task15 with pc := 63 }) b 0 8
    let ready := fun opc => s.opReady b 0 opc = true
    ready 8 := by decide +kernel

theorem test_controlOpsAct_11 :
    let s : State := { tiled { task15 with pc := 63 } with tags := [(0x10F041, true)] }
    let b : TileOp := op15 []
    let x := s.tile b.tile
    s.opTaken b 0 0 = true ∧ x.bundle = none ∧ x.pc < 32 * x.task.progRows ∧ s.wideCode (s.programRow b.tile) = none ∧
      s.rowEcc (s.programRow b.tile) = none ∧ s.sp.badParity = [] ∧ s.tagged (s.programRow b.tile) = true := by decide +kernel

theorem test_countersWaitAndSignal_0 :
    let b : TileOp := op15 [(8, 15), (12, 65535)]
    let s : State := holds (tiled { task15 with cnt := Vector.replicate 16 { value := 65535 } }) b 7 0
    let k := opBits b 11 8
    let c := s.counter b.tile k
    s.opReady b 7 0 = true ∧ c.saturated = false ∧ opBits b 27 12 ≤ c.value := by decide +kernel

theorem test_countersWaitAndSignal_1 :
    let b : TileOp := op15 [(8, 15), (12, 65535)]
    let s : State := holds (tiled { task15 with cnt := Vector.replicate 16 { value := 65534 } }) b 7 0
    let k := opBits b 11 8
    let c := s.counter b.tile k
    s.opReady b 7 0 = true ∧ c.saturated = false ∧ c.value < opBits b 27 12 := by decide +kernel

theorem test_countersWaitAndSignal_2 :
    let b : TileOp := op15 [(8, 15), (12, 1)]
    let s : State := holds (tiled { task15 with cnt := Vector.replicate 16 { value := 65535, saturated := true } }) b 7 0
    let x := s.tile b.tile
    let k := opBits b 11 8
    let c := s.counter b.tile k
    let alone := (s.partition x.task.part).frame = none ∧ (vget {} s.ds.faults x.task.part).running = false ∧ x.tag = false
    s.opReady b 7 0 = true ∧ alone ∧ c.saturated = true := by decide +kernel

theorem test_countersWaitAndSignal_3 :
    let b : TileOp := op15 [(8, 15), (12, 1), (13, 9), (17, 255)]
    let s : State := holds (tiled { task15 with cnt := Vector.replicate 16 { value := 65280 } }) b 7 1
    let k := opBits b 11 8
    let n := opBits b 24 17
    let named := fun v : Nat => (v = b.tile ∧ b.fields.getLsbD 4 = true) ∨ ∃ d : Fin 4, b.fields.getLsbD (5 + d.val) = true
      ∧ neighbour b.tile d.val = some v
    s.opReady b 7 1 = true ∧ s.endQuiet b = true ∧ (∀ d : Fin 4, b.fields.getLsbD (5 + d.val) = true → (neighbour b.tile
      d.val).isSome = true) ∧ (∀ v : Fin 16, named v.val → (s.counter v.val k).saturated = false ∧ (s.counter v.val k).value
      + n ≤ 0xFFFF) := by decide +kernel

theorem test_countersWaitAndSignal_4 :
    let b : TileOp := op15 [(14, 1), (17, 1)]
    let s : State := holds (tiled task15) b 7 1
    let x := s.tile b.tile
    let alone := (s.partition x.task.part).frame = none ∧ (vget {} s.ds.faults x.task.part).running = false ∧ x.tag = false
    s.opReady b 7 1 = true ∧ alone ∧ (∃ d : Fin 4, b.fields.getLsbD (5 + d.val) = true ∧ neighbour b.tile d.val = none) := by decide +kernel

theorem test_countersWaitAndSignal_5 :
    let b : TileOp := op15 [(8, 15), (12, 1), (17, 255)]
    let s : State := holds (tiled { task15 with cnt := Vector.replicate 16 { value := 65281 } }) b 7 1
    let x := s.tile b.tile
    let k := opBits b 11 8
    let c := s.counter b.tile k
    let n := opBits b 24 17
    let alone := (s.partition x.task.part).frame = none ∧ (vget {} s.ds.faults x.task.part).running = false ∧ x.tag = false
    s.opReady b 7 1 = true ∧ alone ∧ b.fields.getLsbD 4 = true ∧ opBits b 16 13 = 0 ∧ c.saturated = false ∧ 0xFFFF < c.value
      + n := by decide +kernel

theorem test_countersWaitAndSignal_6 :
    let b : TileOp := op15 [(8, 15), (12, 1), (17, 1)]
    let s : State := holds (tiled { task15 with cnt := Vector.replicate 16 { value := 65535, saturated := true } }) b 7 1
    let k := opBits b 11 8
    let c := s.counter b.tile k
    s.opReady b 7 1 = true ∧ opBits b 16 13 = 0 ∧ c.saturated = true := by decide +kernel

theorem test_tasksEndAndScrub_0 :
    let b : TileOp := op15 []
    let s : State := holds (tiled { task15 with pc := 63 }) b 0 9
    let u : Fin 16 := 15
    b.tile = u.val ∧ s.opReady b 0 9 = true := by decide +kernel

theorem test_tasksEndAndScrub_1_2 :
    let s : State := tiled task15
    let u : Fin 16 := 15
    let code : Nat := 0x0308
    let x := s.tile u.val
    let p := x.task.part
    let busy := x.run = .running ∨ x.run = .halted
    let alone := (s.partition p).frame = none ∧ (vget {} s.ds.faults p).running = false ∧ x.tag = false
    busy ∧ alone ∧ 0x0301 ≤ code ∧ code ≤ 0x0308 := by decide +kernel

theorem test_tasksEndAndScrub_3_6_8 :
    let s : State := tiled task15
    let u : Fin 16 := 15
    let code : Nat := 0x0408
    let x := s.tile u.val
    let p := x.task.part
    let busy := x.run = .running ∨ x.run = .halted
    let alone := (s.partition p).frame = none ∧ (vget {} s.ds.faults p).running = false ∧ x.tag = false
    busy ∧ alone ∧ 0x0401 ≤ code ∧ code ≤ 0x0408 ∧ (¬ busy ∨ s.flag Fld.TF_CTRL_HANG_EN = false ∨ x.task.limit = 0) ∧ (x.run
      ≠ .scrubbing ∨ s.tileLanding u.val = true) := by decide +kernel

theorem test_tasksEndAndScrub_4 :
    let s : State := State.reset
    let u : Fin 16 := 0
    let x := s.tile u.val
    let busy := x.run = .running ∨ x.run = .halted
    ¬ busy := by decide +kernel

theorem test_tasksEndAndScrub_5 :
    let s : State := tiled { task15 with task := { task15.task with limit := 1 } }
    let u : Fin 16 := 15
    let x := s.tile u.val
    let p := x.task.part
    let busy := x.run = .running ∨ x.run = .halted
    let alone := (s.partition p).frame = none ∧ (vget {} s.ds.faults p).running = false ∧ x.tag = false
    busy ∧ alone ∧ s.flag Fld.TF_CTRL_HANG_EN = true ∧ x.task.limit ≠ 0 := by decide +kernel

theorem test_tasksEndAndScrub_7 :
    let s : State := tiled { run := .scrubbing }
    let u : Fin 16 := 15
    let x := s.tile u.val
    x.run = .scrubbing ∧ s.tileLanding u.val = false ∧ s.sp.badParity = [] := by decide +kernel

theorem test_vectorRowsLoadAndStore_0 :
    let b : TileOp := op15 [(12, 15)]
    let s : State := holds (tiled (withA [63])) b 1 2
    let key : Nat := 0x10F07F
    let x := s.tile b.tile
    let a := vget 0 x.a (opBits b 11 8)
    let loads := s.opReady b 1 2 = true ∧ (s.locate b.tile a 0 false).toOption = some (.row key) ∧ s.wideCode key = none ∧
      s.rowEcc key = none ∧ s.sp.badParity = []
    loads ∧ b.clash = [] := by decide +kernel

theorem test_vectorRowsLoadAndStore_1 :
    let b : TileOp := op15 [(12, 15)]
    let s : State := holds (tiled (withA [63])) b 1 3
    let key : Nat := 0x10F07F
    let x := s.tile b.tile
    let a := vget 0 x.a (opBits b 11 8)
    let stores := s.opReady b 1 3 = true ∧ (s.locate b.tile a 0 true).toOption = some (.row key) ∧ s.rowOpen key = true
    stores ∧ s.endQuiet b = true ∧ b.clash = [] := by decide +kernel

theorem test_vectorRowsLoadAndStore_2 :
    let b : TileOp := { op15 [(12, 15)] with clash := [(0, .scrubber)] }
    let s : State := holds (tiled (withA [63])) b 1 3
    let key : Nat := 0x10F07F
    let u : BankUser := .scrubber
    let x := s.tile b.tile
    let a := vget 0 x.a (opBits b 11 8)
    let stores := s.opReady b 1 3 = true ∧ (s.locate b.tile a 0 true).toOption = some (.row key) ∧ s.rowOpen key = true
    stores ∧ s.endQuiet b = true ∧ (u = .engine ∨ u = .scrubber) ∧ b.clash = [(0, u)] := by decide +kernel

theorem test_vectorRowsLoadAndStore_3 :
    let b : TileOp := { op15 [(12, 15)] with clash := [(0, .narrow)] }
    let s : State := holds (tiled (withA [63])) b 1 3
    let key : Nat := 0x10F07F
    let u : BankUser := .narrow
    let x := s.tile b.tile
    let a := vget 0 x.a (opBits b 11 8)
    let stores := s.opReady b 1 3 = true ∧ (s.locate b.tile a 0 true).toOption = some (.row key) ∧ s.rowOpen key = true
    let alone := (s.partition x.task.part).frame = none ∧ (vget {} s.ds.faults x.task.part).running = false ∧ x.tag = false
      ∧ s.faultNow b = true
    stores ∧ alone ∧ (u = .tile ∨ u = .narrow) ∧ b.clash = [(0, u)] := by decide +kernel

theorem test_vectorRowsLoadAndStore_4 :
    let b : TileOp := op15 []
    let s : State := holds (tiled (withA [64])) b 1 2
    let c : Nat := 0x0402
    let x := s.tile b.tile
    let a := vget 0 x.a (opBits b 11 8)
    let alone := (s.partition x.task.part).frame = none ∧ (vget {} s.ds.faults x.task.part).running = false ∧ x.tag = false
      ∧ s.faultNow b = true
    s.opReady b 1 2 = true ∧ alone ∧ s.locate b.tile a 0 false = .error c := by
  refine ⟨?_, ?_, ?_⟩ <;> first | decide +kernel | rfl

theorem test_vectorRowsLoadAndStore_5 :
    let b : TileOp := op15 []
    let s : State := holds (tiled (withA [64])) b 1 3
    let c : Nat := 0x0402
    let x := s.tile b.tile
    let a := vget 0 x.a (opBits b 11 8)
    let alone := (s.partition x.task.part).frame = none ∧ (vget {} s.ds.faults x.task.part).running = false ∧ x.tag = false
      ∧ s.faultNow b = true
    s.opReady b 1 3 = true ∧ alone ∧ s.locate b.tile a 0 true = .error c := by
  refine ⟨?_, ?_, ?_⟩ <;> first | decide +kernel | rfl

theorem test_vectorRowsLoadAndStore_6 :
    let b : TileOp := op15 []
    let s : State := holds (tiled (withA [1])) b 1 3
    let key : Nat := 0x10F041
    let x := s.tile b.tile
    let a := vget 0 x.a (opBits b 11 8)
    let alone := (s.partition x.task.part).frame = none ∧ (vget {} s.ds.faults x.task.part).running = false ∧ x.tag = false
      ∧ s.faultNow b = true
    s.opReady b 1 3 = true ∧ alone ∧ (s.locate b.tile a 0 true).toOption = some (.row key) ∧ s.isProgramRow key = true := by decide +kernel

theorem test_vectorRowsLoadAndStore_7 :
    let b : TileOp := { op15 [(12, 15)] with y := true }
    let s : State := tiled { withA [0x100000] with bundle := some { x := 3, y := BitVec.ofNat 56 (opWord b 1 2) } }
    let x := s.tile b.tile
    let a := vget 0 x.a (opBits b 11 8)
    s.opReady b 1 2 = true ∧ s.faultNow b = false ∧ s.locate b.tile a 0 false = .error 0x0302 := by
  refine ⟨?_, ?_, ?_⟩ <;> first | decide +kernel | rfl

theorem test_rowsCopied_0 :
    let b : TileOp := op15 [(12, 1), (18, 3), (27, 1), (28, 15)]
    let s : State := holds (tiled (withA [60, 0x200000])) b 1 0
    let sk : Nat → Nat := fun i => 0x10F07C + i
    let dk : Nat → Nat → Nat := fun _ i => 0x202000 + i
    let x := s.tile b.tile
    let reg := fun hi : Nat => vget 0 x.a (opBits b hi (hi - 3))
    let sound := fun (n : Nat) (ds : List Nat) => (∀ i, i < n → s.rowPlain (sk i) = true) ∧ (∀ d ∈ ds, ∀ i, i < n →
      s.rowOpen (dk d i) = true ∧ ∀ j, j < n → dk d i ≠ sk j) ∧ (∀ d ∈ ds, ∀ i, i < n → ∀ e ∈ ds, ∀ j, j < n → dk d i = dk e
      j → d = e ∧ i = j)
    let counts := fun (owner k n : Nat) => owner < 16 ∧ (s.counter owner k).saturated = false ∧ (s.counter owner k).value +
      n ≤ 0xFFFF
    let plain := x.tag = false ∧ b.clash = [] ∧ s.sp.requests = [] ∧ s.endQuiet b = true
    let n := opBits b 25 18 + 1
    let owner := fun k : Nat => if 0x200000 ≤ k then b.tile else (k - 0x100000) / 4096
    s.opReady b 1 0 = true ∧ plain ∧ opBit b 26 = false ∧ sound n [0] ∧ (∀ i, i < n → (s.locate b.tile (reg 11) i
      false).toOption = some (.row (sk i)) ∧ (s.locate b.tile (reg 15) i true).toOption = some (.row (dk 0 i))) ∧ (opBit b
      27 = true → counts (owner (dk 0 0)) (opBits b 31 28) n) := by decide +kernel

theorem test_rowsCopied_1 :
    let b : TileOp := op15 [(12, 1), (18, 1), (28, 15), (32, 9)]
    let s : State := holds ({ tiled (withA [62, 48]) with sp := { inForce := [(Reg.SP_TILE_PART 1, 0x01001000)] } }) b 1 1
    let sk : Nat → Nat := fun i => 0x10F07E + i
    let dk : Nat → Nat → Nat := fun d i => (if d = 0 then 0x10B130 else 0x10E130) + i
    let x := s.tile b.tile
    let reg := fun hi : Nat => vget 0 x.a (opBits b hi (hi - 3))
    let sound := fun (n : Nat) (ds : List Nat) => (∀ i, i < n → s.rowPlain (sk i) = true) ∧ (∀ d ∈ ds, ∀ i, i < n →
      s.rowOpen (dk d i) = true ∧ ∀ j, j < n → dk d i ≠ sk j) ∧ (∀ d ∈ ds, ∀ i, i < n → ∀ e ∈ ds, ∀ j, j < n → dk d i = dk e
      j → d = e ∧ i = j)
    let counts := fun (owner k n : Nat) => owner < 16 ∧ (s.counter owner k).saturated = false ∧ (s.counter owner k).value +
      n ≤ 0xFFFF
    let plain := x.tag = false ∧ b.clash = [] ∧ s.sp.requests = [] ∧ s.endQuiet b = true
    let n := opBits b 25 18 + 1
    let dirs := (List.range 4).filter (fun d => opBit b (32 + d))
    let owner := fun k : Nat => if 0x200000 ≤ k then b.tile else (k - 0x100000) / 4096
    s.opReady b 1 1 = true ∧ plain ∧ opBit b 26 = false ∧ sound n dirs ∧ bits (reg 11) 21 20 = 0 ∧ (∀ i, i < n → (s.locate
      b.tile (reg 11) i false).toOption = some (.row (sk i)) ∧ ∀ d ∈ dirs, (s.locate b.tile (setBits (setBits (reg 15) 21 20
      1) 23 22 d) i true).toOption = some (.row (dk d i))) ∧ (∀ d ∈ dirs, counts (owner (dk d 0)) (opBits b 31 28) n) := by decide +kernel

theorem test_rowsCopied_2 :
    let b : TileOp := op15 [(12, 1), (16, 2), (20, 3), (30, 1), (31, 15)]
    let s : State := holds (tiled (withA [2, 63, 0x200000])) b 5 0
    let sk : Nat → Nat := fun _ => 0x10F07F
    let dk : Nat → Nat → Nat := fun _ i => 0x202000 + i
    let key : Nat := 0x10F042
    let x := s.tile b.tile
    let reg := fun hi : Nat => vget 0 x.a (opBits b hi (hi - 3))
    let sound := fun (n : Nat) (ds : List Nat) => (∀ i, i < n → s.rowPlain (sk i) = true) ∧ (∀ d ∈ ds, ∀ i, i < n →
      s.rowOpen (dk d i) = true ∧ ∀ j, j < n → dk d i ≠ sk j) ∧ (∀ d ∈ ds, ∀ i, i < n → ∀ e ∈ ds, ∀ j, j < n → dk d i = dk e
      j → d = e ∧ i = j)
    let counts := fun (owner k n : Nat) => owner < 16 ∧ (s.counter owner k).saturated = false ∧ (s.counter owner k).value +
      n ≤ 0xFFFF
    let plain := x.tag = false ∧ b.clash = [] ∧ s.sp.requests = [] ∧ s.endQuiet b = true
    let m := opBits b 27 20 + 1
    let width := if opBit b 28 then 16 else 32
    let index := fun i : Nat => ((s.row key).extractLsb' (width * i) width).toNat
    s.opReady b 5 0 = true ∧ plain ∧ opBit b 29 = false ∧ sound m [0] ∧ (opBit b 28 = true ∨ m ≤ 128) ∧ bits (reg 15) 21 20
      ≠ 1 ∧ (bits (reg 19) 21 20 = 0 ∨ bits (reg 19) 21 20 = 2) ∧ (s.locate b.tile (reg 11) 0 false).toOption = some (.row
      key) ∧ s.rowPlain key = true ∧ (∀ i, i < m → bits (reg 15) 18 0 + index i < 2 ^ 19 ∧ (bits (reg 15) 21 20 = 2 → (bits
      (reg 15) 18 0 + index i) / 2 ^ 18 = bits (reg 15) 18 0 / 2 ^ 18) ∧ (s.locate b.tile (reg 15) (index i) false).toOption
      = some (.row (sk i)) ∧ (s.locate b.tile (reg 19) i true).toOption = some (.row (dk 0 i))) ∧ (opBit b 30 = true →
      counts b.tile (opBits b 34 31) m) := by
  refine ⟨?_, ?_, ?_, ?_, ?_, ?_, ?_, ?_, ?_, ?_, ?_⟩ <;> first | decide +kernel | rfl

theorem test_rowsInFlightLand_0 :
    let b : TileOp := op15 [(12, 1), (18, 3), (26, 1)]
    let s : State := holds (tiled (withA [60, 0x200000])) b 1 0
    let sk : Nat → Nat := fun i => 0x10F07C + i
    let dk : Nat → Nat := fun i => 0x202000 + i
    let x := s.tile b.tile
    let n := opBits b 25 18 + 1
    s.opReady b 1 0 = true ∧ s.endQuiet b = true ∧ x.tag = false ∧ b.clash = [] ∧ opBit b 26 = true ∧ (s.outstanding
      b.tile).length < 8 ∧ s.sp.requests = [] ∧ (∀ j, j < n → s.rowPlain (sk j) = true ∧ (s.locate b.tile (vget 0 x.a
      (opBits b 11 8)) j false).toOption = some (.row (sk j)) ∧ (s.locate b.tile (vget 0 x.a (opBits b 15 12)) j
      true).toOption = some (.row (dk j))) := by decide +kernel

theorem test_rowsInFlightLand_1 :
    let b : TileOp := op15 [(12, 1), (26, 1)]
    let s : State := holds (holds
      { tiled (withA [60, 0x200000]) with inFlight := (List.range 8).map (fun n => ⟨15, n, 0x200000, 0, false, none, false, 0, 0⟩) }
      b 1 0) b 1 0
    s.opReady b 1 0 = true ∧ 8 ≤ (s.outstanding b.tile).length ∧ opBit b 26 = true := by decide +kernel

theorem test_rowsInFlightLand_2 :
    let s : State := { State.reset with inFlight := [⟨15, 0, 0x27FFFF, 0, false, some (15, 15), false, 0, 0⟩] }
    let i : Nat := 0
    let w : RowWrite := ⟨15, 0, 0x27FFFF, 0, false, some (15, 15), false, 0, 0⟩
    let first := !(s.inFlight.take i).any (fun v => v.tile == w.tile && bankOf v.dest == bankOf w.dest)
    let lands := s.inFlight[i]? = some w ∧ first = true ∧ s.rowOpen w.dest = true
    let counts := w.sig.all (fun e => !(s.counter e.1 e.2).saturated && decide ((s.counter e.1 e.2).value + 1 ≤ 0xFFFF)) =
      true
    lands ∧ counts := by decide +kernel

theorem test_rowsInFlightLand_3 :
    let s : State := { State.reset with inFlight := [⟨15, 0, 0x27FFFF, 0, false, none, true, 0, 0⟩] }
    let i : Nat := 0
    let w : RowWrite := ⟨15, 0, 0x27FFFF, 0, false, none, true, 0, 0⟩
    let u : BankUser := .narrow
    let first := !(s.inFlight.take i).any (fun v => v.tile == w.tile && bankOf v.dest == bankOf w.dest)
    let lands := s.inFlight[i]? = some w ∧ first = true ∧ s.rowOpen w.dest = true
    lands ∧ (u = .tile ∨ u = .narrow) ∧ w.tag = false ∧ w.ended = true := by decide +kernel

theorem test_rowsInFlightLand_4 :
    let s : State :=
      { State.reset with inFlight := [⟨15, 0, 0x27FFFF, 0, false, none, true, 0, 0⟩, ⟨15, 1, 0x27FFFE, 0, false, none, true, 0, 0⟩] }
    let i : Nat := 1
    let w : RowWrite := ⟨15, 1, 0x27FFFE, 0, false, none, true, 0, 0⟩
    let first := !(s.inFlight.take i).any (fun v => v.tile == w.tile && bankOf v.dest == bankOf w.dest)
    s.inFlight[i]? = some w ∧ first = false := by decide +kernel

theorem test_rowsInFlightLand_5 :
    let s : State := State.reset
    let i : Nat := 0
    s.inFlight.length ≤ i := by decide +kernel

theorem test_vectorElementsComputed_0 :
    let b : TileOp := op15 [(8, 15), (13, 15), (18, 15), (23, 5)]
    let op : VecOp := .fma
    let code := match op with
      | .add => 0 | .sub => 1 | .mul => 2 | .fma => 3 | .max => 4 | .min => 5
    let s : State := holds (tiled task15) b 3 code
    let src : Nat → Row := fun _ => 0
    let rb : Row := 0
    let rd : Row := 0
    let dk : Nat → Nat := fun _ => 0
    let x := s.tile b.tile
    let vd := opBits b 12 8
    let va := opBits b 17 13
    let vb := opBits b 22 18
    let ready := fun opc => s.opReady b 3 opc = true ∧ x.tag = false ∧ b.clash = []
    let reads := fun m : Nat => ∀ k, k < m → s.vRow b.tile va k = some (src k)
    let free := fun m : Nat => vd < 16 ∨ s.endQuiet b = true ∧ ∀ k, k < m → s.rowOpen (dk k) = true ∧ (s.locate b.tile (vget
      0 x.a (vd - 16)) k true).toOption = some (.row (dk k)) ∧ ∀ l, l < k → dk l ≠ dk k
    ready code ∧ reads 1 ∧ s.vRow b.tile vb 0 = some rb ∧ (op = .fma → s.vRow b.tile vd 0 = some rd) ∧ free 1 := by decide +kernel

theorem test_vectorElementsComputed_1 :
    let b : TileOp := op15 [(8, 15), (13, 15), (18, 15)]
    let s : State := holds (tiled task15) b 3 9
    let src : Nat → Row := fun _ => 0
    let rb : Row := default
    let dk : Nat → Nat := default
    let x := s.tile b.tile
    let vd := opBits b 12 8
    let va := opBits b 17 13
    let vb := opBits b 22 18
    let ready := fun opc => s.opReady b 3 opc = true ∧ x.tag = false ∧ b.clash = []
    let reads := fun m : Nat => ∀ k, k < m → s.vRow b.tile va k = some (src k)
    let free := fun m : Nat => vd < 16 ∨ s.endQuiet b = true ∧ ∀ k, k < m → s.rowOpen (dk k) = true ∧ (s.locate b.tile (vget
      0 x.a (vd - 16)) k true).toOption = some (.row (dk k)) ∧ ∀ l, l < k → dk l ≠ dk k
    ready 9 ∧ reads 1 ∧ s.vRow b.tile vb 0 = some rb ∧ free 1 := by decide +kernel

theorem test_vectorElementsComputed_2 :
    let b : TileOp := op15 [(8, 16), (13, 0)]
    let s : State := holds (tiled (withA [63])) b 3 6
    let src : Nat → Row := fun _ => 0
    let dk : Nat → Nat := fun _ => 0x10F07F
    let x := s.tile b.tile
    let vd := opBits b 12 8
    let va := opBits b 17 13
    let f := fmtOf (opBits b 25 23)
    let f2 := fmtOf (opBits b 31 29)
    let w := fmtWidth f
    let w2 := fmtWidth f2
    let ready := fun opc => s.opReady b 3 opc = true ∧ x.tag = false ∧ b.clash = []
    let reads := fun m : Nat => ∀ k, k < m → s.vRow b.tile va k = some (src k)
    let free := fun m : Nat => vd < 16 ∨ s.endQuiet b = true ∧ ∀ k, k < m → s.rowOpen (dk k) = true ∧ (s.locate b.tile (vget
      0 x.a (vd - 16)) k true).toOption = some (.row (dk k)) ∧ ∀ l, l < k → dk l ≠ dk k
    ready 6 ∧ reads 1 ∧ free ((4096 / w * w2 + 4095) / 4096) := by decide +kernel

theorem test_vectorElementsComputed_3 :
    let b : TileOp := op15 [(13, 16)]
    let s : State := holds (tiled (withA [63])) b 3 7
    let src : Nat → Row := fun _ => 0
    let x := s.tile b.tile
    let va := opBits b 17 13
    let ready := fun opc => s.opReady b 3 opc = true ∧ x.tag = false ∧ b.clash = []
    let reads := fun m : Nat => ∀ k, k < m → s.vRow b.tile va k = some (src k)
    ready 7 ∧ reads 1 := by decide +kernel

theorem test_vectorElementsComputed_4 :
    let b : TileOp := op15 [(8, 16), (13, 17), (29, 7)]
    let s : State := holds (tiled (withA [0x200000, 48])) b 3 8
    let src : Nat → Row := fun _ => 0
    let dk : Nat → Nat := fun k => 0x202000 + k
    let x := s.tile b.tile
    let vd := opBits b 12 8
    let va := opBits b 17 13
    let f := fmtOf (opBits b 25 23)
    let f2 := fmtOf (opBits b 31 29)
    let w := fmtWidth f
    let w2 := fmtWidth f2
    let n := max (4096 / w) (4096 / w2)
    let ready := fun opc => s.opReady b 3 opc = true ∧ x.tag = false ∧ b.clash = []
    let reads := fun m : Nat => ∀ k, k < m → s.vRow b.tile va k = some (src k)
    let free := fun m : Nat => vd < 16 ∨ s.endQuiet b = true ∧ ∀ k, k < m → s.rowOpen (dk k) = true ∧ (s.locate b.tile (vget
      0 x.a (vd - 16)) k true).toOption = some (.row (dk k)) ∧ ∀ l, l < k → dk l ≠ dk k
    ready 8 ∧ reads (n / (4096 / w)) ∧ free (n / (4096 / w2)) := by decide +kernel

theorem test_blocksGroupsAndTreesComputed_0 :
    let b : TileOp := op15 [(12, 1), (16, 3), (21, 1)]
    let s : State := holds (tiled (withA [62, 60])) b 2 0
    let src : Nat → Row := fun _ => 0
    let wsrc : Nat → Row := fun _ => 0
    let x := s.tile b.tile
    let reg := fun hi : Nat => vget 0 x.a (opBits b hi (hi - 3))
    let ready := fun cls opc => s.opReady b cls opc = true ∧ x.tag = false ∧ b.clash = []
    let i := opBits b 17 16
    let a := vget ({} : Accum) x.acc i
    let f := fmtOf (opBits b 20 18)
    let cls := !fmtIsInt f
    ready 2 0 ∧ (opBit b 21 = true ∨ a.cls ≠ some (!cls)) ∧ (∀ l : Fin 2, s.plainRow b.tile (reg 11) l.val = some (src
      l.val) ∧ s.plainRow b.tile (reg 15) l.val = some (wsrc l.val)) := by decide +kernel

theorem test_blocksGroupsAndTreesComputed_1 :
    let b : TileOp := op15 [(16, 3)]
    let s : State := holds (tiled { task15 with acc := Vector.replicate 4 { cls := some true } }) b 2 0
    let x := s.tile b.tile
    let ready := fun cls opc => s.opReady b cls opc = true ∧ x.tag = false ∧ b.clash = []
    let i := opBits b 17 16
    let a := vget ({} : Accum) x.acc i
    let f := fmtOf (opBits b 20 18)
    let cls := !fmtIsInt f
    let alone := (s.partition x.task.part).frame = none ∧ (vget {} s.ds.faults x.task.part).running = false ∧ s.faultNow b =
      true
    ready 2 0 ∧ alone ∧ opBit b 21 = false ∧ a.cls = some (!cls) := by decide +kernel

theorem test_blocksGroupsAndTreesComputed_2 :
    let b : TileOp := op15 [(16, 3)]
    let s : State := holds (tiled (withA [56])) b 2 1
    let dk : Nat → Nat := fun k => 0x10F078 + k
    let x := s.tile b.tile
    let reg := fun hi : Nat => vget 0 x.a (opBits b hi (hi - 3))
    let ready := fun cls opc => s.opReady b cls opc = true ∧ x.tag = false ∧ b.clash = []
    let m := 256 * (opBits b 28 25 + 1)
    let writes := fun (a : Word) (m : Nat) => s.endQuiet b = true ∧ ∀ k, k < m → s.rowOpen (dk k) = true ∧ (s.locate b.tile
      a k true).toOption = some (.row (dk k)) ∧ ∀ l, l < k → dk l ≠ dk k
    let i := opBits b 17 16
    let a := vget ({} : Accum) x.acc i
    let ofmt := opBits b 19 18
    let dw := if ofmt = 0 then 32 else 16
    ready 2 1 ∧ (ofmt = 0 ∨ a.cls ≠ some false) ∧ writes (reg 11) (dw / 4) := by decide +kernel

theorem test_blocksGroupsAndTreesComputed_3 :
    let b : TileOp := op15 [(8, 15), (13, 15), (28, 9)]
    let op : RedOp := .sum
    let code := match op with
      | .sum => 0 | .max => 1 | .min => 2 | .argmax => 3 | .sumsq => 4
    let s : State := holds (tiled task15) b 4 code
    let src : Nat → Row := fun _ => 0
    let x := s.tile b.tile
    let ready := fun cls opc => s.opReady b cls opc = true ∧ x.tag = false ∧ b.clash = []
    let vd := opBits b 12 8
    let va := opBits b 17 13
    ready 4 code ∧ s.vRow b.tile va 0 = some (src 0) ∧ vd < 16 := by decide +kernel

theorem test_blocksGroupsAndTreesComputed_4 :
    let b : TileOp := op15 [(8, 16), (13, 15)]
    let op : RedOp := .sumsq
    let code := match op with
      | .sum => 0 | .max => 1 | .min => 2 | .argmax => 3 | .sumsq => 4
    let s : State := holds (tiled (withA [56])) b 4 code
    let src : Nat → Row := fun _ => 0
    let dk : Nat → Nat := fun k => 0x10F078 + k
    let x := s.tile b.tile
    let ready := fun cls opc => s.opReady b cls opc = true ∧ x.tag = false ∧ b.clash = []
    let m := 256 * (opBits b 28 25 + 1)
    let writes := fun (a : Word) (m : Nat) => s.endQuiet b = true ∧ ∀ k, k < m → s.rowOpen (dk k) = true ∧ (s.locate b.tile
      a k true).toOption = some (.row (dk k)) ∧ ∀ l, l < k → dk l ≠ dk k
    let vd := opBits b 12 8
    let va := opBits b 17 13
    let rf := fmtOf (opBits b 25 23)
    let rw := fmtWidth rf
    let g := 2 ^ opBits b 31 28
    let groups := 4096 / rw / g
    let rows := (groups * 32 + 4095) / 4096
    ready 4 code ∧ s.vRow b.tile va 0 = some (src 0) ∧ 16 ≤ vd ∧ writes (vget 0 x.a (vd - 16)) rows := by decide +kernel

theorem test_blocksGroupsAndTreesComputed_5 :
    let b : TileOp := op15 [(12, 1), (16, 2), (25, 15)]
    let fill : Bool := true
    let s : State := holds (tiled (withA [2, 3, 48])) b 6 (if fill then 0 else 1)
    let src : Nat → Row := fun _ => 0
    let mask : Row := default
    let dk : Nat → Nat := fun k => 0x10F070 + k
    let x := s.tile b.tile
    let reg := fun hi : Nat => vget 0 x.a (opBits b hi (hi - 3))
    let ready := fun cls opc => s.opReady b cls opc = true ∧ x.tag = false ∧ b.clash = []
    let m := 256 * (opBits b 28 25 + 1)
    let writes := fun (a : Word) (m : Nat) => s.endQuiet b = true ∧ ∀ k, k < m → s.rowOpen (dk k) = true ∧ (s.locate b.tile
      a k true).toOption = some (.row (dk k)) ∧ ∀ l, l < k → dk l ≠ dk k
    let tf := fmtOf (opBits b 22 20)
    let tw := fmtWidth tf
    let trows := (m * tw + 4095) / 4096
    ready 6 (if fill then 0 else 1) ∧ s.plainRow b.tile (reg 11) 0 = some mask ∧ (∀ l, l < trows → s.plainRow b.tile (reg
      15) l = some (src l)) ∧ writes (reg 19) trows := by decide +kernel

theorem test_resultsAtTheExtremes_5 :
    let nf : Fmt := .fp16
    let code : Nat := 0x7E00
    let g := Fmt.int16
    fmtIsInt nf = false ∧ decodeF nf code = .nan ∧ g ∈ [Fmt.int4, Fmt.int8, Fmt.int16] := by decide +kernel

/-- The reset state with the smallest margin of the period. -/
def margined (m : Option Int) (n : Nat) (l : List (RegField × Nat)) : State :=
  { withFlds l with sup := { margin := m, periods := n } }

theorem test_supervisorDecides_0 :
    let s : State := margined (some 499) 0 [(Fld.TF_SUP_STATUS_REQ, 849)]
    let lo : Int := s.fld Fld.TF_SUP_MARGIN_LO
    let req := s.fld Fld.TF_SUP_STATUS_REQ
    let low := s.sup.margin.any (fun m => decide (m < lo)) = true
    let idle := s.flag Fld.PW_STATE_BUSY = false ∧ s.pw.avs.reissue = none ∧ s.pw.avs.current = none ∧ s.flag
      Fld.PW_AVS_STATUS_LOST = false
    let on := idle ∧ s.flag Fld.TF_SUP_CTRL_EN = true ∧ s.flag Fld.TF_SUP_STATUS_AVS_WAIT = false ∧ s.flag
      Fld.TF_SUP_STATUS_SLOW = false
    on ∧ low ∧ req < s.ceiling := by decide +kernel

theorem test_supervisorDecides_1 :
    let s : State := margined (some 499) 0 [(Fld.TF_SUP_STATUS_REQ, 850)]
    let lo : Int := s.fld Fld.TF_SUP_MARGIN_LO
    let req := s.fld Fld.TF_SUP_STATUS_REQ
    let low := s.sup.margin.any (fun m => decide (m < lo)) = true
    let idle := s.flag Fld.PW_STATE_BUSY = false ∧ s.pw.avs.reissue = none ∧ s.pw.avs.current = none ∧ s.flag
      Fld.PW_AVS_STATUS_LOST = false
    let on := idle ∧ s.flag Fld.TF_SUP_CTRL_EN = true ∧ s.flag Fld.TF_SUP_STATUS_AVS_WAIT = false ∧ s.flag
      Fld.TF_SUP_STATUS_SLOW = false
    on ∧ low ∧ s.ceiling ≤ req := by decide +kernel

theorem test_supervisorDecides_2 :
    let s : State := margined (some 2001) 3 [(Fld.TF_SUP_STATUS_REQ, 800)]
    let lo : Int := s.fld Fld.TF_SUP_MARGIN_LO
    let hi : Int := s.fld Fld.TF_SUP_MARGIN_HI
    let req := s.fld Fld.TF_SUP_STATUS_REQ
    let low := s.sup.margin.any (fun m => decide (m < lo)) = true
    let high := s.sup.margin.all (fun m => decide (hi < m)) = true
    let due := max 1 (s.fld Fld.TF_SUP_CTRL_LOWER_AFTER)
    let idle := s.flag Fld.PW_STATE_BUSY = false ∧ s.pw.avs.reissue = none ∧ s.pw.avs.current = none ∧ s.flag
      Fld.PW_AVS_STATUS_LOST = false
    let on := idle ∧ s.flag Fld.TF_SUP_CTRL_EN = true ∧ s.flag Fld.TF_SUP_STATUS_AVS_WAIT = false ∧ s.flag
      Fld.TF_SUP_STATUS_SLOW = false
    on ∧ ¬ low ∧ high ∧ due ≤ s.sup.periods + 1 ∧ s.vFloor < req := by decide +kernel

theorem test_supervisorDecides_3 :
    let s : State := margined (some 2001) 2 []
    let lo : Int := s.fld Fld.TF_SUP_MARGIN_LO
    let hi : Int := s.fld Fld.TF_SUP_MARGIN_HI
    let req := s.fld Fld.TF_SUP_STATUS_REQ
    let low := s.sup.margin.any (fun m => decide (m < lo)) = true
    let high := s.sup.margin.all (fun m => decide (hi < m)) = true
    let due := max 1 (s.fld Fld.TF_SUP_CTRL_LOWER_AFTER)
    let idle := s.flag Fld.PW_STATE_BUSY = false ∧ s.pw.avs.reissue = none ∧ s.pw.avs.current = none ∧ s.flag
      Fld.PW_AVS_STATUS_LOST = false
    let on := idle ∧ s.flag Fld.TF_SUP_CTRL_EN = true ∧ s.flag Fld.TF_SUP_STATUS_AVS_WAIT = false ∧ s.flag
      Fld.TF_SUP_STATUS_SLOW = false
    on ∧ ¬ low ∧ (high → s.sup.periods + 1 < due ∨ req ≤ s.vFloor) := by decide +kernel

theorem test_supervisorDecides_4 :
    let s : State := withFlds [(Fld.TF_SUP_STATUS_AVS_WAIT, 1)]
    let idle := s.flag Fld.PW_STATE_BUSY = false ∧ s.pw.avs.reissue = none ∧ s.pw.avs.current = none ∧ s.flag
      Fld.PW_AVS_STATUS_LOST = false
    idle ∧ s.flag Fld.TF_SUP_CTRL_EN = true ∧ s.flag Fld.TF_SUP_STATUS_AVS_WAIT = true := by decide +kernel

theorem test_supervisorDecides_5 :
    let s : State := withFlds [(Fld.PW_STATE_BUSY, 1)]
    s.flag Fld.PW_STATE_BUSY = true := by decide +kernel

theorem test_supervisorDecides_6_9 :
    let s : State := { State.reset with pw := { avs := { reissue := some (800, false) } } }
    let v : Word := 0
    let tgt : Nat × Bool := (800, false)
    s.flag Fld.PW_STATE_BUSY = false ∧ s.pw.avs.reissue = some tgt ∧ s.pw.avs.current = none ∧ s.flag Fld.PW_AVS_STATUS_LOST
      = false ∧ v.toNat / 65536 ≤ v.toNat % 65536 := by decide +kernel

theorem test_supervisorDecides_7 :
    let s : State := withFlds [(Fld.TF_SUP_CTRL_EN, 0), (Fld.TF_SUP_STATUS_REQ, 801)]
    let req := s.fld Fld.TF_SUP_STATUS_REQ
    let idle := s.flag Fld.PW_STATE_BUSY = false ∧ s.pw.avs.reissue = none ∧ s.pw.avs.current = none ∧ s.flag
      Fld.PW_AVS_STATUS_LOST = false
    idle ∧ s.flag Fld.TF_SUP_CTRL_EN = false ∧ req ≠ s.setPoint := by decide +kernel

theorem test_supervisorDecides_8 :
    let v : Word := 0x00010000
    (v.toNat % 65536 < v.toNat / 65536) := by decide +kernel

theorem test_beatMonitorAndAvsTimeouts_0_4_6 :
    let s : State := { State.reset with sup := { slowRuns := 2 }, pw := { avs := { acked := 800 } } }
    let rate : Nat := 899
    let slow := s.flag Fld.TF_SUP_STATUS_SLOW = true
    let room := s.snagQueue.length < 64
    let quiet := s.pw.avs.current = none ∧ s.flag Fld.PW_AVS_STATUS_LOST = false
    ¬ slow ∧ rate < 900 ∧ 2 ≤ s.sup.slowRuns ∧ s.vFloor ≤ s.pw.avs.acked ∧ room ∧ quiet ∧ s.pw.avs.current = none := by decide +kernel

theorem test_beatMonitorAndAvsTimeouts_1 :
    let s : State := State.reset
    let rate : Nat := 900
    let slow := s.flag Fld.TF_SUP_STATUS_SLOW = true
    ¬ slow ∧ (900 ≤ rate ∨ s.sup.slowRuns < 2 ∨ s.pw.avs.acked < s.vFloor) := by decide +kernel

theorem test_beatMonitorAndAvsTimeouts_2_3 :
    let s : State := withFlds [(Fld.TF_SUP_STATUS_SLOW, 1)]
    let slow := s.flag Fld.TF_SUP_STATUS_SLOW = true
    let room := s.snagQueue.length < 64
    slow ∧ room := by decide +kernel

theorem test_beatMonitorAndAvsTimeouts_5 :
    let s : State := { State.reset with pw := { avs := { current := some (850, true) } } }
    let tgt : Nat := 850
    let ceil : Bool := true
    s.pw.avs.current = some (tgt, ceil) := by decide +kernel

/-! ## Scratchpad -/

/-- The reset state with a captured set of scratchpad registers. -/
def captured (m : List (Nat × Word)) : State := { State.reset with sp := { captured := some m } }

theorem test_appliesTakeEffectWhole_0 :
    let s : State := captured []
    s.sp.captured.isSome = true := by decide +kernel

theorem test_appliesTakeEffectWhole_1_5 :
    let s : State := State.reset.setFld (Fld.SP_FAR_OWNER_OWNER 63) 9
    let owner := fun k : Fin 64 => s.fld (Fld.SP_FAR_OWNER_OWNER k.val)
    let part := fun k : Fin 16 => s.fld (Fld.SP_TILE_PART_PART k.val)
    let bad := (∃ k : Fin 64, 4 < owner k ∧ owner k ≠ 8) ∨ (∃ k : Fin 16, 4 < part k) ∨ (∃ k : Fin 64, s.ringBank k.val =
      true ∧ 1 ≤ owner k ∧ owner k ≤ 4) ∨ ∃ n : Fin 32, s.fld (Fld.SP_RS_CTRL_VALID n.val) = 1 ∧ (4096 < s.fld
      (Fld.SP_RS_NEAR_BASE n.val) + s.fld (Fld.SP_RS_NEAR_SIZE n.val) ∨ 4096 < s.fld (Fld.SP_RS_NBR_BASE n.val) + s.fld
      (Fld.SP_RS_NBR_SIZE n.val) ∨ 524288 < s.fld (Fld.SP_RS_TASK_BASE_ROW n.val) + s.fld (Fld.SP_RS_TASK_SIZE_ROWS n.val) ∨
      524288 < s.fld (Fld.SP_RS_PART_BASE_ROW n.val) + s.fld (Fld.SP_RS_PART_SIZE_ROWS n.val))
    s.sp.captured = none ∧ bad := by decide +kernel

theorem test_appliesTakeEffectWhole_2_7_8 :
    let s : State := { State.reset with sp := { ringRelease := [575] } }
    let m : List (Nat × Word) := []
    let b : Fin 576 := 575
    let due := b.val ∈ s.sp.ringRelease ∨ s.sp.captured = some m ∧ bankLeaves s.sp.inForce m b.val = true ∧ s.applyBlocked m
      = false
    let wanted := bankDeclared s.sp.inForce b.val = true ∨ s.sp.captured.any (fun m => bankDeclared m b.val) = true ∨
      s.ringBank b.val = true ∨ s.flag Fld.SP_STATUS_BOOT_MAP = true
    s.sp.captured = none ∧ s.spCheck s.spShadow = true ∧ b.val ∉ s.sp.toReady ∧ due ∧ wanted ∧ s.sp.badParity = [] := by decide +kernel

theorem test_appliesTakeEffectWhole_3 :
    let s : State := captured []
    let m : List (Nat × Word) := []
    let quiet := ∀ t : Fin 16, (s.tile t.val).run = .idle
    s.sp.captured = some m ∧ s.sp.toScrub = [] ∧ s.sp.toReady = [] ∧ (∀ k ∈ s.sp.ringRelease, bankDeclared m k = false) ∧ (∀
      k ∈ s.tags.map (·.1) ++ s.sp.badParity, bankLeaves s.sp.inForce m (bankOf k) = false) ∧ quiet ∧ s.pk.undeclare = [] := by decide +kernel

theorem test_appliesTakeEffectWhole_4 :
    let s : State := { captured [] with sp := { captured := some [], toReady := [575] } }
    let m : List (Nat × Word) := []
    let b : Fin 576 := 0
    let u : Fin 16 := 0
    s.sp.captured = some m ∧ (s.sp.toScrub ≠ [] ∨ s.sp.toReady ≠ [] ∨ (b.val ∈ s.sp.ringRelease ∧ bankDeclared m b.val =
      true) ∨ ((s.tile u.val).run = .running ∧ relOf m (s.tile u.val).task.relIdx ≠ relOf s.sp.inForce (s.tile
      u.val).task.relIdx)) := by decide +kernel

theorem test_appliesTakeEffectWhole_6 :
    let s : State := { State.reset with sp := { toReady := [575] } }
    let b : Fin 576 := 575
    b.val ∈ s.sp.toReady ∧ (bankDeclared s.sp.inForce b.val = false ∨ (b.val ∉ s.sp.toScrub ∧ s.sp.captured.all (fun m =>
      !s.applyBlocked m) = true)) := by decide +kernel

theorem test_appliesTakeEffectWhole_9 :
    let s : State := { withFlds [(Fld.SP_STATUS_BOOT_MAP, 0)] with sp := { ringRelease := [575] } }
    let m : List (Nat × Word) := []
    let b : Fin 576 := 575
    let due := b.val ∈ s.sp.ringRelease ∨ s.sp.captured = some m ∧ bankLeaves s.sp.inForce m b.val = true ∧ s.applyBlocked m
      = false
    let wanted := bankDeclared s.sp.inForce b.val = true ∨ s.sp.captured.any (fun m => bankDeclared m b.val) = true ∨
      s.ringBank b.val = true ∨ s.flag Fld.SP_STATUS_BOOT_MAP = true
    due ∧ ¬ wanted ∧ s.sp.badParity = [] := by decide +kernel

theorem test_appliesTakeEffectWhole_10 :
    let s : State := State.reset
    let b : Fin 576 := 575
    b.val ∉ s.sp.ringRelease ∧ s.sp.captured.all (fun m => !bankLeaves s.sp.inForce m b.val || s.applyBlocked m) = true := by decide +kernel

theorem test_spillSweepServesEntries_0_6 :
    let s : State := withFlds [(Fld.SP_XS_STATUS_READY, 1)]
    s.maySweep = true ∧ s.sp.sweep = none := by decide +kernel

theorem test_spillSweepServesEntries_1 :
    let s : State := { withFlds [(Fld.SP_XS_STATUS_READY, 1)] with sp := { sweep := some (3, 0) } }
    s.maySweep = true ∧ s.sp.sweep.isSome = true := by decide +kernel

theorem test_spillSweepServesEntries_2_3_5_8_10 :
    let e : SpillReq := ⟨3, 9, 0x10F07F, 15, none, true, 0, true, false, 0, 0, 0⟩
    let s : State := { tiled task15 with sp := { sweep := some (3, 9), requests := [e] } }
    let p : Fin 4 := 3
    let k : Nat := 9
    let taken : Nat := 1
    let at' := s.sp.sweep = some (p.val, k)
    let one := at' ∧ s.sp.requests = [e] ∧ e.part = p.val ∧ e.row = k ∧ e.waiting = false
    let calm := ∀ v : Fin 16, (s.tile v.val).haltAfter = false ∧ (s.tile v.val).bundle.all (·.fault.isNone) = true
    s.maySweep = false ∧ one ∧ calm ∧ e.sig = none ∧ s.rowOpen e.dest = true ∧ 0 < taken ∧ at' ∧ s.flag Fld.SP_XS_CFG_EN =
      false := by decide +kernel

theorem test_spillSweepServesEntries_4 :
    let e : SpillReq := ⟨3, 9, 0x10F07F, 15, none, true, 0, true, false, 0, 0, 0⟩
    let s : State :=
      { tiled { task15 with task := { task15.task with part := 3 } } with sp := { sweep := some (3, 9), requests := [e] } }
    let p : Fin 4 := 3
    let k : Nat := 9
    let at' := s.sp.sweep = some (p.val, k)
    let one := at' ∧ s.sp.requests = [e] ∧ e.part = p.val ∧ e.row = k ∧ e.waiting = false
    let calm := ∀ v : Fin 16, (s.tile v.val).haltAfter = false ∧ (s.tile v.val).bundle.all (·.fault.isNone) = true
    let idle := (s.tile e.tile).task.part = p.val ∧ (s.partition p.val).frame = none ∧ (vget {} s.ds.faults p.val).running =
      false ∧ (s.tile e.tile).tag = false ∧ (s.tile e.tile).run = .running
    one ∧ calm ∧ idle := by decide +kernel

theorem test_spillSweepServesEntries_7 :
    let w : SpillWrite := { row := 0, data := 0, tile := 15, sig := some (15, 15) }
    let s : State := { State.reset with sp := { sweep := some (4, 0), writes := [w] } }
    let k : Nat := 0
    let calm := ∀ v : Fin 16, (s.tile v.val).haltAfter = false ∧ (s.tile v.val).bundle.all (·.fault.isNone) = true
    s.sp.sweep = some (4, k) ∧ s.sp.sweepLate = false ∧ s.sp.writes = [w] ∧ s.sp.narrowWrites = [] ∧ calm ∧ (∀ n : Fin 4,
      (s.core n.val).resetDue = false) ∧ w.sig.all (fun x => !(s.counter x.1 x.2).saturated && decide ((s.counter x.1
      x.2).value + 1 ≤ 0xFFFF)) = true := by decide +kernel

theorem test_spillSweepServesEntries_9 :
    let s : State := withFlds [(Fld.SP_XS_CFG_EN, 1)]
    s.flag Fld.SP_XS_CFG_EN = true := by decide +kernel

/-! ## Cores -/

theorem test_fetchRunsOrFaults_0 :
    let s : State := cored (coreAt 0x600FFFFC 0) 0xFFFF8F93
    let c : Fin 5 := 3
    let rd : Fin 32 := 31
    let rs1 : Fin 32 := 31
    let imm : BitVec 12 := 0xFFF
    let x := s.core c.val
    let a := x.pc.toNat
    c.val < 4 ∧ s.coreReady c.val = true ∧ s.triggered c.val a = false ∧ x.icache = [] ∧ x.loads = [] ∧ s.pmpOk c.val 2 a 2
      = true ∧ s.pmpOk c.val 2 (a + 2) 2 = true ∧ 0x60000000 ≤ a ∧ a + 4 ≤ 0x60100000 ∧ a % 4 = 0 ∧ s.sramEcc = [] ∧ le
      (s.bytes a 4) 0 4 = imm.toNat * 2 ^ 20 + rs1.val * 2 ^ 15 + rd.val * 2 ^ 7 + 0x13 := by decide +kernel

theorem test_fetchRunsOrFaults_1 :
    let s : State := cored (coreAt 0x100FFFFE 0) 0
    let c : Fin 5 := 3
    let x := s.core c.val
    let a := x.pc.toNat
    c.val < 4 ∧ s.coreReady c.val = true ∧ s.triggered c.val a = false ∧ x.icache = [] ∧ x.loads = [] ∧ s.heldStores = [] ∧
      s.pmpOk c.val 2 a 2 = true ∧ 0x10000000 ≤ a ∧ a + 2 ≤ 0x10100000 := by decide +kernel

theorem test_fetchRunsOrFaults_2 :
    let s : State := cored (coreAt 0 0) 0
    let c4 : Fin 4 := 3
    let w : Word := 0x9FFFFFFF
    s.coreReady c4.val = true ∧ (regionOf w.toNat = none ∨ regionOf w.toNat = some 0 ∨ regionOf w.toNat = some 2 ∨ regionOf
      w.toNat = some 3 ∨ regionOf w.toNat = some 7) := by decide +kernel

theorem test_fetchRunsOrFaults_3 :
    let s : State := cored (coreAt 0 0) 0
    let c4 : Fin 4 := 3
    let w : Word := 0x600FFFFF
    s.coreReady c4.val = true ∧ regionOf w.toNat = some 6 := by decide +kernel

theorem test_loadsStoresAndDrains_0_2 :
    let s : State := cored (coreAt 0 0x600FF800) 0
    let c : Fin 5 := 3
    let o : MemOp := { reg := 31, base := 31, offset := 0x7FC, late := true }
    let x := s.core c.val
    let a := (x.reg o.base.val + BitVec.ofInt 32 o.offset.toInt).toNat
    let k := 2 ^ o.size.val
    c.val < 4 ∧ s.coreReady c.val = true ∧ s.triggered c.val a = false ∧ s.pmpOk c.val 0 a k = true ∧ 0x60000000 ≤ a ∧ a + k
      ≤ 0x60100000 ∧ x.stores = [] ∧ x.nts = [] ∧ x.loads = [] ∧ o.late = true ∧ s.pmpOk c.val 1 a k = true ∧ a % 32 + k ≤
      32 ∧ s.heldStores = [] := by decide +kernel

theorem test_loadsStoresAndDrains_1 :
    let s : State := cored (coreAt 0 0x600FF800) 0
    let c : Fin 5 := 3
    let o : MemOp := { reg := 31, base := 31, offset := 0x7FC }
    let x := s.core c.val
    let a := (x.reg o.base.val + BitVec.ofInt 32 o.offset.toInt).toNat
    let k := 2 ^ o.size.val
    c.val < 4 ∧ s.coreReady c.val = true ∧ s.triggered c.val a = false ∧ s.pmpOk c.val 0 a k = true ∧ 0x60000000 ≤ a ∧ a + k
      ≤ 0x60100000 ∧ x.stores = [] ∧ x.nts = [] ∧ x.loads = [] ∧ s.sramEcc = [] ∧ o.met = .clean ∧ o.late = false := by decide +kernel

theorem test_loadsStoresAndDrains_3 :
    let s : State := cored (coreAt 0 0x600FF800) 0
    let c : Fin 5 := 3
    let rs1 : Fin 32 := 31
    let imm : BitVec 12 := 0x7FC
    let x := s.core c.val
    let b := (x.reg rs1.val + BitVec.ofInt 32 imm.toInt).toNat
    c.val < 4 ∧ s.coreReady c.val = true ∧ s.triggered c.val b = false ∧ s.pmpOk c.val 1 b 4 = true ∧ x.user = false ∧ b % 4
      = 0 ∧ 0x60000000 ≤ b ∧ b + 4 ≤ 0x60100000 ∧ x.stores = [] ∧ x.nts = [] ∧ x.loads = [] ∧ s.heldStores = [] := by decide +kernel

theorem test_loadsStoresAndDrains_4 :
    let s : State := cored { coreAt 0 0 with stores := [⟨false, 0x600FFFE0, [(0x600FFFFF, 7)]⟩] } 0
    let c4 : Fin 4 := 3
    let e : StoreEntry := ⟨false, 0x600FFFE0, [(0x600FFFFF, 7)]⟩
    let y := s.core c4.val
    s.clusterOn = true ∧ y.resetDue = false ∧ y.loads = [] ∧ y.stores = [e] ∧ e.isReg = false ∧ 0x60000000 ≤ e.line ∧ e.line
      + 32 ≤ 0x60100000 ∧ e.line % 32 = 0 ∧ (∀ d ∈ e.bytes, e.line ≤ d.1 ∧ d.1 < e.line + 32) ∧ e.bytes.Pairwise (fun p q =>
      p.1 < q.1) ∧ s.sramEcc = [] ∧ s.granuleHeld (some c4.val) e.line 32 = false := by decide +kernel

theorem test_loadsStoresAndDrains_5 :
    let s : State := cored { coreAt 0 0 with nts := [⟨0x600FFFC0, (List.range 64).map (fun i => (0x600FFFC0 + i, 7))⟩] } 0
    let c4 : Fin 4 := 3
    let n : NtEntry := ⟨0x600FFFC0, (List.range 64).map (fun i => (0x600FFFC0 + i, 7))⟩
    let y := s.core c4.val
    s.clusterOn = true ∧ y.resetDue = false ∧ y.loads = [] ∧ y.nts = [n] ∧ n.bytes.length = 64 ∧ 0x60000000 ≤ n.line ∧
      n.line + 64 ≤ 0x60100000 ∧ n.line % 64 = 0 ∧ (∀ d ∈ n.bytes, n.line ≤ d.1 ∧ d.1 < n.line + 64) ∧ n.bytes.Pairwise (fun
      p q => p.1 < q.1) ∧ s.sramEcc = [] ∧ s.granuleHeld (some c4.val) n.line 64 = false := by decide +kernel

theorem test_fencesDrainBuffers_0 :
    let s : State := cored { coreAt 0 0 with stores := [⟨false, 0x600FFFE0, [(0x600FFFFF, 7)]⟩], nts := [⟨0x600FFFC0, []⟩] }
      0
    let c : Fin 5 := 3
    let x := s.core c.val
    let ready := s.coreReady c.val = true ∧ c.val < 4 ∧ (∀ i : Fin 4, (s.core i.val).holding = false)
    let buffers := x.stores.length ≤ 8 ∧ x.nts.length ≤ 4 ∧ (∀ e ∈ x.stores, e.isReg = false ∧ inSram e.line = true) ∧ (∀ e
      ∈ x.nts, inSram e.line = true)
    ready ∧ buffers ∧ x.loads = [] ∧ s.sp.narrowWrites = [] := by decide +kernel

theorem test_fencesDrainBuffers_1 :
    let l : OutLoad := ⟨31, 0x600FFFFC, 4, false, 0, 4, none⟩
    let s : State := cored { coreAt 0x600FFFFC 0 with loads := [l] } 0
    let c : Fin 5 := 3
    let x := s.core c.val
    let ready := s.coreReady c.val = true ∧ c.val < 4 ∧ (∀ i : Fin 4, (s.core i.val).holding = false)
    ready ∧ x.stores = [] ∧ x.nts = [] ∧ s.sp.narrowWrites = [] ∧ s.sramEcc = [] ∧ x.loads = [l] ∧ l.bytes = none ∧
      0x60000000 ≤ l.addr ∧ l.addr + l.size ≤ 0x60100000 ∧ 0 < l.size := by decide +kernel

theorem test_fencesDrainBuffers_2 :
    let s : State := { cored (coreAt 0x600FFFFC 0) 0 with sp := { narrowWrites := [(some 3, 0x70000000, [7])] } }
    let c : Fin 5 := 3
    let a : Nat := 0x70000000
    let bs : List Byte := [7]
    let x := s.core c.val
    let ready := s.coreReady c.val = true ∧ c.val < 4 ∧ (∀ i : Fin 4, (s.core i.val).holding = false)
    ready ∧ x.stores = [] ∧ x.nts = [] ∧ x.loads = [] ∧ s.sp.narrowWrites = [(some c.val, a, bs)] := by decide +kernel

theorem test_atomicsOnClusterSram_0_1_3 :
    let s : State := cored { coreAt 0 0x600FFFFC with reserved := some 0x600FFFFC } 0
    let c : Fin 5 := 3
    let o : AtomicOp := { rd := 31, rs1 := 31 }
    let x := s.core c.val
    let a := (x.reg o.rs1.val).toNat
    let bare := s.coreReady c.val = true ∧ c.val < 4 ∧ x.stores = [] ∧ x.nts = [] ∧ x.loads = [] ∧ s.heldStores = [] ∧
      s.sp.narrowWrites = []
    let plain := bare ∧ s.sramEcc = [] ∧ a % 4 = 0 ∧ 0x60000000 ≤ a ∧ a + 4 ≤ 0x60100000 ∧ s.pmpOk c.val 0 a 4 = true ∧
      s.pmpOk c.val 1 a 4 = true
    plain ∧ x.reserved = some a ∧ s.granuleHeld (some c.val) a 4 = false := by decide +kernel

theorem test_atomicsOnClusterSram_2 :
    let s : State := cored { coreAt 0 0x600FFFFC with reserved := some 0x600FFFF8 } 0
    let c : Fin 5 := 3
    let o : AtomicOp := { rd := 31, rs1 := 31 }
    let flag : Bool := false
    let x := s.core c.val
    let a := (x.reg o.rs1.val).toNat
    let bare := s.coreReady c.val = true ∧ c.val < 4 ∧ x.stores = [] ∧ x.nts = [] ∧ x.loads = [] ∧ s.heldStores = [] ∧
      s.sp.narrowWrites = []
    let plain := bare ∧ s.sramEcc = [] ∧ a % 4 = 0 ∧ 0x60000000 ≤ a ∧ a + 4 ≤ 0x60100000 ∧ s.pmpOk c.val 0 a 4 = true ∧
      s.pmpOk c.val 1 a 4 = true
    plain ∧ (x.reserved ≠ some a ∨ flag = true) := by decide +kernel

theorem test_atomicsOnClusterSram_4 :
    let s : State := cored (coreAt 0 0x21FFFFFC) 0
    let c : Fin 5 := 3
    let o : AtomicOp := { rd := 31, rs1 := 31 }
    let x := s.core c.val
    let a := (x.reg o.rs1.val).toNat
    let bare := s.coreReady c.val = true ∧ c.val < 4 ∧ x.stores = [] ∧ x.nts = [] ∧ x.loads = [] ∧ s.heldStores = [] ∧
      s.sp.narrowWrites = []
    bare ∧ a % 4 = 0 ∧ 0x20000000 ≤ a ∧ a + 4 ≤ 0x22000000 ∧ s.pmpOk c.val 0 a 4 = true ∧ s.pmpOk c.val 1 a 4 = true := by decide +kernel

theorem test_atomicsOnClusterSram_5 :
    let s : State := cored { coreAt 0 0 with holding := true } 0
    let c4 : Fin 4 := 3
    (s.core c4.val).holding = true ∧ s.heldStores = [] := by decide +kernel

theorem test_trapsAndCsrs_0_1_2_3_4_5 :
    let s : State := cored { coreAt 0 0 with dcsr := 0x8000 } 0
    let c : Fin 5 := 3
    let brk : Bool := false
    let x := s.core c.val
    let ready := s.coreReady c.val = true ∧ s.heldStores = [] ∧ x.loads = []
    ready ∧ c.val < 4 ∧ x.stores = [] ∧ x.nts = [] ∧ s.sp.narrowWrites = [] ∧ x.halted = false ∧ x.user = false ∧ tstBit
      x.dcsr 15 = true ∧ (brk = true → tstBit x.dcsr 12 = false ∧ tstBit x.dcsr 15 = false) := by decide +kernel

theorem test_trapsAndCsrs_6 :
    let s : State := (cored { coreAt 0 0 with csrs := [(Csr.mstatus, 8), (Csr.mie, 8)] } 0).setReg Reg.CC_MSIP 8
    let c : Fin 5 := 3
    let x := s.core c.val
    let ready := s.coreReady c.val = true ∧ s.heldStores = [] ∧ x.loads = []
    ready ∧ x.halted = false ∧ (x.user = true ∨ x.mieBit = true) ∧ s.irqReady c.val ≠ 0 := by decide +kernel

theorem test_xcgInstructions_0_6 :
    let s : State := cored (coreAt 0 0x600FFFD0) 0
    let c : Fin 5 := 3
    let rd : Fin 32 := 31
    let rs1 : Fin 32 := 31
    let rs2 : Fin 32 := 0
    let x := s.core c.val
    let v := (x.reg rs1.val).toNat
    let ready := s.coreReady c.val = true ∧ c.val < 4 ∧ x.user = false ∧ x.stores = [] ∧ x.nts = [] ∧ x.loads = [] ∧ rd ≠ 0
      ∧ s.heldStores = [] ∧ s.sp.narrowWrites = []
    let mask := s.reg Reg.CC_DISP_MASK
    let td := (x.reg rs2.val).toNat % 16
    let desc := v % 16 = 0 ∧ 0x60000000 ≤ v ∧ v + 48 ≤ 0x60100000 ∧ s.sramEcc = [] ∧ s.pmpOk c.val 0 v 48 = true
    ready ∧ desc ∧ tstBit mask td = false := by decide +kernel

theorem test_xcgInstructions_1 :
    let s : State := ((cored { coreAt 0 0x600FFFD0 with x := vput (coreAt 0 0x600FFFD0).x 30 15 } 0).setReg Reg.CC_DISP_MASK
      0x8000).setTile 15 task15
    let c : Fin 5 := 3
    let rd : Fin 32 := 31
    let rs1 : Fin 32 := 31
    let rs2 : Fin 32 := 30
    let x := s.core c.val
    let v := (x.reg rs1.val).toNat
    let ready := s.coreReady c.val = true ∧ c.val < 4 ∧ x.user = false ∧ x.stores = [] ∧ x.nts = [] ∧ x.loads = [] ∧ rd ≠ 0
      ∧ s.heldStores = [] ∧ s.sp.narrowWrites = []
    let mask := s.reg Reg.CC_DISP_MASK
    let td := (x.reg rs2.val).toNat % 16
    let desc := v % 16 = 0 ∧ 0x60000000 ≤ v ∧ v + 48 ≤ 0x60100000 ∧ s.sramEcc = [] ∧ s.pmpOk c.val 0 v 48 = true
    ready ∧ desc ∧ tstBit mask td = true ∧ (s.tile td).run = .running := by decide +kernel

theorem test_xcgInstructions_2 :
    let s : State :=
      { (cored { coreAt 0 0x600FFFD0 with x := vput (coreAt 0 0x600FFFD0).x 30 15 } 0).setReg Reg.CC_DISP_MASK 0x8000 with sp := { inForce := [(Reg.SP_RS_CTRL 0, 1), (Reg.SP_RS_NEAR 0, 0x10000000)] }, mem := [(0x600FFFDA, 1)] }
    let c : Fin 5 := 3
    let rd : Fin 32 := 31
    let rs1 : Fin 32 := 31
    let rs2 : Fin 32 := 30
    let x := s.core c.val
    let v := (x.reg rs1.val).toNat
    let ready := s.coreReady c.val = true ∧ c.val < 4 ∧ x.user = false ∧ x.stores = [] ∧ x.nts = [] ∧ x.loads = [] ∧ rd ≠ 0
      ∧ s.heldStores = [] ∧ s.sp.narrowWrites = []
    let mask := s.reg Reg.CC_DISP_MASK
    let d := s.bytes v 48
    let td := (x.reg rs2.val).toNat % 16
    let desc := v % 16 = 0 ∧ 0x60000000 ≤ v ∧ v + 48 ≤ 0x60100000 ∧ s.sramEcc = [] ∧ s.pmpOk c.val 0 v 48 = true
    ready ∧ desc ∧ tstBit mask td = true ∧ (s.tile td).run = .idle ∧ (s.tile td).haltAfter = false ∧ (s.tile td).statusHeld
      = false ∧ descOk d (s.latchRel (le d 2 1) (le d 0x0C 1)) = true := by decide +kernel

theorem test_xcgInstructions_3 :
    let s : State := ((cored (coreAt 0 15) 0).setReg Reg.CC_DISP_MASK 0x8000).setTile 15 task15
    let c : Fin 5 := 3
    let rd : Fin 32 := 31
    let rs1 : Fin 32 := 31
    let x := s.core c.val
    let v := (x.reg rs1.val).toNat
    let ready := s.coreReady c.val = true ∧ c.val < 4 ∧ x.user = false ∧ x.stores = [] ∧ x.nts = [] ∧ x.loads = [] ∧ rd ≠ 0
      ∧ s.heldStores = [] ∧ s.sp.narrowWrites = []
    let mask := s.reg Reg.CC_DISP_MASK
    ready ∧ tstBit mask (v % 16) = true ∧ (s.tile (v % 16)).run = .running := by decide +kernel

theorem test_xcgInstructions_4 :
    let s : State := ((cored (coreAt 0 255) 0).setReg Reg.CC_DISP_MASK 0x8000).setTile 15
      { cnt := Vector.replicate 16 { value := 65280 } }
    let c : Fin 5 := 3
    let rd : Fin 32 := 31
    let rs1 : Fin 32 := 31
    let rs2 : Fin 32 := 31
    let x := s.core c.val
    let v := (x.reg rs1.val).toNat
    let n := (x.reg rs2.val).toNat % 256
    let k := s.counter (v % 16) (v / 16 % 16)
    let ready := s.coreReady c.val = true ∧ c.val < 4 ∧ x.user = false ∧ x.stores = [] ∧ x.nts = [] ∧ x.loads = [] ∧ rd ≠ 0
      ∧ s.heldStores = [] ∧ s.sp.narrowWrites = []
    let mask := s.reg Reg.CC_DISP_MASK
    ready ∧ tstBit mask (v % 16) = true ∧ k.saturated = false ∧ k.value + n ≤ 0xFFFF := by decide +kernel

theorem test_xcgInstructions_5 :
    let s : State := cored (coreAt 0 255) 0
    let c : Fin 5 := 3
    let rd : Fin 32 := 31
    let rs1 : Fin 32 := 31
    let x := s.core c.val
    let v := (x.reg rs1.val).toNat
    let ready := s.coreReady c.val = true ∧ c.val < 4 ∧ x.user = false ∧ x.stores = [] ∧ x.nts = [] ∧ x.loads = [] ∧ rd ≠ 0
      ∧ s.heldStores = [] ∧ s.sp.narrowWrites = []
    let mask := s.reg Reg.CC_DISP_MASK
    ready ∧ tstBit mask (v % 16) = false := by decide +kernel

/-! ## Stream serving -/

/-- Partition 3 serving with tile 15, its frame task ready, a frame 0 in ring slot 15, and its sequencer as given. -/
def served (x : PartState) : State :=
  let s := withFlds [(Fld.SV_STATUS_STATE 3, 1), (⟨Reg.SV_DESC 15 0, 31, 0⟩, 0x30000), (⟨Reg.SV_DESC 15 2, 31, 0⟩, 0x10000), (⟨Reg.SV_DESC 15 3, 31, 0⟩, 0x1F)]
  { s.setPart 3 x with
    px := { inForce := [(Reg.PX_RING_READERS, 0xF)], frames := [{ slot := 15 }] }
    sp := { inForce := [(Reg.SP_TILE_PART 1, 0x40000000), (Reg.SP_RS_CTRL 31, 0x31), (Reg.SP_RS_NEAR 31, 0x10000000)] } }

/-- Its tile 15 running a task of partition 3. -/
def serving (x : PartState) : State :=
  (served x).setTile 15 { run := .running, task := { part := 3 } }

theorem test_partitionFramesRun_0 :
    let s : State := { served { pkg := some {} } with pk := { applying := [3] } }
    let p : Fin 4 := 3
    let k : Package := {}
    let slot : Nat := 15
    let ps := s.partition p.val
    let n := (s.reg Reg.PX_FRAME_CNT).toNat
    let turn := s.fld (Fld.SV_STATUS_STATE p.val) = 1 ∧ ps.pkg = some k ∧ ((n + 2 ^ 32 - ps.fEn % 2 ^ 32) % 2 ^ 32 % max 1
      (s.fld (Fld.SV_CFG_DIV p.val)) = 0)
    let opens := turn ∧ ps.frame = none ∧ ps.suppress = false ∧ s.frameSlot = some slot
    opens ∧ s.pk.applying.contains p.val = true := by decide +kernel

theorem test_partitionFramesRun_1 :
    let k : Package := { servRows := 17 }
    let s : State := served { pkg := some k }
    let p : Fin 4 := 3
    let slot : Nat := 15
    let ps := s.partition p.val
    let n := (s.reg Reg.PX_FRAME_CNT).toNat
    let tiles := s.partTiles p.val
    let turn := s.fld (Fld.SV_STATUS_STATE p.val) = 1 ∧ ps.pkg = some k ∧ ((n + 2 ^ 32 - ps.fEn % 2 ^ 32) % 2 ^ 32 % max 1
      (s.fld (Fld.SV_CFG_DIV p.val)) = 0)
    let rel := fun t : Nat => s.latchRel (s.descByte t 2) (s.descByte t 0x0C)
    let sound := ∀ t ∈ tiles, (s.tile t).run = .idle ∧ (s.tile t).haltAfter = false ∧ s.descByte t 2 = p.val ∧ descOk
      (s.descBytes t) (rel t) = true ∧ ∀ v ∈ tiles, v ≠ t → s.descByte v 0x0C ≠ s.descByte t 0x0C
    let opens := turn ∧ ps.frame = none ∧ ps.suppress = false ∧ s.frameSlot = some slot
    opens ∧ s.pk.applying.contains p.val = false ∧ sound ∧ ps.kernel.swap ≠ 3 ∧ s.pk.awaiting.contains p.val = false ∧ 17 ≤
      k.servRows := by decide +kernel

theorem test_partitionFramesRun_2 :
    let s : State := (served { pkg := some {} }).setFld (Fld.SV_STATUS_STATE 3) 0
    let p : Fin 4 := 3
    let k : Package := {}
    let slot : Nat := 15
    let ps := s.partition p.val
    let n := (s.reg Reg.PX_FRAME_CNT).toNat
    let turn := s.fld (Fld.SV_STATUS_STATE p.val) = 1 ∧ ps.pkg = some k ∧ ((n + 2 ^ 32 - ps.fEn % 2 ^ 32) % 2 ^ 32 % max 1
      (s.fld (Fld.SV_CFG_DIV p.val)) = 0)
    ¬ turn ∧ ps.pkg = some k ∧ s.frameSlot = some slot ∧ slot < 16 := by decide +kernel

theorem test_partitionFramesRun_3 :
    let s : State := served { pkg := some {}, suppress := true }
    let p : Fin 4 := 3
    let k : Package := {}
    let slot : Nat := 15
    let ps := s.partition p.val
    let n := (s.reg Reg.PX_FRAME_CNT).toNat
    let turn := s.fld (Fld.SV_STATUS_STATE p.val) = 1 ∧ ps.pkg = some k ∧ ((n + 2 ^ 32 - ps.fEn % 2 ^ 32) % 2 ^ 32 % max 1
      (s.fld (Fld.SV_CFG_DIV p.val)) = 0)
    turn ∧ ps.frame = none ∧ ps.suppress = true ∧ s.frameSlot = some slot ∧ slot < 16 := by decide +kernel

theorem test_partitionFramesRun_4_7 :
    let s : State := served { pkg := some {}, frame := some { number := 1 } }
    let p : Fin 4 := 3
    let k : Package := {}
    let f : OpenFrame := { number := 1 }
    let slot : Nat := 15
    let ps := s.partition p.val
    let n := (s.reg Reg.PX_FRAME_CNT).toNat
    let turn := s.fld (Fld.SV_STATUS_STATE p.val) = 1 ∧ ps.pkg = some k ∧ ((n + 2 ^ 32 - ps.fEn % 2 ^ 32) % 2 ^ 32 % max 1
      (s.fld (Fld.SV_CFG_DIV p.val)) = 0)
    turn ∧ ps.frame = some f ∧ f.number ≠ n ∧ ps.suppress = false ∧ s.frameSlot = some slot ∧ (f.begun = false ∨ f.tiles ≠
      [] ∨ f.missing ≠ []) := by decide +kernel

theorem test_partitionFramesRun_5 :
    let s : State := serving { frame := some { slot := some 15, missing := [15] } }
    let p : Fin 4 := 3
    let f : OpenFrame := { slot := some 15, missing := [15] }
    let slot : Nat := 15
    let ps := s.partition p.val
    let due := fun code : Nat => Sparse.get LogSlot.unused s.logSlots (0x20000000 + code + 0x10000 * p.val) = ⟨none, 0⟩
    let alone := ∀ v : Fin 16, ∀ e ∈ f.tiles, v.val = e → (s.tile e).task.part = p.val
    ps.frame = some f ∧ f.missing ≠ [] ∧ f.slot = some slot ∧ slot < 16 ∧ due 0x0602 ∧ ps.toSuspend = false ∧ alone := by decide +kernel

theorem test_partitionFramesRun_6 :
    let f : OpenFrame := { slot := some 15, begun := true }
    let s : State := serving { pkg := some {}, frame := some f }
    let p : Fin 4 := 3
    let k : Package := {}
    let slot : Nat := 15
    let ps := s.partition p.val
    ps.frame = some f ∧ ps.pkg = some k ∧ f.begun = true ∧ f.tiles = [] ∧ f.missing = [] ∧ f.slot = some slot ∧ slot < 16 ∧
      ps.toSuspend = false := by decide +kernel

theorem test_partitionFramesRun_8 :
    let s : State := serving { frame := some { slot := some 15, tiles := [15] } }
    let p : Fin 4 := 3
    let f : OpenFrame := { slot := some 15, tiles := [15] }
    let slot : Nat := 15
    let u : Fin 16 := 15
    let ps := s.partition p.val
    let alone := ∀ v : Fin 16, ∀ e ∈ f.tiles, v.val = e → (s.tile e).task.part = p.val
    ps.frame = some f ∧ f.slot = some slot ∧ slot < 16 ∧ ps.toSuspend = false ∧ f.tiles = [u.val] ∧ alone := by decide +kernel

theorem test_partitionFramesRun_9 :
    let s : State := served { releases := [15] }
    let p : Fin 4 := 3
    let slot : Nat := 15
    let ps := s.partition p.val
    ps.copies = [] ∧ ps.releases = [slot] ∧ slot < 16 ∧ (∀ v : Fin 16, (s.tile v.val).statusHeld = false) := by decide +kernel

theorem test_enablesHeldValuesAndPlans_0 :
    let s : State := (served {}).setReg (Reg.SV_CFG 3) 0x1F
    let p : Fin 4 := 3
    let cfg := s.reg (Reg.SV_CFG p.val)
    let us := s.fld (Fld.SV_DEADLINE_US p.val)
    let off := s.flag ⟨Reg.SV_CTRL, p.val, p.val⟩ = false
    let bad := bits cfg 3 0 = 0 ∨ bits cfg 3 0 * s.pxFld Fld.PX_FRAME_PERIOD_PERIOD < 100 * us ∨ (∃ t ∈ s.partTiles p.val,
      s.descByte t 2 ≠ p.val) ∨ tstBit (s.pxReg Reg.PX_RING_READERS) p.val = false ∨ (tstBit cfg 5 = true ∧ ((∃ r : Fin 4, r
      ≠ p ∧ s.flag (Fld.SV_CFG_SKIM r.val) = true) ∨ (s.partTiles p.val).length ≠ 1 ∨ (s.partTiles p.val).all isCTile =
      true))
    off ∧ ¬ bad ∧ (∀ r : Fin 4, s.flag (Fld.SV_CFG_SKIM r.val) = false) ∧ s.fld (Fld.SV_STATUS_STATE p.val) ≠ 2 ∧ s.fld
      Fld.PW_STATE_STATE = 0 := by decide +kernel

theorem test_enablesHeldValuesAndPlans_1_6_7 :
    let s : State := State.reset
    let p : Fin 4 := 0
    let q : KernelParams := ⟨0, 0, 0, 0, 0, 0, 0, false, false, false⟩
    let ps := s.partition p.val
    let cfg := s.reg (Reg.SV_CFG p.val)
    let us := s.fld (Fld.SV_DEADLINE_US p.val)
    let off := s.flag ⟨Reg.SV_CTRL, p.val, p.val⟩ = false
    let bad := bits cfg 3 0 = 0 ∨ bits cfg 3 0 * s.pxFld Fld.PX_FRAME_PERIOD_PERIOD < 100 * us ∨ (∃ t ∈ s.partTiles p.val,
      s.descByte t 2 ≠ p.val) ∨ tstBit (s.pxReg Reg.PX_RING_READERS) p.val = false ∨ (tstBit cfg 5 = true ∧ ((∃ r : Fin 4, r
      ≠ p ∧ s.flag (Fld.SV_CFG_SKIM r.val) = true) ∨ (s.partTiles p.val).length ≠ 1 ∨ (s.partTiles p.val).all isCTile =
      true))
    off ∧ bad ∧ (ps.frame.isSome = true ∨ (ps.heldCfg = none ∧ ps.heldDeadline = none ∧ ps.heldCtable = none)) ∧
      q.proportional = false := by decide +kernel

theorem test_enablesHeldValuesAndPlans_2 :
    let s : State := (served {}).setReg Reg.SV_CTRL 8
    let p : Fin 4 := 3
    let off := s.flag ⟨Reg.SV_CTRL, p.val, p.val⟩ = false
    ¬ off := by decide +kernel

theorem test_enablesHeldValuesAndPlans_4 :
    let s : State := served { heldCfg := some 0x1F }
    let p : Fin 4 := 3
    let ps := s.partition p.val
    let cfg := s.reg (Reg.SV_CFG p.val)
    ps.frame = none ∧ ps.heldCfg.isSome = true ∧ s.svCheck p.val (ps.heldCfg.getD cfg) (ps.heldDeadline.getD (s.reg
      (Reg.SV_DEADLINE p.val))) = true := by decide +kernel

theorem test_enablesHeldValuesAndPlans_5 :
    let s : State := served { heldCfg := some 0 }
    let p : Fin 4 := 3
    let ps := s.partition p.val
    let cfg := s.reg (Reg.SV_CFG p.val)
    ps.frame = none ∧ ps.heldCfg.isSome = true ∧ s.svCheck p.val (ps.heldCfg.getD cfg) (ps.heldDeadline.getD (s.reg
      (Reg.SV_DEADLINE p.val))) = false := by decide +kernel

theorem test_enablesHeldValuesAndPlans_9 :
    let q : KernelParams := ⟨0, 0, 0, 0, 0, 0, 0, true, false, false⟩
    let k : Package := {}
    let l : Loads := ⟨[(14, 0)], []⟩
    let kind : ItemKind := .step
    let e : Nat × Nat := (14, 0)
    let x := (14, 0)
    pickTile q k.costs l kind = some e ∧ x ∈ l.tiles ∧ mayTake q k.costs l kind x.1 = true := by decide +kernel

theorem test_enablesHeldValuesAndPlans_10 :
    let ss : List Stream := [{ state := .live, cls := 3 }]
    let i : Nat := 0
    let m : Nat := 1
    i ∈ pauseOrderOf ss m := by decide +kernel

/-! ## Packages and change sets -/

/-- A change set as the block compares it, with its CRC. -/
def setOf (mask tag : Nat) (entry : List Byte) : List Byte :=
  let head := toLe 4 0x53434743 ++ toLe 2 1 ++ toLe 2 1 ++ toLe 1 mask ++ toLe 1 0 ++ toLe 2 tag ++ toLe 4 40 ++ toLe 12 0
  head ++ toLe 4 (crc32 (head ++ entry)).toNat ++ entry

/-- A change set with its CRC left out. -/
def bareSet (mask flags tag : Nat) (entry : List Byte) : List Byte :=
  toLe 4 0x53434743 ++ toLe 2 1 ++ toLe 2 1 ++ toLe 1 mask ++ toLe 1 flags ++ toLe 2 tag ++ toLe 4 40 ++ toLe 16 0 ++ entry

/-- A CTABLE entry: partition 3, row 15, element 255, value 0xFFFF. -/
def ctabEntry : List Byte := toLe 1 3 ++ toLe 1 1 ++ toLe 2 0xFFF ++ toLe 4 0xFFFF

/-- A unit in Run with the change-set machine in a state, held by an owner. -/
def changing (st owner : Nat) (x : PkState) : State :=
  { withFlds [(Fld.SYS_BOOT_STATUS_PHASE, 1), (Fld.PK_CS_STATUS_STATE, st), (Fld.PK_CS_STATUS_OWNER, owner), (Fld.PK_CS_STATUS_CORE, 3)] with pk := x }

/-- The same with partition 3 enabled and serving at a short frame period, its late rule, and a frame open or not. -/
def changingServed (st : Nat) (x : PkState) (policy : Nat) (f : Option OpenFrame) : State :=
  let s := (((changing st 1 x).setReg Reg.SV_CTRL 8).setFld (Fld.SV_STATUS_STATE 3) 1).setReg (Reg.SV_CFG 3) 15
  { ((s.setFld (Fld.SV_DEADLINE_US 3) 0).setReg Reg.SV_CFGPOLICY policy).setPart 3 { frame := f } with
    px := { inForce := [(Reg.PX_FRAME_PERIOD, 1), (Reg.PX_RING_READERS, 8)] } }

theorem test_changeSetsOpenedAndChecked_0 :
    let s : State := changing 0 0 {}
    let st := s.fld Fld.PK_CS_STATUS_STATE
    let held := 1 ≤ st ∧ st ≤ 5
    let run := s.fld Fld.SYS_BOOT_STATUS_PHASE = 1
    run ∧ ¬ held := by decide +kernel

theorem test_changeSetsOpenedAndChecked_2_4_6_8_10_12 :
    let s : State := changing 2 1 { set := setOf 0 65535 (toLe 2 3 ++ toLe 2 4 ++ toLe 4 1) }
    let n : Fin 4 := 0
    let v : Word := 1
    let tag : BitVec 16 := 65535
    let st := s.fld Fld.PK_CS_STATUS_STATE
    let owner := s.fld Fld.PK_CS_STATUS_OWNER
    let held := 1 ≤ st ∧ st ≤ 5
    let mine := held ∧ owner = 1 ∧ s.fld Fld.PK_CS_STATUS_CORE = n.val
    let run := s.fld Fld.SYS_BOOT_STATUS_PHASE = 1
    let quiet := s.pk.staged = none ∧ s.pk.stagedBanks = [] ∧ s.pk.undeclare = [] ∧ s.pk.finals = [] ∧ ∀ q : Fin 4, s.fld
      (Fld.PK_PART_STATUS_STATE q.val) ≠ 2
    let mkSet := fun (mask : Nat) (entry : List Byte) =>
      let head := toLe 4 0x53434743 ++ toLe 2 1 ++ toLe 2 1 ++ toLe 1 mask ++ toLe 1 0 ++ toLe 2 tag.toNat ++ toLe 4 40 ++ toLe 12 0
      head ++ toLe 4 (crc32 (head ++ entry)).toNat ++ entry
    let write := toLe 1 3 ++ toLe 1 0 ++ toLe 2 4 ++ toLe 4 v.toNat
    (¬ run ∨ held) ∧ ¬ (mine ∧ st = 1) ∧ (¬ mine ∨ st ≠ 1) ∧ (¬ mine ∨ st = 5) ∧ (st ≠ 1 ∨ owner < 3) ∧ st = 2 ∧ quiet ∧
      s.pk.dropped = false ∧ s.pk.set = mkSet 0 write ∧ v.toNat < 2 := by decide +kernel

theorem test_changeSetsOpenedAndChecked_1_3_5_7 :
    let s : State := changing 1 1 {}
    let n : Fin 4 := 3
    let off : Nat := 4095
    let bs : List Byte := [255]
    let st := s.fld Fld.PK_CS_STATUS_STATE
    let owner := s.fld Fld.PK_CS_STATUS_OWNER
    let held := 1 ≤ st ∧ st ≤ 5
    let mine := held ∧ owner = 1 ∧ s.fld Fld.PK_CS_STATUS_CORE = n.val
    let quiet := s.pk.staged = none ∧ s.pk.stagedBanks = [] ∧ s.pk.undeclare = [] ∧ s.pk.finals = [] ∧ ∀ q : Fin 4, s.fld
      (Fld.PK_PART_STATUS_STATE q.val) ≠ 2
    mine ∧ st = 1 ∧ off + bs.length ≤ 4096 ∧ st < 5 ∧ quiet := by decide +kernel

theorem test_changeSetsOpenedAndChecked_9 :
    let s : State := changing 1 3 {}
    let st := s.fld Fld.PK_CS_STATUS_STATE
    let owner := s.fld Fld.PK_CS_STATUS_OWNER
    let quiet := s.pk.staged = none ∧ s.pk.stagedBanks = [] ∧ s.pk.undeclare = [] ∧ s.pk.finals = [] ∧ ∀ q : Fin 4, s.fld
      (Fld.PK_PART_STATUS_STATE q.val) ≠ 2
    st = 1 ∧ 3 ≤ owner ∧ quiet := by decide +kernel

theorem test_changeSetsOpenedAndChecked_11 :
    let s : State := changing 2 1 {}
    let set : List Byte := []
    let st := s.fld Fld.PK_CS_STATUS_STATE
    let quiet := s.pk.staged = none ∧ s.pk.stagedBanks = [] ∧ s.pk.undeclare = [] ∧ s.pk.finals = [] ∧ ∀ q : Fin 4, s.fld
      (Fld.PK_PART_STATUS_STATE q.val) ≠ 2
    st = 2 ∧ quiet ∧ s.pk.set = set ∧ (le set 0 4 ≠ 0x53434743 ∨ le set 4 2 ≠ 1 ∨ le set 6 2 = 0 ∨ 508 < le set 6 2 ∨ 16 ≤
      le set 8 1 ∨ 2 ≤ le set 9 1 ∨ le set 0xC 4 ≠ 32 + 8 * le set 6 2 ∨ le set 0x10 12 ≠ 0 ∨ le set 0x1C 4 ≠ (crc32
      (set.take 0x1C ++ set.drop 32)).toNat ∨ (le set 9 1 = 0 ∧ (csEntries set).any (fun e => e.op == 3) = true) ∨ (le set 9
      1 = 1 ∧ (csEntries set).any (fun e => e.op == 3) = false) ∨ (le set 9 1 = 0 ∧ le set 8 1 = 3)) := by decide +kernel

theorem test_changeSetsOpenedAndChecked_13 :
    let s : State :=
      { changing 2 1 { set := setOf 8 65535 ctabEntry } with px := { inForce := [(Reg.PX_FRAME_PERIOD, 12049)] } }
    let p : Fin 4 := 3
    let tag : BitVec 16 := 65535
    let val : BitVec 16 := 65535
    let row : Fin 16 := 15
    let el : Nat := 255
    let st := s.fld Fld.PK_CS_STATUS_STATE
    let quiet := s.pk.staged = none ∧ s.pk.stagedBanks = [] ∧ s.pk.undeclare = [] ∧ s.pk.finals = [] ∧ ∀ q : Fin 4, s.fld
      (Fld.PK_PART_STATUS_STATE q.val) ≠ 2
    let mkSet := fun (mask : Nat) (entry : List Byte) =>
      let head := toLe 4 0x53434743 ++ toLe 2 1 ++ toLe 2 1 ++ toLe 1 mask ++ toLe 1 0 ++ toLe 2 tag.toNat ++ toLe 4 40 ++ toLe 12 0
      head ++ toLe 4 (crc32 (head ++ entry)).toNat ++ entry
    let ctab := toLe 1 p.val ++ toLe 1 1 ++ toLe 2 (256 * row.val + el) ++ toLe 4 val.toNat
    let period := s.svDiv p.val * 10 * s.pxFld Fld.PX_FRAME_PERIOD_PERIOD
    let ctabSet := st = 2 ∧ quiet ∧ s.px.skim = false ∧ s.pk.set = mkSet (2 ^ p.val) ctab ∧ 4 ≤ el ∧ el < 256 ∧ el ≠ 9 ∧
      (s.svEnabled p.val = true → s.svCheckIn s.spShadow s.pxWaiting p.val (s.reg (Reg.SV_CFG p.val)) (s.reg
      (Reg.SV_DEADLINE p.val)) = true)
    ctabSet ∧ period < 120500 := by decide +kernel

theorem test_changeSetsOpenedAndChecked_14 :
    let s : State :=
      { changing 2 1 { set := setOf 8 65535 ctabEntry } with px := { inForce := [(Reg.PX_FRAME_PERIOD, 12050)] } }
    let p : Fin 4 := 3
    let tag : BitVec 16 := 65535
    let val : BitVec 16 := 65535
    let row : Fin 16 := 15
    let el : Nat := 255
    let st := s.fld Fld.PK_CS_STATUS_STATE
    let quiet := s.pk.staged = none ∧ s.pk.stagedBanks = [] ∧ s.pk.undeclare = [] ∧ s.pk.finals = [] ∧ ∀ q : Fin 4, s.fld
      (Fld.PK_PART_STATUS_STATE q.val) ≠ 2
    let mkSet := fun (mask : Nat) (entry : List Byte) =>
      let head := toLe 4 0x53434743 ++ toLe 2 1 ++ toLe 2 1 ++ toLe 1 mask ++ toLe 1 0 ++ toLe 2 tag.toNat ++ toLe 4 40 ++ toLe 12 0
      head ++ toLe 4 (crc32 (head ++ entry)).toNat ++ entry
    let ctab := toLe 1 p.val ++ toLe 1 1 ++ toLe 2 (256 * row.val + el) ++ toLe 4 val.toNat
    let period := s.svDiv p.val * 10 * s.pxFld Fld.PX_FRAME_PERIOD_PERIOD
    let ctabSet := st = 2 ∧ quiet ∧ s.px.skim = false ∧ s.pk.set = mkSet (2 ^ p.val) ctab ∧ 4 ≤ el ∧ el < 256 ∧ el ≠ 9 ∧
      (s.svEnabled p.val = true → s.svCheckIn s.spShadow s.pxWaiting p.val (s.reg (Reg.SV_CFG p.val)) (s.reg
      (Reg.SV_DEADLINE p.val)) = true)
    ctabSet ∧ 120500 ≤ period := by decide +kernel

theorem test_changeSetsOpenedAndChecked_15 :
    let s : State := changing 1 1 {}
    let st := s.fld Fld.PK_CS_STATUS_STATE
    st ≠ 2 := by decide +kernel

theorem test_changeSetsApplied_0_5_7_12_14 :
    let s : State := changingServed 4 { set := bareSet 8 0 65535 ctabEntry } 0 (some {})
    let p : Fin 4 := 3
    let row : Fin 16 := 15
    let el : Nat := 255
    let tag : Nat := 65535
    let val : BitVec 16 := 65535
    let st := s.fld Fld.PK_CS_STATUS_STATE
    let ps := s.partition p.val
    let quiet := s.pk.staged = none ∧ s.pk.stagedBanks = [] ∧ s.pk.undeclare = [] ∧ s.pk.finals = [] ∧ ∀ q : Fin 4, s.fld
      (Fld.PK_PART_STATUS_STATE q.val) ≠ 2
    let mkSet := fun (mask flags : Nat) (entry : List Byte) => toLe 4 0x53434743 ++ toLe 2 1 ++ toLe 2 1 ++ toLe 1 mask ++
      toLe 1 flags ++ toLe 2 tag ++ toLe 4 40 ++ toLe 16 0 ++ entry
    let ctab := toLe 1 p.val ++ toLe 1 1 ++ toLe 2 (256 * row.val + el) ++ toLe 4 val.toNat
    let ready := st = 4 ∧ quiet ∧ s.pk.begun = false ∧ s.pk.enabled = 0 ∧ s.px.skim = false ∧ s.pk.set = mkSet (2 ^ p.val) 0
      ctab ∧ 4 ≤ el ∧ el < 256 ∧ el ≠ 9 ∧ ps.heldCfg = none ∧ ps.heldDeadline = none ∧ ps.heldCtable = none ∧ ps.pkg = none
      ∧ (s.svEnabled p.val = true → s.svCheckIn s.spShadow s.pxWaiting p.val (s.reg (Reg.SV_CFG p.val)) (s.reg
      (Reg.SV_DEADLINE p.val)) = true)
    let always := s.svEnabled p.val = false ∨ s.fld (Fld.SV_STATUS_STATE p.val) ≠ 1
    let usable := always ∨ s.fld Fld.PK_CS_TAPPLY_NS + 1000 * s.fld (Fld.SV_DEADLINE_US p.val) + 20000 ≤ s.svDiv p.val * 10
      * s.pxFld Fld.PX_FRAME_PERIOD_PERIOD
    let rejects := tstBit (s.reg Reg.SV_CFGPOLICY) p.val = true
    (s.pk.staged = none ∨ st ≠ 3 ∨ s.pk.stagedBanks.all (bankDeclared s.sp.inForce) = false) ∧ ready ∧ ps.frame.isSome =
      true ∧ (usable ∨ (¬ rejects ∧ s.pk.late = false)) ∧ ¬ usable ∧ ¬ rejects ∧ s.pk.late = false ∧ s.pk.dropped = false ∧
      s.pk.quiesce = 0 ∧ (st ≠ 4 ∨ le s.pk.set 9 1 = 0) := by decide +kernel

theorem test_changeSetsApplied_1 :
    let s : State := (changing 3 1 { set := setOf 8 65535 ctabEntry, staged := some (3, {}) }).setReg Reg.SV_CTRL 8
    let p : Fin 4 := 3
    let k : Package := {}
    let st := s.fld Fld.PK_CS_STATUS_STATE
    let placed := { s.writeRows p.val k with pk := { s.pk with staged := some (p.val, k.placed) } }
    let packaged := placed.csTrial s.pk.set
    let staging := st = 3 ∧ s.pk.staged = some (p.val, k) ∧ s.pk.stagedBanks.all (bankDeclared s.sp.inForce) = true
    staging ∧ s.pk.stagedBanks = [] ∧ s.pk.undeclare = [] ∧ s.pk.finals = [] ∧ packaged.csCfgCode s.pk.set [p.val] = some
      0x0601 := by decide +kernel

theorem test_changeSetsApplied_2 :
    let s : State := changingServed 3 { set := bareSet 8 0 65535 ctabEntry, staged := some (3, {}) } 0 none
    let p : Fin 4 := 3
    let k : Package := {}
    let st := s.fld Fld.PK_CS_STATUS_STATE
    let placed := { s.writeRows p.val k with pk := { s.pk with staged := some (p.val, k.placed) } }
    let packaged := placed.csTrial s.pk.set
    let time := placed.applyTime s.pk.set
    let staging := st = 3 ∧ s.pk.staged = some (p.val, k) ∧ s.pk.stagedBanks.all (bankDeclared s.sp.inForce) = true
    let ownSet := le s.pk.set 9 1 = 0 ∧ le s.pk.set 8 1 = 2 ^ p.val
    staging ∧ s.pk.finals = [] ∧ packaged.csCfgCode s.pk.set [p.val] = none ∧ ownSet ∧ s.framePeriodNs p.val < time + 100000 := by decide +kernel

theorem test_changeSetsApplied_3 :
    let s : State := changing 3 1 { set := bareSet 8 0 65535 ctabEntry, staged := some (3, {}) }
    let p : Fin 4 := 3
    let k : Package := {}
    let st := s.fld Fld.PK_CS_STATUS_STATE
    let always := s.svEnabled p.val = false ∨ s.fld (Fld.SV_STATUS_STATE p.val) ≠ 1
    let placed := { s.writeRows p.val k with pk := { s.pk with staged := some (p.val, k.placed) } }
    let packaged := placed.csTrial s.pk.set
    let time := placed.applyTime s.pk.set
    let staging := st = 3 ∧ s.pk.staged = some (p.val, k) ∧ s.pk.stagedBanks.all (bankDeclared s.sp.inForce) = true
    let ownSet := le s.pk.set 9 1 = 0 ∧ le s.pk.set 8 1 = 2 ^ p.val
    staging ∧ packaged.csCfgCode s.pk.set [p.val] = none ∧ ownSet ∧ time + 100000 ≤ s.framePeriodNs p.val ∧ always := by decide +kernel

theorem test_changeSetsApplied_4 :
    let s : State := changing 4 1 { set := bareSet 8 0 65535 ctabEntry }
    let p : Fin 4 := 3
    let row : Fin 16 := 15
    let el : Nat := 255
    let tag : Nat := 65535
    let val : BitVec 16 := 65535
    let st := s.fld Fld.PK_CS_STATUS_STATE
    let ps := s.partition p.val
    let quiet := s.pk.staged = none ∧ s.pk.stagedBanks = [] ∧ s.pk.undeclare = [] ∧ s.pk.finals = [] ∧ ∀ q : Fin 4, s.fld
      (Fld.PK_PART_STATUS_STATE q.val) ≠ 2
    let mkSet := fun (mask flags : Nat) (entry : List Byte) => toLe 4 0x53434743 ++ toLe 2 1 ++ toLe 2 1 ++ toLe 1 mask ++
      toLe 1 flags ++ toLe 2 tag ++ toLe 4 40 ++ toLe 16 0 ++ entry
    let ctab := toLe 1 p.val ++ toLe 1 1 ++ toLe 2 (256 * row.val + el) ++ toLe 4 val.toNat
    let ready := st = 4 ∧ quiet ∧ s.pk.begun = false ∧ s.pk.enabled = 0 ∧ s.px.skim = false ∧ s.pk.set = mkSet (2 ^ p.val) 0
      ctab ∧ 4 ≤ el ∧ el < 256 ∧ el ≠ 9 ∧ ps.heldCfg = none ∧ ps.heldDeadline = none ∧ ps.heldCtable = none ∧ ps.pkg = none
      ∧ (s.svEnabled p.val = true → s.svCheckIn s.spShadow s.pxWaiting p.val (s.reg (Reg.SV_CFG p.val)) (s.reg
      (Reg.SV_DEADLINE p.val)) = true)
    let always := s.svEnabled p.val = false ∨ s.fld (Fld.SV_STATUS_STATE p.val) ≠ 1
    let usable := always ∨ s.fld Fld.PK_CS_TAPPLY_NS + 1000 * s.fld (Fld.SV_DEADLINE_US p.val) + 20000 ≤ s.svDiv p.val * 10
      * s.pxFld Fld.PX_FRAME_PERIOD_PERIOD
    ready ∧ usable ∧ ps.frame = none := by decide +kernel

theorem test_changeSetsApplied_6 :
    let s : State := changingServed 4 { set := bareSet 8 0 65535 ctabEntry } 8 none
    let p : Fin 4 := 3
    let row : Fin 16 := 15
    let el : Nat := 255
    let tag : Nat := 65535
    let val : BitVec 16 := 65535
    let st := s.fld Fld.PK_CS_STATUS_STATE
    let ps := s.partition p.val
    let quiet := s.pk.staged = none ∧ s.pk.stagedBanks = [] ∧ s.pk.undeclare = [] ∧ s.pk.finals = [] ∧ ∀ q : Fin 4, s.fld
      (Fld.PK_PART_STATUS_STATE q.val) ≠ 2
    let mkSet := fun (mask flags : Nat) (entry : List Byte) => toLe 4 0x53434743 ++ toLe 2 1 ++ toLe 2 1 ++ toLe 1 mask ++
      toLe 1 flags ++ toLe 2 tag ++ toLe 4 40 ++ toLe 16 0 ++ entry
    let ctab := toLe 1 p.val ++ toLe 1 1 ++ toLe 2 (256 * row.val + el) ++ toLe 4 val.toNat
    let ready := st = 4 ∧ quiet ∧ s.pk.begun = false ∧ s.pk.enabled = 0 ∧ s.px.skim = false ∧ s.pk.set = mkSet (2 ^ p.val) 0
      ctab ∧ 4 ≤ el ∧ el < 256 ∧ el ≠ 9 ∧ ps.heldCfg = none ∧ ps.heldDeadline = none ∧ ps.heldCtable = none ∧ ps.pkg = none
      ∧ (s.svEnabled p.val = true → s.svCheckIn s.spShadow s.pxWaiting p.val (s.reg (Reg.SV_CFG p.val)) (s.reg
      (Reg.SV_DEADLINE p.val)) = true)
    let always := s.svEnabled p.val = false ∨ s.fld (Fld.SV_STATUS_STATE p.val) ≠ 1
    let usable := always ∨ s.fld Fld.PK_CS_TAPPLY_NS + 1000 * s.fld (Fld.SV_DEADLINE_US p.val) + 20000 ≤ s.svDiv p.val * 10
      * s.pxFld Fld.PX_FRAME_PERIOD_PERIOD
    let rejects := tstBit (s.reg Reg.SV_CFGPOLICY) p.val = true
    ready ∧ ¬ usable ∧ rejects := by decide +kernel

theorem test_changeSetsApplied_8_11 :
    let s : State := changingServed 4 { set := bareSet 8 0 65535 ctabEntry, late := true } 0 none
    let p : Fin 4 := 3
    let row : Fin 16 := 15
    let el : Nat := 255
    let tag : Nat := 65535
    let val : BitVec 16 := 65535
    let st := s.fld Fld.PK_CS_STATUS_STATE
    let ps := s.partition p.val
    let quiet := s.pk.staged = none ∧ s.pk.stagedBanks = [] ∧ s.pk.undeclare = [] ∧ s.pk.finals = [] ∧ ∀ q : Fin 4, s.fld
      (Fld.PK_PART_STATUS_STATE q.val) ≠ 2
    let mkSet := fun (mask flags : Nat) (entry : List Byte) => toLe 4 0x53434743 ++ toLe 2 1 ++ toLe 2 1 ++ toLe 1 mask ++
      toLe 1 flags ++ toLe 2 tag ++ toLe 4 40 ++ toLe 16 0 ++ entry
    let ctab := toLe 1 p.val ++ toLe 1 1 ++ toLe 2 (256 * row.val + el) ++ toLe 4 val.toNat
    let ready := st = 4 ∧ quiet ∧ s.pk.begun = false ∧ s.pk.enabled = 0 ∧ s.px.skim = false ∧ s.pk.set = mkSet (2 ^ p.val) 0
      ctab ∧ 4 ≤ el ∧ el < 256 ∧ el ≠ 9 ∧ ps.heldCfg = none ∧ ps.heldDeadline = none ∧ ps.heldCtable = none ∧ ps.pkg = none
      ∧ (s.svEnabled p.val = true → s.svCheckIn s.spShadow s.pxWaiting p.val (s.reg (Reg.SV_CFG p.val)) (s.reg
      (Reg.SV_DEADLINE p.val)) = true)
    let always := s.svEnabled p.val = false ∨ s.fld (Fld.SV_STATUS_STATE p.val) ≠ 1
    let usable := always ∨ s.fld Fld.PK_CS_TAPPLY_NS + 1000 * s.fld (Fld.SV_DEADLINE_US p.val) + 20000 ≤ s.svDiv p.val * 10
      * s.pxFld Fld.PX_FRAME_PERIOD_PERIOD
    let rejects := tstBit (s.reg Reg.SV_CFGPOLICY) p.val = true
    ready ∧ ¬ usable ∧ ¬ rejects ∧ s.pk.late = true ∧ s.pk.dropped = false ∧ ps.frame = none := by decide +kernel

theorem test_changeSetsApplied_9_13_15 :
    let l : Locator := ⟨0, 3, false, 0x50000, 64, 0, 0⟩
    let s : State :=
      { changing 4 1 { set := bareSet 8 1 65535 (toLe 2 0x303 ++ toLe 2 0 ++ toLe 4 0) } with boot := { locators := [l], nvmSize := 0x100000 } }
    let p : Fin 4 := 3
    let tag : Nat := 65535
    let slot : Nat := 0
    let io : Option (Fin 4 × Nat) := some (3, 15)
    let st := s.fld Fld.PK_CS_STATUS_STATE
    let quiet := s.pk.staged = none ∧ s.pk.stagedBanks = [] ∧ s.pk.undeclare = [] ∧ s.pk.finals = [] ∧ ∀ q : Fin 4, s.fld
      (Fld.PK_PART_STATUS_STATE q.val) ≠ 2
    let mkSet := fun (mask flags : Nat) (entry : List Byte) => toLe 4 0x53434743 ++ toLe 2 1 ++ toLe 2 1 ++ toLe 1 mask ++
      toLe 1 flags ++ toLe 2 tag ++ toLe 4 40 ++ toLe 16 0 ++ entry
    let reload := toLe 1 p.val ++ toLe 1 3 ++ toLe 2 slot ++ toLe 4 0
    s.pk.begun = false ∧ (st ≠ 4 ∨ (le s.pk.set 8 1 ≠ 0 ∧ le s.pk.set 8 1 ≠ 2 ^ p.val) ∨ le s.pk.set 9 1 = 1) ∧ (st ≠ 4 ∨ le
      s.pk.set 8 1 ≠ 2 ^ p.val ∨ le s.pk.set 9 1 = 1) ∧ st = 4 ∧ s.pk.set = mkSet (2 ^ p.val) 1 reload ∧ slot = 0 ∧
      s.pk.quiesce = 0 ∧ quiet ∧ s.boot.locators = [l] ∧ l.kind = 0 ∧ l.part = p.val ∧ 0x50000 ≤ l.aOff ∧ l.aOff + l.aLen ≤
      s.boot.nvmSize ∧ io = some (p, 15) := by decide +kernel

theorem test_changeSetsApplied_10 :
    let s : State := (changing 4 1 { set := bareSet 8 0 65535 ctabEntry }).setPart 3 { frame := some {} }
    let p : Fin 4 := 3
    let row : Fin 16 := 15
    let el : Nat := 255
    let tag : Nat := 65535
    let val : BitVec 16 := 65535
    let st := s.fld Fld.PK_CS_STATUS_STATE
    let ps := s.partition p.val
    let quiet := s.pk.staged = none ∧ s.pk.stagedBanks = [] ∧ s.pk.undeclare = [] ∧ s.pk.finals = [] ∧ ∀ q : Fin 4, s.fld
      (Fld.PK_PART_STATUS_STATE q.val) ≠ 2
    let mkSet := fun (mask flags : Nat) (entry : List Byte) => toLe 4 0x53434743 ++ toLe 2 1 ++ toLe 2 1 ++ toLe 1 mask ++
      toLe 1 flags ++ toLe 2 tag ++ toLe 4 40 ++ toLe 16 0 ++ entry
    let ctab := toLe 1 p.val ++ toLe 1 1 ++ toLe 2 (256 * row.val + el) ++ toLe 4 val.toNat
    let ready := st = 4 ∧ quiet ∧ s.pk.begun = false ∧ s.pk.enabled = 0 ∧ s.px.skim = false ∧ s.pk.set = mkSet (2 ^ p.val) 0
      ctab ∧ 4 ≤ el ∧ el < 256 ∧ el ≠ 9 ∧ ps.heldCfg = none ∧ ps.heldDeadline = none ∧ ps.heldCtable = none ∧ ps.pkg = none
      ∧ (s.svEnabled p.val = true → s.svCheckIn s.spShadow s.pxWaiting p.val (s.reg (Reg.SV_CFG p.val)) (s.reg
      (Reg.SV_DEADLINE p.val)) = true)
    let always := s.svEnabled p.val = false ∨ s.fld (Fld.SV_STATUS_STATE p.val) ≠ 1
    let usable := always ∨ s.fld Fld.PK_CS_TAPPLY_NS + 1000 * s.fld (Fld.SV_DEADLINE_US p.val) + 20000 ≤ s.svDiv p.val * 10
      * s.pxFld Fld.PX_FRAME_PERIOD_PERIOD
    ready ∧ usable ∧ ps.frame.isSome = true := by decide +kernel

theorem test_changeSetsApplied_16 :
    let s : State := ((changing 4 1 { set := bareSet 8 1 65535 ctabEntry, quiesce := 1 }).setReg Reg.SV_CTRL 8).setPart 3
      { frame := some {} }
    let q : Fin 4 := 3
    s.pk.quiesce = 1 ∧ s.pk.finals = [] ∧ (s.partition q.val).frame.isSome = true ∧ s.svEnabled q.val = true := by decide +kernel

/-! ## Records and outputs -/

/-- The egress block as given. -/
def gated (x : EgState) : State := { State.reset with eg := x }

/-- In Run, output channel 1 as given, with a mode in EG_OUT_CFG1 and its switch on or off. -/
def chan1 (x : OutChan) (mode on : Nat) : State :=
  { withFlds [(Fld.SYS_BOOT_STATUS_PHASE, 1), (Fld.EG_OUT_CFG_MODE 1, mode), (⟨Reg.EG_OUT_CFG 1, 31, 16⟩, 65535), (Fld.EG_OUT_STATUS_ON 1, on)] with eg := { outs := vput (Vector.replicate 2 {}) 1 x } }

/-- Field input 1 as given. -/
def input1 (x : InChan) (fs : List (RegField × Nat)) : State :=
  { withFlds fs with eg := { ins := vput (Vector.replicate 2 {}) 1 x } }

theorem test_budgetSlotsAndCaps_1_3_5 :
    let s : State :=
      { State.reset with ds := { faults := vput (Vector.replicate 4 {}) 3 ⟨true, 300, { code := 0x0603, tile := 15, part := 3 }⟩ } }
    let p : Fin 4 := 3
    let v : Word := 0
    let i := vget {} s.ds.faults p.val
    let frame := s.fld Fld.DS_CAP_FRAME_BITS
    let rate := s.fld Fld.DS_CAP_RATE_BPS
    bits v 13 0 ≤ frame ∧ bits v 16 0 ≤ rate ∧ i.running = true ∧ 0 < i.count ∧ i.last.code < 65536 ∧ i.last.tile < 16 ∧
      i.last.part < 4 := by decide +kernel

theorem test_budgetSlotsAndCaps_2_4 :
    let s : State := withFlds [(Fld.DS_CAP_FRAME_BITS, 8191), (Fld.DS_CAP_RATE_BPS, 63999)]
    let v : Word := 64000
    let frame := s.fld Fld.DS_CAP_FRAME_BITS
    let rate := s.fld Fld.DS_CAP_RATE_BPS
    frame < bits v 13 0 ∧ rate < bits v 16 0 := by decide +kernel

theorem test_budgetSlotsAndCaps_6_8 :
    let s : State := ((chan1 { waiting := some false } 1 1).setFld Fld.DS_CAP_FRAME_BITS 32).setFld Fld.DS_CAP_RATE_BPS
      63364
    let p : Fin 4 := 0
    let n : Fin 2 := 1
    let on : Bool := false
    let i := vget {} s.ds.faults p.val
    let aged := s.eg.slots.take 99
    let frame := s.fld Fld.DS_CAP_FRAME_BITS
    let rate := s.fld Fld.DS_CAP_RATE_BPS
    let stopped := s.fld Fld.PX_STATUS_STATE = 0 ∨ s.fld Fld.PX_STATUS_STATE = 3
    let other := 1 - n.val
    let live := s.fld Fld.SYS_BOOT_STATUS_PHASE = 1 ∧ s.power ≠ 4
    (i.running = false ∨ i.count = 0) ∧ stopped ∧ s.eg.skimWake = false ∧ s.eg.gateRecs = [] ∧ (s.out other).waiting = none
      ∧ (s.out n.val).waiting = some on ∧ live ∧ 32 ≤ frame ∧ aged.sum + 32 ≤ 10 * rate := by decide +kernel

theorem test_budgetSlotsAndCaps_7 :
    let s : State := withFlds [(Fld.PX_STATUS_STATE, 1)]
    let stopped := s.fld Fld.PX_STATUS_STATE = 0 ∨ s.fld Fld.PX_STATUS_STATE = 3
    ¬ stopped := by decide +kernel

theorem test_budgetSlotsAndCaps_9 :
    let s : State := (chan1 { waiting := some true } 1 0).setFld Fld.DS_CAP_FRAME_BITS 31
    let n : Fin 2 := 1
    let on : Bool := true
    let aged := s.eg.slots.take 99
    let frame := s.fld Fld.DS_CAP_FRAME_BITS
    let rate := s.fld Fld.DS_CAP_RATE_BPS
    let stopped := s.fld Fld.PX_STATUS_STATE = 0 ∨ s.fld Fld.PX_STATUS_STATE = 3
    let other := 1 - n.val
    let live := s.fld Fld.SYS_BOOT_STATUS_PHASE = 1 ∧ s.power ≠ 4
    stopped ∧ s.eg.skimWake = false ∧ s.eg.gateRecs = [] ∧ (s.out other).waiting = none ∧ (s.out n.val).waiting = some on ∧
      (¬ live ∨ frame < 32 ∨ 10 * rate < aged.sum + 32) := by decide +kernel

theorem test_outputsFollowTheirRules_0_1_9_15_18 :
    let s : State := (chan1 { state := .releasing, waiting := some false } 1 1)
    let n : Fin 2 := 1
    let c := s.out n.val
    let reg := s.reg (Reg.EG_OUT_CFG n.val)
    let live := s.fld Fld.SYS_BOOT_STATUS_PHASE = 1 ∧ s.power ≠ 4
    let commanded := if s.latched n.val then c.decided && c.target else s.outOn n.val
    s.outOn n.val = true ∧ commanded = true ∧ live ∧ s.power < 3 ∧ c.state = .releasing ∧ s.latched n.val = false ∧
      c.waiting = some (tstBit c.cfg 2) ∧ bits reg 1 0 ≠ 0 := by decide +kernel

theorem test_outputsFollowTheirRules_2_3_5_7_8_12_14_17_20 :
    let s : State := State.reset
    let n : Fin 2 := 1
    let c := s.out n.val
    let reg := s.reg (Reg.EG_OUT_CFG n.val)
    let live := s.fld Fld.SYS_BOOT_STATUS_PHASE = 1 ∧ s.power ≠ 4
    let commanded := if s.latched n.val then c.decided && c.target else s.outOn n.val
    s.outOn n.val = false ∧ (¬ live ∨ s.latched n.val = false ∨ c.target = false ∨ c.decided = false) ∧ (s.latched n.val =
      false ∨ c.retrying = false) ∧ commanded = false ∧ (c.state ≠ .arming ∨ 3 ≤ s.power) ∧ (c.state ≠ .releasing ∨ 3 ≤
      s.power) ∧ ¬ live ∧ bits reg 1 0 = 0 ∧ (¬ live ∨ 3 ≤ s.power ∨ bits reg 1 0 = 0 ∨ bits reg 1 0 = 3 ∨ bits reg 31 16 =
      0) := by decide +kernel

theorem test_outputsFollowTheirRules_4 :
    let s : State := (chan1 { decided := true, state := .vacant } 1 0).setFlag (Fld.EG_FAULT_LATCHED 1) true
    let n : Fin 2 := 1
    let c := s.out n.val
    let live := s.fld Fld.SYS_BOOT_STATUS_PHASE = 1 ∧ s.power ≠ 4
    live ∧ s.latched n.val = true ∧ c.target = true ∧ c.decided = true := by decide +kernel

theorem test_outputsFollowTheirRules_6 :
    let s : State := (chan1 { retrying := true } 1 0).setFlag (Fld.EG_FAULT_LATCHED 1) true
    let n : Fin 2 := 1
    let c := s.out n.val
    s.latched n.val = true ∧ c.retrying = true := by decide +kernel

theorem test_outputsFollowTheirRules_11 :
    let s : State := chan1 { state := .arming } 1 0
    let n : Fin 2 := 1
    let c := s.out n.val
    let plain := s.latched n.val = false ∧ c.waiting = none
    let live := s.fld Fld.SYS_BOOT_STATUS_PHASE = 1 ∧ s.power ≠ 4
    live ∧ s.power < 3 ∧ c.state = .arming ∧ plain := by decide +kernel

theorem test_outputsFollowTheirRules_13 :
    let s : State := chan1 { state := .releasing } 1 1
    let n : Fin 2 := 1
    let c := s.out n.val
    let plain := s.latched n.val = false ∧ c.waiting = none
    let live := s.fld Fld.SYS_BOOT_STATUS_PHASE = 1 ∧ s.power ≠ 4
    live ∧ s.power < 3 ∧ c.state = .releasing ∧ plain := by decide +kernel

theorem test_outputsFollowTheirRules_16 :
    let s : State := chan1 {} 0 0
    let n : Fin 2 := 1
    let c := s.out n.val
    let reg := s.reg (Reg.EG_OUT_CFG n.val)
    let plain := s.latched n.val = false ∧ c.waiting = none
    let live := s.fld Fld.SYS_BOOT_STATUS_PHASE = 1 ∧ s.power ≠ 4
    live ∧ bits reg 1 0 = 0 ∧ plain := by decide +kernel

theorem test_outputsFollowTheirRules_19 :
    let s : State := chan1 {} 2 1
    let n : Fin 2 := 1
    let c := s.out n.val
    let reg := s.reg (Reg.EG_OUT_CFG n.val)
    let plain := s.latched n.val = false ∧ c.waiting = none
    let live := s.fld Fld.SYS_BOOT_STATUS_PHASE = 1 ∧ s.power ≠ 4
    live ∧ s.power < 3 ∧ (bits reg 1 0 = 1 ∨ bits reg 1 0 = 2) ∧ bits reg 31 16 ≠ 0 ∧ plain := by decide +kernel

theorem test_inputsDebounceIntoEdges_1_2 :
    let s : State := booted 0
    let awake := s.pins.vddAon = true ∧ s.boot.step ≠ 0
    ¬ awake := by decide +kernel

theorem test_inputsDebounceIntoEdges_0_3 :
    let s : State := State.reset
    let n : Fin 2 := 1
    let i := s.inp n.val
    let awake := s.pins.vddAon = true ∧ s.boot.step ≠ 0
    awake ∧ i.resolved = false := by decide +kernel

theorem test_inputsDebounceIntoEdges_4 :
    let s : State := input1 { resolved := true } [(Fld.EG_IN_STATUS_UNRESOLVED 1, 1)]
    let n : Fin 2 := 1
    let l : InLevel := .band
    let i := s.inp n.val
    let unresolved := fun t : State => t.flag (Fld.EG_IN_STATUS_UNRESOLVED n.val)
    let awake := s.pins.vddAon = true ∧ s.boot.step ≠ 0
    let reads := awake ∧ i.resolved = true
    reads ∧ l = .band ∧ unresolved s = true := by decide +kernel

theorem test_inputsDebounceIntoEdges_5 :
    let s : State := input1 { resolved := true } []
    let n : Fin 2 := 1
    let l : InLevel := .low
    let i := s.inp n.val
    let cfg := if i.run = 0 then s.reg (Reg.EG_IN_CFG n.val) else i.cfg
    let high := (l == .high) != tstBit cfg 8
    let level := s.flag (Fld.EG_IN_STATUS_LEVEL n.val)
    let awake := s.pins.vddAon = true ∧ s.boot.step ≠ 0
    let reads := awake ∧ i.resolved = true
    reads ∧ l ≠ .band ∧ high = level := by decide +kernel

theorem test_inputsDebounceIntoEdges_6 :
    let s : State := input1 { resolved := true } []
    let n : Fin 2 := 1
    let l : InLevel := .high
    let i := s.inp n.val
    let cfg := if i.run = 0 then s.reg (Reg.EG_IN_CFG n.val) else i.cfg
    let high := (l == .high) != tstBit cfg 8
    let level := s.flag (Fld.EG_IN_STATUS_LEVEL n.val)
    let awake := s.pins.vddAon = true ∧ s.boot.step ≠ 0
    let reads := awake ∧ i.resolved = true
    reads ∧ l ≠ .band ∧ high ≠ level ∧ i.run + 1 < bits cfg 7 0 := by decide +kernel

theorem test_inputsDebounceIntoEdges_7 :
    let s : State := input1 { resolved := true, armed := true, run := 19, cfg := 0x614 } []
    let n : Fin 2 := 1
    let l : InLevel := .high
    let i := s.inp n.val
    let cfg := if i.run = 0 then s.reg (Reg.EG_IN_CFG n.val) else i.cfg
    let high := (l == .high) != tstBit cfg 8
    let level := s.flag (Fld.EG_IN_STATUS_LEVEL n.val)
    let byChannels := ∃ k : Fin 2, s.fld (Fld.EG_OUT_CFG_MODE k.val) = 2 ∧ s.fld (Fld.EG_OUT_CFG_IN_SEL k.val) = n.val
    let awake := s.pins.vddAon = true ∧ s.boot.step ≠ 0
    let reads := awake ∧ i.resolved = true
    reads ∧ l ≠ .band ∧ high ≠ level ∧ bits cfg 7 0 ≤ i.run + 1 ∧ i.armed = true ∧ ¬ byChannels ∧ s.wakeEnabled 6 n.val =
      false := by decide +kernel

theorem test_inputsDebounceIntoEdges_8 :
    let s : State := input1 { resolved := true, run := 19, cfg := 0x614 } []
    let n : Fin 2 := 1
    let l : InLevel := .high
    let i := s.inp n.val
    let cfg := if i.run = 0 then s.reg (Reg.EG_IN_CFG n.val) else i.cfg
    let high := (l == .high) != tstBit cfg 8
    let level := s.flag (Fld.EG_IN_STATUS_LEVEL n.val)
    let awake := s.pins.vddAon = true ∧ s.boot.step ≠ 0
    let reads := awake ∧ i.resolved = true
    reads ∧ l ≠ .band ∧ high ≠ level ∧ bits cfg 7 0 ≤ i.run + 1 ∧ i.armed = false := by decide +kernel

theorem test_inputsDebounceIntoEdges_9 :
    let s : State := input1 { resolved := true, armed := true, run := 19, cfg := 0x614 } [(Fld.EG_OUT_CFG_MODE 1, 2),
      (Fld.EG_OUT_CFG_IN_SEL 1, 1)]
    let n : Fin 2 := 1
    let m : Fin 2 := 1
    let l : InLevel := .high
    let i := s.inp n.val
    let cfg := if i.run = 0 then s.reg (Reg.EG_IN_CFG n.val) else i.cfg
    let high := (l == .high) != tstBit cfg 8
    let level := s.flag (Fld.EG_IN_STATUS_LEVEL n.val)
    let awake := s.pins.vddAon = true ∧ s.boot.step ≠ 0
    let reads := awake ∧ i.resolved = true
    reads ∧ l ≠ .band ∧ high ≠ level ∧ bits cfg 7 0 ≤ i.run + 1 ∧ i.armed = true ∧ s.fld (Fld.EG_OUT_CFG_MODE m.val) = 2 ∧
      s.fld (Fld.EG_OUT_CFG_IN_SEL m.val) = n.val ∧ s.power < 3 ∧ s.wakeEnabled 6 n.val = false := by decide +kernel

/-! ## Link and host port -/

/-- A unit in Run with a request waiting on a path. -/
def asked (p : HostPath) (r : HostReq) : State :=
  let s := withFlds [(Fld.SYS_BOOT_STATUS_PHASE, 1), (Fld.LK_CFG_RECORDS, 1), (Fld.HP_CFG_RECORDS, 1)]
  if decide (p = .lath) then { s with link := { req := some r } } else { s with spi := { req := some r } }

/-- A host that may use the SPI port. -/
def spiOn (x : SpiState) : State := { State.reset with spi := x, pins := { vddioGood := true } }

theorem test_hostOperationsAnswered_0 :
    let s : State := { State.reset with link := { req := some { type := 1, payload := [] } } }
    let p : HostPath := .lath
    let r : HostReq := { type := 1, payload := [] }
    let j : Fin 9 := 0
    let lath := decide (p = .lath)
    let waiting := (if lath then s.link.req else s.spi.req) = some r
    let opens := (s.fld Fld.SYS_BOOT_STATUS_PHASE = 1 ∨ s.fld Fld.SYS_BOOT_STATUS_PHASE = 2) ∧ s.power < 3
    let ops := [(0x01, Instr.info p), (0x02, .regRead p), (0x03, .events p), (0x08, .dpSetaddr p), (0x09, .dpRead p none),
      (0x0A, .dpWrite p none), (0x18, .recordRead p), (0x29, .mboxRead p), (0x30, .powerReq p)]
    let op := ops.getD j.val (0, .info p)
    waiting ∧ ¬ opens ∧ s.fld Fld.SYS_BOOT_STATUS_PHASE ≠ 3 ∧ r.type = op.1 := by decide +kernel

theorem test_hostOperationsAnswered_1 :
    let s : State := asked .spi { type := 0x30, payload := [1, 2, 3] }
    let p : HostPath := .spi
    let r : HostReq := { type := 0x30, payload := [1, 2, 3] }
    let j : Fin 9 := 8
    let lath := decide (p = .lath)
    let waiting := (if lath then s.link.req else s.spi.req) = some r
    let opens := (s.fld Fld.SYS_BOOT_STATUS_PHASE = 1 ∨ s.fld Fld.SYS_BOOT_STATUS_PHASE = 2) ∧ s.power < 3
    let ready := waiting ∧ opens
    let ops := [(0x01, Instr.info p), (0x02, .regRead p), (0x03, .events p), (0x08, .dpSetaddr p), (0x09, .dpRead p none),
      (0x0A, .dpWrite p none), (0x18, .recordRead p), (0x29, .mboxRead p), (0x30, .powerReq p)]
    let op := ops.getD j.val (0, .info p)
    ready ∧ r.type = op.1 ∧ r.payload.length = 3 ∧ r.type ≠ 0x0A := by decide +kernel

theorem test_hostOperationsAnswered_2 :
    let s : State := asked .spi { type := 0x30, payload := [] }
    let p : HostPath := .spi
    let r : HostReq := { type := 0x30, payload := [] }
    let j : Fin 9 := 7
    let lath := decide (p = .lath)
    let waiting := (if lath then s.link.req else s.spi.req) = some r
    let ops := [(0x01, Instr.info p), (0x02, .regRead p), (0x03, .events p), (0x08, .dpSetaddr p), (0x09, .dpRead p none),
      (0x0A, .dpWrite p none), (0x18, .recordRead p), (0x29, .mboxRead p), (0x30, .powerReq p)]
    let op := ops.getD j.val (0, .info p)
    waiting ∧ r.type ≠ op.1 := by decide +kernel

theorem test_hostOperationsAnswered_3 :
    let s : State := asked .spi { type := 1, payload := [] }
    let p : HostPath := .spi
    let r : HostReq := { type := 1, payload := [] }
    let lath := decide (p = .lath)
    let waiting := (if lath then s.link.req else s.spi.req) = some r
    let opens := (s.fld Fld.SYS_BOOT_STATUS_PHASE = 1 ∨ s.fld Fld.SYS_BOOT_STATUS_PHASE = 2) ∧ s.power < 3
    let ready := waiting ∧ opens
    ready ∧ r.type = 0x01 ∧ r.payload = [] := by decide +kernel

theorem test_hostOperationsAnswered_4 :
    let s : State := asked .spi { type := 2, payload := [0xFC, 0xFF, 0x0F, 0x10] }
    let p : HostPath := .spi
    let r : HostReq := { type := 2, payload := [0xFC, 0xFF, 0x0F, 0x10] }
    let lath := decide (p = .lath)
    let waiting := (if lath then s.link.req else s.spi.req) = some r
    let opens := (s.fld Fld.SYS_BOOT_STATUS_PHASE = 1 ∨ s.fld Fld.SYS_BOOT_STATUS_PHASE = 2) ∧ s.power < 3
    let ready := waiting ∧ opens
    let a := le r.payload 0 4
    ready ∧ r.type = 0x02 ∧ r.payload.length = 4 ∧ 0x10000000 ≤ a ∧ a < 0x10100000 ∧ a % 4 = 0 := by decide +kernel

theorem test_hostOperationsAnswered_5 :
    let s : State := asked .spi { type := 2, payload := [0, 0, 0x10, 0x10] }
    let p : HostPath := .spi
    let r : HostReq := { type := 2, payload := [0, 0, 0x10, 0x10] }
    let lath := decide (p = .lath)
    let waiting := (if lath then s.link.req else s.spi.req) = some r
    let opens := (s.fld Fld.SYS_BOOT_STATUS_PHASE = 1 ∨ s.fld Fld.SYS_BOOT_STATUS_PHASE = 2) ∧ s.power < 3
    let ready := waiting ∧ opens
    let a := le r.payload 0 4
    ready ∧ r.type = 0x02 ∧ r.payload.length = 4 ∧ (a < 0x10000000 ∨ 0x10100000 ≤ a) := by decide +kernel

theorem test_hostOperationsAnswered_6 :
    let s : State := asked .spi { type := 3, payload := [255, 255, 255, 255] }
    let p : HostPath := .spi
    let r : HostReq := { type := 3, payload := [255, 255, 255, 255] }
    let lath := decide (p = .lath)
    let waiting := (if lath then s.link.req else s.spi.req) = some r
    let opens := (s.fld Fld.SYS_BOOT_STATUS_PHASE = 1 ∨ s.fld Fld.SYS_BOOT_STATUS_PHASE = 2) ∧ s.power < 3
    let ready := waiting ∧ opens
    ready ∧ r.type = 0x03 ∧ r.payload.length = 4 := by decide +kernel

theorem test_hostOperationsAnswered_7 :
    let s : State := asked .spi { type := 8, payload := [248, 255, 255, 255] }
    let p : HostPath := .spi
    let r : HostReq := { type := 8, payload := [248, 255, 255, 255] }
    let lath := decide (p = .lath)
    let waiting := (if lath then s.link.req else s.spi.req) = some r
    let opens := (s.fld Fld.SYS_BOOT_STATUS_PHASE = 1 ∨ s.fld Fld.SYS_BOOT_STATUS_PHASE = 2) ∧ s.power < 3
    let ready := waiting ∧ opens
    let a := le r.payload 0 4
    ready ∧ r.type = 0x08 ∧ r.payload.length = 4 ∧ a % 8 = 0 := by decide +kernel

theorem test_hostOperationsAnswered_8 :
    let s : State := asked .spi { type := 8, payload := [255, 255, 255, 255] }
    let p : HostPath := .spi
    let r : HostReq := { type := 8, payload := [255, 255, 255, 255] }
    let lath := decide (p = .lath)
    let waiting := (if lath then s.link.req else s.spi.req) = some r
    let opens := (s.fld Fld.SYS_BOOT_STATUS_PHASE = 1 ∨ s.fld Fld.SYS_BOOT_STATUS_PHASE = 2) ∧ s.power < 3
    let ready := waiting ∧ opens
    let a := le r.payload 0 4
    ready ∧ r.type = 0x08 ∧ r.payload.length = 4 ∧ a % 8 ≠ 0 := by decide +kernel

theorem test_hostOperationsAnswered_9 :
    let s : State := asked .lath { type := 9, payload := [8, 1, 0, 0] }
    let p : HostPath := .lath
    let r : HostReq := { type := 9, payload := [8, 1, 0, 0] }
    let lath := decide (p = .lath)
    let waiting := (if lath then s.link.req else s.spi.req) = some r
    let opens := (s.fld Fld.SYS_BOOT_STATUS_PHASE = 1 ∨ s.fld Fld.SYS_BOOT_STATUS_PHASE = 2) ∧ s.power < 3
    let ready := waiting ∧ opens
    let n := if r.type = 9 then le r.payload 0 2 else r.payload.length
    let lenOk := n % 8 = 0 ∧ 8 ≤ n ∧ n ≤ 256
    ready ∧ r.type = 0x09 ∧ r.payload.length = 4 ∧ le r.payload 2 2 = 0 ∧ ¬ lenOk := by decide +kernel

theorem test_hostOperationsAnswered_10 :
    let s : State :=
      { (asked .spi { type := 9, payload := [8, 0, 0, 0] }).setReg Reg.HP_DATA_ADDR 0x40000000 with sp := { inForce := [(Reg.SP_BANKMODE_F 0, 0xFFFFFFFF), (Reg.SP_BANKMODE_F 1, 0xFFFFFFFF)] } }
    let p : HostPath := .spi
    let r : HostReq := { type := 9, payload := [8, 0, 0, 0] }
    let lath := decide (p = .lath)
    let waiting := (if lath then s.link.req else s.spi.req) = some r
    let opens := (s.fld Fld.SYS_BOOT_STATUS_PHASE = 1 ∨ s.fld Fld.SYS_BOOT_STATUS_PHASE = 2) ∧ s.power < 3
    let ready := waiting ∧ opens
    let dp := if lath then Requester.dpLath else Requester.dpHost
    let ptr := if lath then Reg.LK_DATA_ADDR else Reg.HP_DATA_ADDR
    let n := if r.type = 9 then le r.payload 0 2 else r.payload.length
    let lenOk := n % 8 = 0 ∧ 8 ≤ n ∧ n ≤ 256
    let from' := (s.reg ptr).toNat
    ready ∧ r.type = 0x09 ∧ r.payload.length = 4 ∧ le r.payload 2 2 = 0 ∧ lenOk ∧ s.busCode dp .read .clean from' 8 = none ∧
      n = 8 ∧ s.sp.ecc = [] ∧ s.sramEcc = [] := by decide +kernel

theorem test_hostOperationsAnswered_11 :
    let s : State := (asked .spi { type := 9, payload := [0, 1, 0, 0] }).setReg Reg.HP_DATA_ADDR 0xFFFFFFF8
    let p : HostPath := .spi
    let r : HostReq := { type := 9, payload := [0, 1, 0, 0] }
    let lath := decide (p = .lath)
    let waiting := (if lath then s.link.req else s.spi.req) = some r
    let opens := (s.fld Fld.SYS_BOOT_STATUS_PHASE = 1 ∨ s.fld Fld.SYS_BOOT_STATUS_PHASE = 2) ∧ s.power < 3
    let ready := waiting ∧ opens
    let dp := if lath then Requester.dpLath else Requester.dpHost
    let ptr := if lath then Reg.LK_DATA_ADDR else Reg.HP_DATA_ADDR
    let n := if r.type = 9 then le r.payload 0 2 else r.payload.length
    let lenOk := n % 8 = 0 ∧ 8 ≤ n ∧ n ≤ 256
    let from' := (s.reg ptr).toNat
    ready ∧ r.type = 0x09 ∧ r.payload.length = 4 ∧ le r.payload 2 2 = 0 ∧ lenOk ∧ s.busCode dp .read .clean from' 8 = some
      0x0001 := by decide +kernel

theorem test_hostOperationsAnswered_12 :
    let s : State := asked .lath { type := 10, payload := List.replicate 255 7 }
    let p : HostPath := .lath
    let r : HostReq := { type := 10, payload := List.replicate 255 7 }
    let lath := decide (p = .lath)
    let waiting := (if lath then s.link.req else s.spi.req) = some r
    let opens := (s.fld Fld.SYS_BOOT_STATUS_PHASE = 1 ∨ s.fld Fld.SYS_BOOT_STATUS_PHASE = 2) ∧ s.power < 3
    let ready := waiting ∧ opens
    let n := if r.type = 9 then le r.payload 0 2 else r.payload.length
    let lenOk := n % 8 = 0 ∧ 8 ≤ n ∧ n ≤ 256
    ready ∧ r.type = 0x0A ∧ ¬ lenOk := by decide +kernel

theorem test_hostOperationsAnswered_13 :
    let s : State :=
      { (asked .spi { type := 10, payload := List.replicate 8 7 }).setReg Reg.HP_DATA_ADDR 0x40000000 with sp := { inForce := [(Reg.SP_BANKMODE_F 0, 0xFFFFFFFF), (Reg.SP_BANKMODE_F 1, 0xFFFFFFFF)] } }
    let p : HostPath := .spi
    let r : HostReq := { type := 10, payload := List.replicate 8 7 }
    let lath := decide (p = .lath)
    let waiting := (if lath then s.link.req else s.spi.req) = some r
    let opens := (s.fld Fld.SYS_BOOT_STATUS_PHASE = 1 ∨ s.fld Fld.SYS_BOOT_STATUS_PHASE = 2) ∧ s.power < 3
    let ready := waiting ∧ opens
    let dp := if lath then Requester.dpLath else Requester.dpHost
    let ptr := if lath then Reg.LK_DATA_ADDR else Reg.HP_DATA_ADDR
    let n := if r.type = 9 then le r.payload 0 2 else r.payload.length
    let from' := (s.reg ptr).toNat
    ready ∧ r.type = 0x0A ∧ n = 8 ∧ 0x40000000 ≤ from' ∧ from' + 8 ≤ 0x50000000 ∧ s.busCode dp .write .clean from' 8 = none := by decide +kernel

theorem test_hostOperationsAnswered_14 :
    let s : State := asked .spi { type := 0x18, payload := [68, 0] }
    let p : HostPath := .spi
    let r : HostReq := { type := 0x18, payload := [68, 0] }
    let lath := decide (p = .lath)
    let waiting := (if lath then s.link.req else s.spi.req) = some r
    let opens := (s.fld Fld.SYS_BOOT_STATUS_PHASE = 1 ∨ s.fld Fld.SYS_BOOT_STATUS_PHASE = 2) ∧ s.power < 3
    let ready := waiting ∧ opens
    let cursor := fun t : State => if lath then t.link.cursor else t.spi.cursor
    let offered := fun t : State => if lath then t.link.offered else t.spi.offered
    let cur := if r.retry && lath then cursor s else cursor s + offered s
    let records := s.flag (if lath then Fld.LK_CFG_RECORDS else Fld.HP_CFG_RECORDS) = true
    ready ∧ r.type = 0x18 ∧ r.payload.length = 2 ∧ 68 ≤ le r.payload 0 2 ∧ le r.payload 0 2 ≤ 256 ∧ records ∧ s.eg.taken ≤
      cur ∧ cur ≤ s.eg.taken + s.eg.queue.length := by decide +kernel

theorem test_hostOperationsAnswered_15 :
    let s : State := (asked .spi { type := 0x18, payload := [0, 1] }).setReg Reg.HP_CFG 0
    let p : HostPath := .spi
    let r : HostReq := { type := 0x18, payload := [0, 1] }
    let lath := decide (p = .lath)
    let waiting := (if lath then s.link.req else s.spi.req) = some r
    let opens := (s.fld Fld.SYS_BOOT_STATUS_PHASE = 1 ∨ s.fld Fld.SYS_BOOT_STATUS_PHASE = 2) ∧ s.power < 3
    let ready := waiting ∧ opens
    let records := s.flag (if lath then Fld.LK_CFG_RECORDS else Fld.HP_CFG_RECORDS) = true
    ready ∧ r.type = 0x18 ∧ r.payload.length = 2 ∧ 68 ≤ le r.payload 0 2 ∧ le r.payload 0 2 ≤ 256 ∧ ¬ records := by decide +kernel

theorem test_hostOperationsAnswered_16 :
    let s : State := { asked .spi { type := 0x20, payload := [] } with boot := { hostCfg := 3 } }
    let p : HostPath := .spi
    let r : HostReq := { type := 0x20, payload := [] }
    let lath := decide (p = .lath)
    let waiting := (if lath then s.link.req else s.spi.req) = some r
    let opens := (s.fld Fld.SYS_BOOT_STATUS_PHASE = 1 ∨ s.fld Fld.SYS_BOOT_STATUS_PHASE = 2) ∧ s.power < 3
    let ready := waiting ∧ opens
    ready ∧ r.type = 0x20 ∧ r.payload = [] ∧ s.fld Fld.PK_CS_STATUS_STATE = 0 ∧ s.fld Fld.SYS_BOOT_STATUS_PHASE = 1 ∧
      s.boot.hostCfg = 3 := by decide +kernel

theorem test_hostOperationsAnswered_17 :
    let s : State := asked .spi { type := 0x28, payload := [0, 0, 0, 0, 1, 2, 3, 4, 5, 6, 7, 8] }
    let p : HostPath := .spi
    let r : HostReq := { type := 0x28, payload := [0, 0, 0, 0, 1, 2, 3, 4, 5, 6, 7, 8] }
    let lath := decide (p = .lath)
    let waiting := (if lath then s.link.req else s.spi.req) = some r
    let opens := (s.fld Fld.SYS_BOOT_STATUS_PHASE = 1 ∨ s.fld Fld.SYS_BOOT_STATUS_PHASE = 2) ∧ s.power < 3
    let ready := waiting ∧ opens
    ready ∧ r.type = 0x28 ∧ r.payload.length = 12 ∧ le r.payload 0 2 < 0x7F8 ∧ le r.payload 2 2 = 0 ∧ (s.fld mbState = 0 ∨
      s.fld mbState = 3) := by decide +kernel

theorem test_hostOperationsAnswered_18 :
    let s : State := (asked .spi { type := 0x28, payload := [0xF7, 7, 0, 0, 1, 2, 3, 4, 5, 6, 7, 8] }).setFld mbState 2
    let p : HostPath := .spi
    let r : HostReq := { type := 0x28, payload := [0xF7, 7, 0, 0, 1, 2, 3, 4, 5, 6, 7, 8] }
    let lath := decide (p = .lath)
    let waiting := (if lath then s.link.req else s.spi.req) = some r
    let opens := (s.fld Fld.SYS_BOOT_STATUS_PHASE = 1 ∨ s.fld Fld.SYS_BOOT_STATUS_PHASE = 2) ∧ s.power < 3
    let ready := waiting ∧ opens
    ready ∧ r.type = 0x28 ∧ r.payload.length = 12 ∧ le r.payload 0 2 < 0x7F8 ∧ le r.payload 2 2 = 0 ∧ s.fld mbState = 2 := by decide +kernel

theorem test_hostOperationsAnswered_19 :
    let s : State := asked .spi { type := 0x29, payload := [0, 15, 0, 1] }
    let p : HostPath := .spi
    let r : HostReq := { type := 0x29, payload := [0, 15, 0, 1] }
    let lath := decide (p = .lath)
    let waiting := (if lath then s.link.req else s.spi.req) = some r
    let opens := (s.fld Fld.SYS_BOOT_STATUS_PHASE = 1 ∨ s.fld Fld.SYS_BOOT_STATUS_PHASE = 2) ∧ s.power < 3
    let ready := waiting ∧ opens
    ready ∧ r.type = 0x29 ∧ r.payload.length = 4 ∧ 4 ≤ le r.payload 2 2 ∧ le r.payload 2 2 ≤ 256 ∧ le r.payload 0 2 + le
      r.payload 2 2 ≤ 4096 := by decide +kernel

theorem test_hostOperationsAnswered_20 :
    let s : State := asked .lath { type := 0x30, payload := [3, 0, 0, 0] }
    let p : HostPath := .lath
    let r : HostReq := { type := 0x30, payload := [3, 0, 0, 0] }
    let lath := decide (p = .lath)
    let waiting := (if lath then s.link.req else s.spi.req) = some r
    let opens := (s.fld Fld.SYS_BOOT_STATUS_PHASE = 1 ∨ s.fld Fld.SYS_BOOT_STATUS_PHASE = 2) ∧ s.power < 3
    let ready := waiting ∧ opens
    ready ∧ r.type = 0x30 ∧ r.payload.length = 4 ∧ le r.payload 1 3 = 0 ∧ lath = true := by decide +kernel

theorem test_hostOperationsAnswered_21 :
    let s : State := asked .spi { type := 0x30, payload := [5, 0, 0, 0] }
    let p : HostPath := .spi
    let r : HostReq := { type := 0x30, payload := [5, 0, 0, 0] }
    let lath := decide (p = .lath)
    let waiting := (if lath then s.link.req else s.spi.req) = some r
    let opens := (s.fld Fld.SYS_BOOT_STATUS_PHASE = 1 ∨ s.fld Fld.SYS_BOOT_STATUS_PHASE = 2) ∧ s.power < 3
    let ready := waiting ∧ opens
    ready ∧ r.type = 0x30 ∧ r.payload.length = 4 ∧ le r.payload 1 3 = 0 ∧ lath = false ∧ 4 < le r.payload 0 1 := by decide +kernel

theorem test_hostSpiTransactions_0_10 :
    let s : State := spiOn {}
    let on := s.pins.vddAon = true ∧ s.pins.resetN = true ∧ s.pins.vddioGood = true
    s.pins.vddAon = true ∧ s.boot.step ≠ 0 ∧ on ∧ s.wakeMode ≠ 2 ∧ s.wakeMode ≠ 3 := by decide +kernel

theorem test_hostSpiTransactions_1_14_15_16_17 :
    let s : State := booted 0
    let on := s.pins.vddAon = true ∧ s.pins.resetN = true ∧ s.pins.vddioGood = true
    s.pins.vddAon = true ∧ s.boot.step = 0 ∧ ¬ on := by decide +kernel

theorem test_hostSpiTransactions_2 :
    let s : State := { State.reset with pins := { vddAon := false } }
    s.pins.vddAon = false := by decide +kernel

theorem test_hostSpiTransactions_3_4_8_9 :
    let s : State := spiOn { req := some { type := 1, payload := [] } }
    let on := s.pins.vddAon = true ∧ s.pins.resetN = true ∧ s.pins.vddioGood = true
    on ∧ s.spi.req.isSome = true := by decide +kernel

theorem test_hostSpiTransactions_5 :
    let s : State := spiOn {}
    let b : List Byte := [1, 0, 1, 0]
    let on := s.pins.vddAon = true ∧ s.pins.resetN = true ∧ s.pins.vddioGood = true
    let len := le b 2 2
    let whole := b.length = 4 + len ∧ 4 ≤ b.length ∧ b.length ≤ 260
    on ∧ s.spi.req = none ∧ ¬ whole := by decide +kernel

theorem test_hostSpiTransactions_6 :
    let s : State := spiOn {}
    let b : List Byte := [0x30, 0, 0, 0]
    let on := s.pins.vddAon = true ∧ s.pins.resetN = true ∧ s.pins.vddioGood = true
    let len := le b 2 2
    let whole := b.length = 4 + len ∧ 4 ≤ b.length ∧ b.length ≤ 260
    let types : List Nat := [0x01, 0x02, 0x03, 0x08, 0x09, 0x0A, 0x18, 0x20, 0x21, 0x22, 0x23, 0x28, 0x29, 0x30]
    on ∧ s.spi.req = none ∧ whole ∧ types.contains (le b 0 1) = true := by decide +kernel

theorem test_hostSpiTransactions_7 :
    let s : State := spiOn {}
    let b : List Byte := [0x31, 0, 0, 0]
    let on := s.pins.vddAon = true ∧ s.pins.resetN = true ∧ s.pins.vddioGood = true
    let len := le b 2 2
    let whole := b.length = 4 + len ∧ 4 ≤ b.length ∧ b.length ≤ 260
    let types : List Nat := [0x01, 0x02, 0x03, 0x08, 0x09, 0x0A, 0x18, 0x20, 0x21, 0x22, 0x23, 0x28, 0x29, 0x30]
    on ∧ s.spi.req = none ∧ whole ∧ types.contains (le b 0 1) = false := by decide +kernel

theorem test_hostSpiTransactions_11 :
    let s : State := (spiOn {}).setFld Fld.PW_STATE_STATE 3
    let on := s.pins.vddAon = true ∧ s.pins.resetN = true ∧ s.pins.vddioGood = true
    on ∧ (s.wakeMode = 2 ∨ s.wakeMode = 3) := by decide +kernel

theorem test_hostSpiTransactions_12 :
    let s : State := spiOn {}
    let op : Byte := 0xFF
    let on := s.pins.vddAon = true ∧ s.pins.resetN = true ∧ s.pins.vddioGood = true
    let known : List Byte := [0x05, 0x02, 0x32, 0x0B, 0x6B, 0x61, 0xAB]
    on ∧ known.contains op = false := by decide +kernel

theorem test_hostSpiTransactions_13 :
    let op : Byte := 0xAB
    let known : List Byte := [0x05, 0x02, 0x32, 0x0B, 0x6B, 0x61, 0xAB]
    known.contains op = true := by decide +kernel

/-- Port states (2 is UP) and the node's address, with the link controller as given. -/
def linked (u d addr : Nat) (x : LinkState) : State :=
  { withFlds [(Fld.LK_STATUS_U_STATE, u), (Fld.LK_STATUS_D_STATE, d), (Fld.LK_STATUS_ADDR, addr)] with link := x }

/-- A node whose port is due to be opened. -/
def opening : State :=
  { withFlds [(Fld.SYS_BOOT_STATUS_PHASE, 1), (Fld.LK_CFG_PORT_EN, 1)] with link := { opening := true } }

/-- A measured exchange of a delay. -/
def delayed (turn : Nat) (t4 : BitVec 64) : State :=
  { State.reset with time := { rxDelay := some ⟨2, 0, turn, 0, t4⟩, delayT1 := some 0xFFFFFFFFFFFFFF00 } }

theorem test_linkFramesTakenAndForwarded_0_15_18 :
    let s : State := linked 0 2 64 {}
    let dst : Fin 256 := 0xFE
    let flags : Fin 256 := 0
    let seq : Nat := 65535
    let ack : Nat := 1
    let stat : Nat := 0
    let info : Nat := 0
    let payload : List Byte := []
    let down := s.fld Fld.LK_STATUS_D_STATE = 2
    let short := payload.length ≤ 256 ∧ seq < 65536
    s.fld Fld.LK_STATUS_U_STATE ≠ 2 ∧ down ∧ short ∧ dst.val = 0xFE ∧ flags = 0 ∧ (ack % 65536 ≠ 0 ∨ stat % 65536 ≠ 0 ∨ info
      % 65536 ≠ 0) ∧ s.link.enumReq = none := by decide +kernel

theorem test_linkFramesTakenAndForwarded_1 :
    let s : State := linked 0 0 0 {}
    s.fld Fld.LK_STATUS_D_STATE ≠ 2 := by decide +kernel

theorem test_linkFramesTakenAndForwarded_2 :
    let s : State := linked 2 0 0x40 {}
    let dst : Fin 256 := 0x40
    let src : Fin 256 := 0
    let type : Fin 256 := 0x30
    let flags : Fin 256 := 0
    let seq : Nat := 65535
    let ack : Nat := 0
    let stat : Nat := 0
    let info : Nat := 0
    let payload : List Byte := List.replicate 256 255
    let types : List Nat := [0x01, 0x02, 0x03, 0x08, 0x09, 0x0A, 0x18, 0x20, 0x21, 0x22, 0x23, 0x28, 0x29, 0x30]
    let addr := s.fld Fld.LK_STATUS_ADDR
    let up := s.fld Fld.LK_STATUS_U_STATE = 2
    let short := payload.length ≤ 256 ∧ seq < 65536
    let mine := up ∧ short ∧ dst.val = addr ∧ addr ≠ 0 ∧ addr ≤ 0x40
    let plain := src = 0 ∧ flags.val < 2 ∧ ack = 0 ∧ stat = 0 ∧ info = 0
    let busy := s.answering = true
    mine ∧ plain ∧ ¬ busy ∧ types.contains type.val = true ∧ (s.link.stored = none ∨ flags.val = 0) := by decide +kernel

theorem test_linkFramesTakenAndForwarded_3 :
    let s : State := linked 2 0 0x40 { stored := some (65535, frameOf 0 0x40 0x30 6 0 65535 0 0 [255]) }
    let dst : Fin 256 := 0x40
    let src : Fin 256 := 0
    let type : Fin 256 := 0x30
    let flags : Fin 256 := 1
    let seq : Nat := 65535
    let ack : Nat := 0
    let stat : Nat := 0
    let info : Nat := 0
    let q : Nat := 1
    let payload : List Byte := [255]
    let resp : List Byte := frameOf 0 0x40 0x30 6 0 65535 0 0 [255]
    let addr := s.fld Fld.LK_STATUS_ADDR
    let up := s.fld Fld.LK_STATUS_U_STATE = 2
    let short := payload.length ≤ 256 ∧ seq < 65536
    let mine := up ∧ short ∧ dst.val = addr ∧ addr ≠ 0 ∧ addr ≤ 0x40
    let plain := src = 0 ∧ flags.val < 2 ∧ ack = 0 ∧ stat = 0 ∧ info = 0
    let busy := s.answering = true
    mine ∧ plain ∧ ¬ busy ∧ flags.val = 1 ∧ resp = frameOf 0 addr type.val (4 + 2 * (q % 2)) ack seq 0 0 payload ∧
      s.link.stored = some (seq, resp) := by decide +kernel

theorem test_linkFramesTakenAndForwarded_4 :
    let s : State := linked 2 0 0x40 { req := some { type := 1, payload := [] } }
    let dst : Fin 256 := 0x40
    let src : Fin 256 := 0
    let flags : Fin 256 := 0
    let seq : Nat := 65535
    let ack : Nat := 0
    let stat : Nat := 0
    let info : Nat := 0
    let payload : List Byte := []
    let addr := s.fld Fld.LK_STATUS_ADDR
    let up := s.fld Fld.LK_STATUS_U_STATE = 2
    let short := payload.length ≤ 256 ∧ seq < 65536
    let mine := up ∧ short ∧ dst.val = addr ∧ addr ≠ 0 ∧ addr ≤ 0x40
    let plain := src = 0 ∧ flags.val < 2 ∧ ack = 0 ∧ stat = 0 ∧ info = 0
    let busy := s.answering = true
    mine ∧ plain ∧ busy := by decide +kernel

theorem test_linkFramesTakenAndForwarded_5 :
    let s : State := linked 2 0 0x40 {}
    let dst : Fin 256 := 0x40
    let src : Fin 256 := 0
    let type : Fin 256 := 0x31
    let flags : Fin 256 := 0
    let seq : Nat := 65535
    let ack : Nat := 0
    let stat : Nat := 0
    let info : Nat := 0
    let payload : List Byte := []
    let types : List Nat := [0x01, 0x02, 0x03, 0x08, 0x09, 0x0A, 0x18, 0x20, 0x21, 0x22, 0x23, 0x28, 0x29, 0x30]
    let addr := s.fld Fld.LK_STATUS_ADDR
    let up := s.fld Fld.LK_STATUS_U_STATE = 2
    let short := payload.length ≤ 256 ∧ seq < 65536
    let mine := up ∧ short ∧ dst.val = addr ∧ addr ≠ 0 ∧ addr ≤ 0x40
    let plain := src = 0 ∧ flags.val < 2 ∧ ack = 0 ∧ stat = 0 ∧ info = 0
    let busy := s.answering = true
    mine ∧ plain ∧ ¬ busy ∧ flags.val = 0 ∧ types.contains type.val = false ∧ type.val ≠ 0x11 := by decide +kernel

theorem test_linkFramesTakenAndForwarded_6 :
    let s : State := linked 2 0 0x40 {}
    let dst : Fin 256 := 0x40
    let src : Fin 256 := 0
    let flags : Fin 256 := 255
    let seq : Nat := 65535
    let payload : List Byte := []
    let addr := s.fld Fld.LK_STATUS_ADDR
    let up := s.fld Fld.LK_STATUS_U_STATE = 2
    let short := payload.length ≤ 256 ∧ seq < 65536
    let mine := up ∧ short ∧ dst.val = addr ∧ addr ≠ 0 ∧ addr ≤ 0x40
    mine ∧ (src ≠ 0 ∨ flags.val / 4 % 2 = 1 ∨ 8 ≤ flags.val) := by decide +kernel

theorem test_linkFramesTakenAndForwarded_8 :
    let s : State := linked 2 0 0x3F {}
    let dst : Fin 256 := 0x40
    let type : Fin 256 := 0x30
    let seq : Nat := 65535
    let payload : List Byte := []
    let addr := s.fld Fld.LK_STATUS_ADDR
    let up := s.fld Fld.LK_STATUS_U_STATE = 2
    let down := s.fld Fld.LK_STATUS_D_STATE = 2
    let short := payload.length ≤ 256 ∧ seq < 65536
    let others := up ∧ short ∧ dst.val ≠ addr ∧ dst.val < 0x41
    others ∧ type.val ≠ 0x11 ∧ ¬ down := by decide +kernel

theorem test_linkFramesTakenAndForwarded_7_9 :
    let s : State := linked 2 2 0x3F {}
    let dst : Fin 256 := 0x40
    let type : Fin 256 := 0x30
    let seq : Nat := 65535
    let payload : List Byte := List.replicate 256 255
    let addr := s.fld Fld.LK_STATUS_ADDR
    let up := s.fld Fld.LK_STATUS_U_STATE = 2
    let down := s.fld Fld.LK_STATUS_D_STATE = 2
    let short := payload.length ≤ 256 ∧ seq < 65536
    let others := up ∧ short ∧ dst.val ≠ addr ∧ dst.val < 0x41
    let dueCrc := s.link.crcRaised = none
    others ∧ type.val ≠ 0x11 ∧ down ∧ dueCrc := by decide +kernel

theorem test_linkFramesTakenAndForwarded_10 :
    let s : State := (linked 2 2 0x40 {}).setFlag Fld.TM_STATUS_PATH_VALID true
    let dst : Fin 256 := 0xFF
    let src : Fin 256 := 0
    let type : Fin 256 := 0x10
    let flags : Fin 256 := 0
    let seq : Nat := 65535
    let ack : Nat := 0
    let stat : Nat := 0
    let info : Nat := 0
    let payload : List Byte := List.replicate 10 255 ++ List.replicate 6 0
    let up := s.fld Fld.LK_STATUS_U_STATE = 2
    let down := s.fld Fld.LK_STATUS_D_STATE = 2
    let plain := src = 0 ∧ flags.val < 2 ∧ ack = 0 ∧ stat = 0 ∧ info = 0
    up ∧ dst.val = 0xFF ∧ plain ∧ type.val = 0x10 ∧ payload.length = 16 ∧ le payload 10 6 = 0 ∧ s.flag
      Fld.TM_STATUS_PATH_VALID = true ∧ down ∧ seq < 65536 := by decide +kernel

theorem test_linkFramesTakenAndForwarded_11 :
    let s : State := linked 2 0 0x40 {}
    let dst : Fin 256 := 0xFF
    let src : Fin 256 := 0
    let type : Fin 256 := 0x11
    let flags : Fin 256 := 0
    let seq : Nat := 65535
    let ack : Nat := 0
    let stat : Nat := 0
    let info : Nat := 0
    let count : Nat := 255
    let fl : Nat := 3
    let payload : List Byte := [255, 3]
    let up := s.fld Fld.LK_STATUS_U_STATE = 2
    let plain := src = 0 ∧ flags.val < 2 ∧ ack = 0 ∧ stat = 0 ∧ info = 0
    up ∧ dst.val = 0xFF ∧ plain ∧ type.val = 0x11 ∧ payload = [BitVec.ofNat 8 count, BitVec.ofNat 8 fl] ∧ seq < 65536 := by decide +kernel

theorem test_linkFramesTakenAndForwarded_12 :
    let s : State := linked 2 2 0x40 { up := [⟨[], 0, false, false, none⟩] }
    let dst : Fin 256 := 0
    let seq : Nat := 65535
    let payload : List Byte := []
    let up := s.fld Fld.LK_STATUS_U_STATE = 2
    let down := s.fld Fld.LK_STATUS_D_STATE = 2
    let short := payload.length ≤ 256 ∧ seq < 65536
    down ∧ up ∧ short ∧ dst.val ≠ 0xFE ∧ s.link.up.length < 2 := by decide +kernel

theorem test_linkFramesTakenAndForwarded_13 :
    let s : State := linked 2 2 0x40 { up := [⟨[], 0, false, false, none⟩, ⟨[], 0, false, false, none⟩] }
    let dst : Fin 256 := 0
    let seq : Nat := 65535
    let payload : List Byte := []
    let up := s.fld Fld.LK_STATUS_U_STATE = 2
    let down := s.fld Fld.LK_STATUS_D_STATE = 2
    let short := payload.length ≤ 256 ∧ seq < 65536
    down ∧ up ∧ short ∧ dst.val ≠ 0xFE ∧ 2 ≤ s.link.up.length ∧ s.link.ovfRaised = none := by decide +kernel

theorem test_linkFramesTakenAndForwarded_14 :
    let s : State := linked 0 2 0x40 {}
    let dst : Fin 256 := 0xFE
    let src : Fin 256 := 0x40
    let type : Fin 256 := 0x13
    let flags : Fin 256 := 0
    let seq : Nat := 65535
    let ack : Nat := 0
    let stat : Nat := 0
    let info : Nat := 0
    let payload : List Byte := toLe 16 0
    let down := s.fld Fld.LK_STATUS_D_STATE = 2
    let short := payload.length ≤ 256 ∧ seq < 65536
    down ∧ short ∧ dst.val = 0xFE ∧ src.val ≤ 0x40 ∧ flags = 0 ∧ type.val = 0x13 ∧ payload = toLe 16 0 ∧ ack = 0 ∧ stat = 0
      ∧ info = 0 := by decide +kernel

theorem test_linkFramesTakenAndForwarded_16 :
    let s : State := linked 2 2 0x40 { enumReq := some (255, 3, 65535) }
    let seq : Nat := 65535
    let count : Nat := 255
    let fl : Nat := 3
    let down := s.fld Fld.LK_STATUS_D_STATE = 2
    s.link.enumReq = some (count, fl, seq) ∧ down ∧ fl < 4 ∧ count < 256 := by decide +kernel

theorem test_linkFramesTakenAndForwarded_17 :
    let s : State := (linked 2 0 0x40 { enumReq := some (255, 3, 65535) }).setReg Reg.LK_ATTN_EN 0
    let seq : Nat := 65535
    let count : Nat := 255
    let fl : Nat := 3
    let down := s.fld Fld.LK_STATUS_D_STATE = 2
    s.link.enumReq = some (count, fl, seq) ∧ ¬ down ∧ fl < 4 ∧ count < 256 ∧ s.reg Reg.LK_ATTN_EN = 0 ∧ s.link.waiting = [] := by decide +kernel

theorem test_linkPortsNeighboursAndWake_0_4 :
    let s : State := opening
    let p : Port := .u
    let ohms : Nat := 550
    let onU := decide (p = .u)
    let state := if onU then Fld.LK_STATUS_U_STATE else Fld.LK_STATUS_D_STATE
    let opens := s.link.opening = true ∧ s.mayOpen = true
    let idle := if onU then s.link.up = [] else s.link.downBusy = 0
    opens ∧ 450 ≤ ohms ∧ ohms ≤ 550 ∧ (s.fld state = 0 ∨ ¬ idle) := by decide +kernel

theorem test_linkPortsNeighboursAndWake_1 :
    let s : State := opening
    let ohms : Nat := 551
    let opens := s.link.opening = true ∧ s.mayOpen = true
    opens ∧ (ohms < 450 ∨ 550 < ohms) := by decide +kernel

theorem test_linkPortsNeighboursAndWake_2 :
    let s : State := State.reset
    let opens := s.link.opening = true ∧ s.mayOpen = true
    ¬ opens := by decide +kernel

theorem test_linkPortsNeighboursAndWake_3_6_10 :
    let s : State := linked 2 2 0x40 {}
    let p : Port := .u
    let a : Byte := 0x7F
    let c : Byte := 0x80
    let onU := decide (p = .u)
    let state := if onU then Fld.LK_STATUS_U_STATE else Fld.LK_STATUS_D_STATE
    let up := s.fld state = 2
    let idle := if onU then s.link.up = [] else s.link.downBusy = 0
    s.fld state ≠ 0 ∧ idle ∧ up ∧ c = ~~~a := by decide +kernel

theorem test_linkPortsNeighboursAndWake_5 :
    let s : State := linked 0 0 0x40 {}
    let p : Port := .u
    let onU := decide (p = .u)
    let state := if onU then Fld.LK_STATUS_U_STATE else Fld.LK_STATUS_D_STATE
    s.fld state = 0 := by decide +kernel

theorem test_linkPortsNeighboursAndWake_7 :
    let s : State := linked 0 1 0x40 {}
    let p : Port := .d
    let a : Byte := 0x7F
    let c : Byte := 0x80
    let onU := decide (p = .u)
    let state := if onU then Fld.LK_STATUS_U_STATE else Fld.LK_STATUS_D_STATE
    let trained := if onU then s.link.trainU else s.link.trainD
    s.fld state = 1 ∧ trained = 0 ∧ c = ~~~a := by decide +kernel

theorem test_linkPortsNeighboursAndWake_8 :
    let s : State := linked 0 1 0x40 { trainD := 1 }
    let p : Port := .d
    let a : Byte := 0x7F
    let c : Byte := 0x80
    let onU := decide (p = .u)
    let state := if onU then Fld.LK_STATUS_U_STATE else Fld.LK_STATUS_D_STATE
    let trained := if onU then s.link.trainU else s.link.trainD
    s.fld state = 1 ∧ trained = 1 ∧ c = ~~~a := by decide +kernel

theorem test_linkPortsNeighboursAndWake_9 :
    let s : State := linked 0 1 0x40 {}
    let p : Port := .d
    let a : Byte := 0x7F
    let c : Byte := 0x81
    let codeError : Bool := false
    let onU := decide (p = .u)
    let state := if onU then Fld.LK_STATUS_U_STATE else Fld.LK_STATUS_D_STATE
    s.fld state = 1 ∧ (codeError = true ∨ c ≠ ~~~a) := by decide +kernel

theorem test_linkPortsNeighboursAndWake_11_13_15 :
    let s : State := linked 0 1 0x40 {}
    let p : Port := .d
    let onU := decide (p = .u)
    let state := if onU then Fld.LK_STATUS_U_STATE else Fld.LK_STATUS_D_STATE
    let up := s.fld state = 2
    let downUp := s.fld Fld.LK_STATUS_D_STATE = 2
    let upUp := s.fld Fld.LK_STATUS_U_STATE = 2
    ¬ up ∧ (s.link.delayReq = none ∨ ¬ downUp ∨ s.link.downBusy ≠ 0) ∧ (¬ upUp ∨ s.link.up ≠ []) := by decide +kernel

theorem test_linkPortsNeighboursAndWake_12 :
    let s : State := linked 0 2 0x40 { delayReq := some 65535 }
    let q : Nat := 65535
    let downUp := s.fld Fld.LK_STATUS_D_STATE = 2
    s.link.delayReq = some q ∧ downUp ∧ s.link.downBusy = 0 := by decide +kernel

theorem test_linkPortsNeighboursAndWake_14 :
    let s : State := linked 2 0 0x40 {}
    let upUp := s.fld Fld.LK_STATUS_U_STATE = 2
    upUp ∧ s.link.up = [] := by decide +kernel

theorem test_linkPortsNeighboursAndWake_16_19 :
    let s : State := delayed 20000 (0xFFFFFFFFFFFFFF00 + 21200)
    let r : RxDelay := ⟨2, 0, 20000, 0, 0xFFFFFFFFFFFFFF00 + 21200⟩
    let t1 : BitVec 64 := 0xFFFFFFFFFFFFFF00
    let d : Int := (((r.t4 - t1).toNat : Int) - r.turn + 1) / 2
    let measured := s.time.rxDelay = some r ∧ s.time.delayT1 = some t1
    let good := r.turn ≤ 20000 ∧ 0 ≤ d ∧ d ≤ 600 ∧ r.flags / 2 % 2 = 1
    measured ∧ good ∧ s.time.delayT1 = some t1 := by decide +kernel

theorem test_linkPortsNeighboursAndWake_17 :
    let s : State := delayed 20001 (0xFFFFFFFFFFFFFF00 + 21200)
    let r : RxDelay := ⟨2, 0, 20001, 0, 0xFFFFFFFFFFFFFF00 + 21200⟩
    let t1 : BitVec 64 := 0xFFFFFFFFFFFFFF00
    let d : Int := (((r.t4 - t1).toNat : Int) - r.turn + 1) / 2
    let measured := s.time.rxDelay = some r ∧ s.time.delayT1 = some t1
    let good := r.turn ≤ 20000 ∧ 0 ≤ d ∧ d ≤ 600 ∧ r.flags / 2 % 2 = 1
    measured ∧ ¬ good := by decide +kernel

theorem test_linkPortsNeighboursAndWake_18_20_25 :
    let s : State := State.reset
    (s.time.rxDelay = none ∨ s.time.delayT1 = none) ∧ s.time.delayT1 = none ∧ (s.wakeMode ≠ 3 ∨ s.flag
      Fld.LK_WAKE_CFG_ENERGY = false) := by decide +kernel

theorem test_linkPortsNeighboursAndWake_21 :
    let s : State := ((linked 2 2 0x40 {}).setFlag Fld.LK_WAKE_CFG_PATTERN true).setFld Fld.PW_STATE_STATE 2
    let target : Nat := 0xFF
    let addr := s.fld Fld.LK_STATUS_ADDR
    let wakes := s.flag Fld.LK_WAKE_CFG_PATTERN = true ∧ (s.wakeMode = 2 ∨ s.wakeMode = 3) ∧ (target = addr ∧ target ≠ 0 ∨
      target = 0xFF)
    wakes ∧ (s.fld Fld.LK_STATUS_U_STATE ≠ 0 ∨ 3 ≤ s.power) := by decide +kernel

theorem test_linkPortsNeighboursAndWake_22 :
    let s : State := linked 2 2 0x40 {}
    let target : Nat := 0xFF
    let downUp := s.fld Fld.LK_STATUS_D_STATE = 2
    let addr := s.fld Fld.LK_STATUS_ADDR
    let wakes := s.flag Fld.LK_WAKE_CFG_PATTERN = true ∧ (s.wakeMode = 2 ∨ s.wakeMode = 3) ∧ (target = addr ∧ target ≠ 0 ∨
      target = 0xFF)
    ¬ wakes ∧ s.fld Fld.LK_STATUS_U_STATE ≠ 0 ∧ s.power < 3 ∧ downUp := by decide +kernel

theorem test_linkPortsNeighboursAndWake_23 :
    let codeError : Bool := true
    codeError = true := by decide +kernel

theorem test_linkPortsNeighboursAndWake_24 :
    let s : State := ((linked 2 2 0x40 {}).setFlag Fld.LK_WAKE_CFG_ENERGY true).setFld Fld.PW_STATE_STATE 3
    s.wakeMode = 3 ∧ s.flag Fld.LK_WAKE_CFG_ENERGY = true := by decide +kernel

/-! ## Time -/

/-- TM_SET_TIME and TM_SET_DATE as given: seconds, minutes, hours, day, month, year. -/
def setTo (l : List Nat) : State :=
  withFlds ([Fld.TM_SET_TIME_SEC, Fld.TM_SET_TIME_MIN, Fld.TM_SET_TIME_HOUR, Fld.TM_SET_DATE_DAY, Fld.TM_SET_DATE_MONTH, Fld.TM_SET_DATE_YEAR].zip l)

theorem test_rtcSetAndCapture_0 :
    let s : State := setTo [59, 59, 23, 29, 2, 196]
    let valid := s.fld Fld.TM_SET_TIME_SEC ≤ 59 ∧ s.fld Fld.TM_SET_TIME_MIN ≤ 59 ∧ s.fld Fld.TM_SET_TIME_HOUR ≤ 23 ∧ 1 ≤
      s.fld Fld.TM_SET_DATE_MONTH ∧ s.fld Fld.TM_SET_DATE_MONTH ≤ 12 ∧ 1 ≤ s.fld Fld.TM_SET_DATE_DAY ∧ s.fld
      Fld.TM_SET_DATE_DAY ≤ monthDays (s.fld Fld.TM_SET_DATE_YEAR) (s.fld Fld.TM_SET_DATE_MONTH) ∧ s.fld
      Fld.TM_SET_DATE_YEAR ≤ 199
    valid := by decide +kernel

theorem test_rtcSetAndCapture_1 :
    let s : State := setTo [59, 59, 23, 29, 2, 197]
    let valid := s.fld Fld.TM_SET_TIME_SEC ≤ 59 ∧ s.fld Fld.TM_SET_TIME_MIN ≤ 59 ∧ s.fld Fld.TM_SET_TIME_HOUR ≤ 23 ∧ 1 ≤
      s.fld Fld.TM_SET_DATE_MONTH ∧ s.fld Fld.TM_SET_DATE_MONTH ≤ 12 ∧ 1 ≤ s.fld Fld.TM_SET_DATE_DAY ∧ s.fld
      Fld.TM_SET_DATE_DAY ≤ monthDays (s.fld Fld.TM_SET_DATE_YEAR) (s.fld Fld.TM_SET_DATE_MONTH) ∧ s.fld
      Fld.TM_SET_DATE_YEAR ≤ 199
    ¬ valid := by decide +kernel

theorem test_clockFaultsAndDelayNow_1 :
    let s : State := { State.reset with pins := { State.reset.pins with vddAon := false } }
    s.pins.vddAon = false := by decide +kernel

theorem test_clockFaultsAndDelayNow_2 :
    let s : State := State.reset
    s.pins.vddAon = true := by decide +kernel

theorem test_calendarRolloverAddsOneSecond_0 :
    let s : State := { State.reset with time := { rolloverLost := true } }
    s.time.rolloverLost = true := by decide +kernel

theorem test_calendarRolloverAddsOneSecond_1 :
    let s : State := withFlds [(Fld.TM_RTC_TIME_SEC, 59), (Fld.TM_RTC_TIME_MIN, 59), (Fld.TM_RTC_TIME_HOUR, 23),
      (Fld.TM_RTC_DATE_DAY, 31), (Fld.TM_RTC_DATE_MONTH, 12), (Fld.TM_RTC_DATE_YEAR, 199)]
    s.time.rolloverLost = false ∧ s.fld Fld.TM_RTC_TIME_SEC ≤ 59 ∧ s.fld Fld.TM_RTC_TIME_MIN ≤ 59 ∧ s.fld
      Fld.TM_RTC_TIME_HOUR ≤ 23 ∧ 1 ≤ s.fld Fld.TM_RTC_DATE_MONTH ∧ s.fld Fld.TM_RTC_DATE_MONTH ≤ 12 ∧ 1 ≤ s.fld
      Fld.TM_RTC_DATE_DAY ∧ s.fld Fld.TM_RTC_DATE_DAY ≤ monthDays (s.fld Fld.TM_RTC_DATE_YEAR) (s.fld Fld.TM_RTC_DATE_MONTH)
      ∧ s.fld Fld.TM_RTC_DATE_YEAR ≤ 199 := by decide +kernel

theorem test_servoFollowsSync_0 :
    let s : State :=
      { (withFlds [(Fld.TM_CFG_SYNC_EN, 1)]) with time := { rxSync := some ⟨0xFFFFFFFFFFFFFFFF, 1000, 5, 5, some 1⟩ } }
    let y : RxSync := ⟨0xFFFFFFFFFFFFFFFF, 1000, 5, 5, some 1⟩
    let path : Nat := 1
    s.time.rxSync = some y ∧ y.path = some path ∧ s.flag Fld.TM_CFG_SYNC_EN = true ∧ 10 ≤ y.interval ∧ y.interval ≤ 1000 ∧
      s.fld Fld.TM_STATUS_STATE = 0 := by decide +kernel

theorem test_servoFollowsSync_1 :
    let s : State := { State.reset with time := { rxSync := some ⟨0, 10, 5, 5, none⟩ } }
    let y : RxSync := ⟨0, 10, 5, 5, none⟩
    s.time.rxSync = some y ∧ y.path = none := by decide +kernel

theorem test_servoFollowsSync_2 :
    let s : State := { State.reset with time := { lastSync := some 0 } }
    s.time.lastSync.isSome = true ∧ s.fld Fld.TM_STATUS_STATE ≠ 3 := by decide +kernel

theorem test_servoFollowsSync_3 :
    let s : State :=
      { withFlds [(Fld.TM_STATUS_LOCKED, 1), (Fld.TM_CFG_RTC_FOLLOW, 1), (Fld.TM_RTC_DATE_DAY, 1), (Fld.TM_RTC_DATE_MONTH, 1), (Fld.TM_RTC_DATE_YEAR, 199)] with time := {} }
    s.locked = true ∧ s.flag Fld.TM_CFG_RTC_FOLLOW = true ∧ s.plumbNs.toNat / 1000000000 + 1 < calSpan ∧ 2000000 * 128 <
      ((s.calFine : Int) - (s.plumbNs.toNat / 1000000000 * 128000000000 : Nat)).natAbs := by decide +kernel

/-! ## Aux analog -/

/-- The aux subsystem as given, with fields set. -/
def auxed (x : AxState) (fs : List (RegField × Nat)) : State := { withFlds fs with ax := x }

/-- A pass of bank 1 with one entry and results so far. -/
def passOf (dest : Word) (rs : List (Nat × Bool × Bool)) : AxPass := { bank := 1, mask := 0, dest := dest, destRows := 1, entries := [0], cal := [], sys := [], results := rs }

/-- Sums of a self-calibration with no offset and unity gain. -/
def unity : List (Int × Int) := List.replicate 5 (0, 4096 * 1984)

theorem test_auxSequencerRuns_0_13 :
    let s : State := auxed {} []
    let bank := s.fld Fld.AX_STATUS_LIVE
    let cfg := fun x : Nat => s.reg (if x = 0 then Reg.AX_SEQA_CFG else Reg.AX_SEQB_CFG)
    let trig := bits (cfg bank) 5 4
    (s.ax.running = false ∨ trig ≠ 0) ∧ s.ax.running = false := by decide +kernel

theorem test_auxSequencerRuns_1_12 :
    let s : State := auxed { running := true } []
    let bank := s.fld Fld.AX_STATUS_LIVE
    let cfg := fun x : Nat => s.reg (if x = 0 then Reg.AX_SEQA_CFG else Reg.AX_SEQB_CFG)
    let trig := bits (cfg bank) 5 4
    let idle := s.ax.passes = []
    let busy := ¬ idle ∨ s.flag Fld.AX_STATUS_CAL_BUSY = true ∨ s.ax.trig = true
    s.ax.running = true ∧ trig = 0 ∧ ¬ busy := by decide +kernel

theorem test_auxSequencerRuns_2_4_9_11_16 :
    let s : State := auxed { running := true, passes := [passOf 0 []] } []
    let v : Word := 0
    let w : Word := 0
    let run : Bool := false
    let bank := s.fld Fld.AX_STATUS_LIVE
    let cfg := fun x : Nat => s.reg (if x = 0 then Reg.AX_SEQA_CFG else Reg.AX_SEQB_CFG)
    let ent := fun (x i : Nat) => s.reg (if x = 0 then Reg.AX_SEQA_ENT i else Reg.AX_SEQB_ENT i)
    let trig := bits (cfg bank) 5 4
    let idle := s.ax.passes = []
    let held := s.flag Fld.AX_STATUS_START_HELD = true
    let busy := ¬ idle ∨ s.flag Fld.AX_STATUS_CAL_BUSY = true ∨ s.ax.trig = true
    let tiny := fun x : Nat => bits (cfg x) 3 0 = 0 ∧ bits (cfg x) 5 4 ≠ 2 ∧ bits (ent x 0) 5 0 < 12 ∧ bits (ent x 0) 18 16
      < 5 ∧ bits (ent x 0) 23 20 ≤ 2 ∧ bits (ent x 0) 27 24 ≤ 8
    let now := s.fld Fld.AX_SEL_BANK
    let booted := s.flag Fld.SYS_BOOT_STATUS_BOOT_DONE = true
    let tile := bits w 3 0
    s.ax.running = true ∧ trig = 0 ∧ busy ∧ ¬ held ∧ tiny now ∧ s.reg Reg.AX_IMG_MASK = 0 ∧ s.flag
      Fld.DS_FUSE_POLICY_AUX_ALL_TAGGED = false ∧ (run = false ∨ booted) ∧ (tstBit w 31 = false ∨ s.tilePart tile = s.fld
      Fld.AX_DEST_PART + 1) ∧ (s.flag Fld.AX_SIG_EN = false ∨ s.tilePart (s.fld Fld.AX_SIG_TILE) = bits v 1 0 + 1) ∧
      (s.partition (bits v 1 0)).pkg = none ∧ (s.ax.running = false ∨ (s.flag Fld.AX_STATUS_CAL_BUSY = false ∧
      s.px.supplyGood = false)) := by decide +kernel

theorem test_auxSequencerRuns_3 :
    let s : State := auxed { running := true, passes := [passOf 0 []] } [(Fld.AX_STATUS_START_HELD, 1)]
    let bank := s.fld Fld.AX_STATUS_LIVE
    let cfg := fun x : Nat => s.reg (if x = 0 then Reg.AX_SEQA_CFG else Reg.AX_SEQB_CFG)
    let trig := bits (cfg bank) 5 4
    let idle := s.ax.passes = []
    let held := s.flag Fld.AX_STATUS_START_HELD = true
    let busy := ¬ idle ∨ s.flag Fld.AX_STATUS_CAL_BUSY = true ∨ s.ax.trig = true
    s.ax.running = true ∧ trig = 0 ∧ busy ∧ held := by decide +kernel

theorem test_auxSequencerRuns_5 :
    let s : State := auxed {} [(⟨Reg.AX_SEQA_ENT 0, 5, 0⟩, 12)]
    let k : Fin 16 := 0
    let cfg := fun x : Nat => s.reg (if x = 0 then Reg.AX_SEQA_CFG else Reg.AX_SEQB_CFG)
    let ent := fun (x i : Nat) => s.reg (if x = 0 then Reg.AX_SEQA_ENT i else Reg.AX_SEQB_ENT i)
    let invalidEntry := fun x : Nat => bits (cfg x) 3 0 = k.val ∧ (5 ≤ bits (ent x k.val) 18 16 ∨ 9 ≤ bits (ent x k.val) 23
      20 ∨ 9 ≤ bits (ent x k.val) 27 24 ∨ bits (ent x k.val) 27 24 + 2 < bits (ent x k.val) 23 20 ∨ bits (ent x k.val) 5 0 =
      12 ∨ 45 ≤ bits (ent x k.val) 5 0 ∨ (32 ≤ bits (ent x k.val) 5 0 ∧ tstBit (ent x k.val) 29 = true))
    let now := s.fld Fld.AX_SEL_BANK
    invalidEntry now := by decide +kernel

theorem test_auxSequencerRuns_6 :
    let s : State := auxed {} []
    let b : Fin 2 := 1
    let cfg := fun x : Nat => s.reg (if x = 0 then Reg.AX_SEQA_CFG else Reg.AX_SEQB_CFG)
    let ent := fun (x i : Nat) => s.reg (if x = 0 then Reg.AX_SEQA_ENT i else Reg.AX_SEQB_ENT i)
    let tiny := fun x : Nat => bits (cfg x) 3 0 = 0 ∧ bits (cfg x) 5 4 ≠ 2 ∧ bits (ent x 0) 5 0 < 12 ∧ bits (ent x 0) 18 16
      < 5 ∧ bits (ent x 0) 23 20 ≤ 2 ∧ bits (ent x 0) 27 24 ≤ 8
    let booted := s.flag Fld.SYS_BOOT_STATUS_BOOT_DONE = true
    tiny b.val ∧ s.reg Reg.AX_IMG_MASK = 0 ∧ s.flag Fld.DS_FUSE_POLICY_AUX_ALL_TAGGED = false ∧ s.flag Fld.AX_SEL_RUN =
      s.ax.running ∧ (s.ax.running = false ∨ booted) := by decide +kernel

theorem test_auxSequencerRuns_7 :
    let s : State := auxed {} [(⟨Reg.AX_SEQB_CFG, 3, 0⟩, 15), (⟨Reg.AX_SEQB_ENT 15, 5, 0⟩, 63)]
    let b : Fin 2 := 1
    let k : Fin 16 := 15
    let cfg := fun x : Nat => s.reg (if x = 0 then Reg.AX_SEQA_CFG else Reg.AX_SEQB_CFG)
    let ent := fun (x i : Nat) => s.reg (if x = 0 then Reg.AX_SEQA_ENT i else Reg.AX_SEQB_ENT i)
    let invalidEntry := fun x : Nat => bits (cfg x) 3 0 = k.val ∧ (5 ≤ bits (ent x k.val) 18 16 ∨ 9 ≤ bits (ent x k.val) 23
      20 ∨ 9 ≤ bits (ent x k.val) 27 24 ∨ bits (ent x k.val) 27 24 + 2 < bits (ent x k.val) 23 20 ∨ bits (ent x k.val) 5 0 =
      12 ∨ 45 ≤ bits (ent x k.val) 5 0 ∨ (32 ≤ bits (ent x k.val) 5 0 ∧ tstBit (ent x k.val) 29 = true))
    let now := s.fld Fld.AX_SEL_BANK
    now ≠ b.val ∧ invalidEntry b.val := by decide +kernel

theorem test_auxSequencerRuns_10 :
    let s : State := auxed {} [(Fld.AX_DEST_PART, 3)]
    let w : Word := 0x8000000F
    let tile := bits w 3 0
    tstBit w 31 = true ∧ s.tilePart tile ≠ s.fld Fld.AX_DEST_PART + 1 := by decide +kernel

theorem test_auxSequencerRuns_14 :
    let s : State := { auxed { running := true, trig := true } [] with px := { supplyGood := true } }
    let late : Bool := false
    let bank := s.fld Fld.AX_STATUS_LIVE
    let cfg := fun x : Nat => s.reg (if x = 0 then Reg.AX_SEQA_CFG else Reg.AX_SEQB_CFG)
    let trig := bits (cfg bank) 5 4
    let held := s.flag Fld.AX_STATUS_START_HELD = true
    let free := s.ax.running = true ∧ s.flag Fld.AX_STATUS_CAL_BUSY = false ∧ s.px.supplyGood = true ∧ s.flag
      Fld.AX_STATUS_FLIP_PENDING = false
    free ∧ (trig ≠ 0 ∨ s.ax.trig = true ∨ held) ∧ (late = false ∨ trig < 2) := by decide +kernel

theorem test_auxSequencerRuns_15 :
    let s : State := auxed { running := true } [(Fld.AX_STATUS_CAL_BUSY, 1), (⟨Reg.AX_SEQA_CFG, 5, 4⟩, 2)]
    let bank := s.fld Fld.AX_STATUS_LIVE
    let cfg := fun x : Nat => s.reg (if x = 0 then Reg.AX_SEQA_CFG else Reg.AX_SEQB_CFG)
    let trig := bits (cfg bank) 5 4
    s.ax.running = true ∧ s.flag Fld.AX_STATUS_CAL_BUSY = true ∧ 2 ≤ trig := by decide +kernel

theorem test_auxResultsAndCalibration_0 :
    let s : State := auxed { passes := [passOf 0 []] } []
    let p : AxPass := passOf 0 []
    let len := p.entries.length
    let i := p.results.length
    let w := p.entries.getD i 0
    let chan := bits w 5 0
    let all := s.flag Fld.DS_FUSE_POLICY_AUX_ALL_TAGGED = true
    let imaging := chan = 41 ∨ all ∨ (chan < 12 ∧ p.mask / 2 ^ chan % 2 = 1) ∨ (16 ≤ chan ∧ chan < 22 ∧ p.mask / 4 ^ (chan -
      16) % 4 ≠ 0)
    let passing := s.ax.passes = [p]
    passing ∧ i < len ∧ len ≤ 16 ∧ ¬ imaging := by decide +kernel

theorem test_auxResultsAndCalibration_1_6_10_11_13_17_21 :
    let p : AxPass := { passOf 0 [] with entries := [41] }
    let s : State := auxed { passes := [p] } []
    let k : Fin 16 := 0
    let entAt := fun (x i : Nat) => s.reg (if x = 0 then Reg.AX_SEQA_ENT i else Reg.AX_SEQB_ENT i)
    let len := p.entries.length
    let i := p.results.length
    let w := p.entries.getD i 0
    let chan := bits w 5 0
    let all := s.flag Fld.DS_FUSE_POLICY_AUX_ALL_TAGGED = true
    let imaging := chan = 41 ∨ all ∨ (chan < 12 ∧ p.mask / 2 ^ chan % 2 = 1) ∨ (16 ≤ chan ∧ chan < 22 ∧ p.mask / 4 ^ (chan -
      16) % 4 ≠ 0)
    let passing := s.ax.passes = [p]
    let busy := s.flag Fld.AX_STATUS_CAL_BUSY = true
    let live := s.fld Fld.AX_STATUS_LIVE
    let lw := entAt live k.val
    let liveLen := bits (s.reg (if live = 0 then Reg.AX_SEQA_CFG else Reg.AX_SEQB_CFG)) 3 0 + 1
    let secret := entImaging (s.fld Fld.AX_IMG_MASK_AIN) (s.flag Fld.DS_FUSE_POLICY_AUX_ALL_TAGGED) lw = true
    let syscal := s.flag Fld.AX_SEL_RUN = false ∧ ¬ busy ∧ s.ax.calNext = false ∧ k.val < liveLen
    let self := busy ∧ s.ax.syscal = none
    passing ∧ i < len ∧ len ≤ 16 ∧ imaging ∧ (s.ax.passes = [] ∨ (passing ∧ i < len)) ∧ s.ax.fifo = [] ∧ ¬ busy ∧
      s.ax.calNext = false ∧ syscal ∧ (¬ secret ∨ s.lifecycle = 0) ∧ ¬ self ∧ s.ax.syscal = none := by decide +kernel

theorem test_auxResultsAndCalibration_2_9 :
    let r : AxRow := ⟨0x200000, 0xFF, 3⟩
    let s : State := auxed { fifo := [r] } []
    let p : AxPass := passOf 0 []
    let len := p.entries.length
    let i := p.results.length
    let passing := s.ax.passes = [p]
    let stands := (s.partition r.part).pkg.isSome = true ∧ s.axDestMoves r.part = false
    (s.ax.passes = [] ∨ (passing ∧ len ≤ i)) ∧ s.ax.fifo = [r] ∧ ¬ stands := by decide +kernel

theorem test_auxResultsAndCalibration_3 :
    let s : State := auxed { passes := [passOf 0 [(1, false, false)]] } []
    let p : AxPass := passOf 0 [(1, false, false)]
    let len := p.entries.length
    let i := p.results.length
    let passing := s.ax.passes = [p]
    let ents := (List.range 16).filter (fun x => (p.results.getD x (0, false, false)).2.2)
    passing ∧ len ≤ i ∧ i ≤ 16 ∧ ents = [] := by decide +kernel

theorem test_auxResultsAndCalibration_4 :
    let s : State := (auxed { passes := [passOf 0x13 [(1, false, true)]] } []).setPart 3 { pkg := some {} }
    let p : AxPass := passOf 0x13 [(1, false, true)]
    let len := p.entries.length
    let i := p.results.length
    let passing := s.ax.passes = [p]
    let ents := (List.range 16).filter (fun x => (p.results.getD x (0, false, false)).2.2)
    let fits := tstBit p.dest 4 = true ∧ (s.partition (bits p.dest 1 0)).pkg.isSome = true ∧ p.destRows ≠ 0 ∧
      s.ax.fifo.length < 8 ∧ s.axDestMoves (bits p.dest 1 0) = false
    passing ∧ len ≤ i ∧ i ≤ 16 ∧ ents ≠ [] ∧ fits := by decide +kernel

theorem test_auxResultsAndCalibration_5 :
    let s : State := auxed { passes := [passOf 3 [(1, false, true)]] } []
    let p : AxPass := passOf 3 [(1, false, true)]
    let len := p.entries.length
    let i := p.results.length
    let passing := s.ax.passes = [p]
    let ents := (List.range 16).filter (fun x => (p.results.getD x (0, false, false)).2.2)
    passing ∧ len ≤ i ∧ ents ≠ [] ∧ tstBit p.dest 4 = false := by decide +kernel

theorem test_auxResultsAndCalibration_7 :
    let s : State := (auxed { fifo := [⟨0x200000, 0xFF, 3⟩] } []).setPart 3 { pkg := some {} }
    let r : AxRow := ⟨0x200000, 0xFF, 3⟩
    let stands := (s.partition r.part).pkg.isSome = true ∧ s.axDestMoves r.part = false
    s.ax.fifo = [r] ∧ stands ∧ s.rowOpen r.dest = true ∧ s.flag Fld.AX_SIG_EN = false := by decide +kernel

theorem test_auxResultsAndCalibration_8 :
    let s : State := ((auxed { fifo := [⟨0x200000, 0xFF, 3⟩] } []).setPart 3 { pkg := some {} }).setReg (Reg.SP_FAR_PWR 0) 0
    let r : AxRow := ⟨0x200000, 0xFF, 3⟩
    let stands := (s.partition r.part).pkg.isSome = true ∧ s.axDestMoves r.part = false
    s.ax.fifo = [r] ∧ stands ∧ s.bankPowered (bankOf r.dest) = false := by decide +kernel

theorem test_auxResultsAndCalibration_12 :
    let s : State := auxed { calNext := true } []
    let busy := s.flag Fld.AX_STATUS_CAL_BUSY = true
    (busy ∨ s.ax.calNext = true) := by decide +kernel

theorem test_auxResultsAndCalibration_14 :
    let s : State := auxed {} [(Fld.AX_SEL_RUN, 1)]
    let k : Fin 16 := 0
    let entAt := fun (x i : Nat) => s.reg (if x = 0 then Reg.AX_SEQA_ENT i else Reg.AX_SEQB_ENT i)
    let busy := s.flag Fld.AX_STATUS_CAL_BUSY = true
    let live := s.fld Fld.AX_STATUS_LIVE
    let lw := entAt live k.val
    let liveLen := bits (s.reg (if live = 0 then Reg.AX_SEQA_CFG else Reg.AX_SEQB_CFG)) 3 0 + 1
    let secret := entImaging (s.fld Fld.AX_IMG_MASK_AIN) (s.flag Fld.DS_FUSE_POLICY_AUX_ALL_TAGGED) lw = true
    let syscal := s.flag Fld.AX_SEL_RUN = false ∧ ¬ busy ∧ s.ax.calNext = false ∧ k.val < liveLen
    (¬ syscal ∨ (secret ∧ s.lifecycle ≠ 0)) := by decide +kernel

theorem test_auxResultsAndCalibration_15 :
    let s : State := auxed {} [(Fld.AX_STATUS_CAL_BUSY, 1)]
    let sums : List (Int × Int) := unity
    let busy := s.flag Fld.AX_STATUS_CAL_BUSY = true
    let fs := (List.range 5).map (fun x => axFactors (sums.getD x (0, 0)))
    let inRange := ∀ x : Fin 5, -256 ≤ (fs.getD x.val (0, 0)).1 ∧ (fs.getD x.val (0, 0)).1 ≤ 255 ∧ 0x3800 ≤ (fs.getD x.val
      (0, 0)).2 ∧ (fs.getD x.val (0, 0)).2 ≤ 0x4800
    let self := busy ∧ s.ax.syscal = none
    self ∧ inRange := by decide +kernel

theorem test_auxResultsAndCalibration_16 :
    let s : State := auxed {} [(Fld.AX_STATUS_CAL_BUSY, 1)]
    let sums : List (Int × Int) := [(-257 * 1984, 4096 * 1984)]
    let busy := s.flag Fld.AX_STATUS_CAL_BUSY = true
    let fs := (List.range 5).map (fun x => axFactors (sums.getD x (0, 0)))
    let inRange := ∀ x : Fin 5, -256 ≤ (fs.getD x.val (0, 0)).1 ∧ (fs.getD x.val (0, 0)).1 ≤ 255 ∧ 0x3800 ≤ (fs.getD x.val
      (0, 0)).2 ∧ (fs.getD x.val (0, 0)).2 ≤ 0x4800
    let self := busy ∧ s.ax.syscal = none
    self ∧ ¬ inRange := by decide +kernel

theorem test_auxResultsAndCalibration_18 :
    let s : State := auxed { syscal := some (15, false) } []
    let raw : List Int := List.replicate 256 4095
    let k : Fin 16 := 15
    s.ax.syscal = some (k.val, false) ∧ raw.length = 256 := by decide +kernel

theorem test_auxResultsAndCalibration_19 :
    let s : State := auxed { syscal := some (15, true) } [(Fld.AX_SYSCAL_TARGET_TARGET, 4095)]
    let raw : List Int := List.replicate 256 4095
    let k : Fin 16 := 15
    let entAt := fun (x i : Nat) => s.reg (if x = 0 then Reg.AX_SEQA_ENT i else Reg.AX_SEQB_ENT i)
    let step := fun (f : Int × Nat) (x : Int) => (x - f.1) * f.2 + 8192
    let live := s.fld Fld.AX_STATUS_LIVE
    let lw := entAt live k.val
    let lcal := (signed 16 (s.fld (Fld.AX_CAL_OFF_OFF (bits lw 18 16))), s.fld (Fld.AX_CAL_GAIN_GAIN (bits lw 18 16)))
    let means := (raw.map (fun x => step lcal x / 16384)).sum
    let target := signed 16 (s.fld Fld.AX_SYSCAL_TARGET_TARGET)
    let gain := roundDiv (target * 16384 * 256) (means - 256 * signed 16 (s.fld (Fld.AX_SYSCAL_SOFF k.val)))
    s.ax.syscal = some (k.val, true) ∧ raw.length = 256 ∧ target ≠ 0 ∧ 0x2000 ≤ gain ∧ gain ≤ 0x8000 := by decide +kernel

theorem test_auxResultsAndCalibration_20 :
    let s : State := auxed { syscal := some (15, true) } [(Fld.AX_SYSCAL_TARGET_TARGET, 1)]
    let raw : List Int := List.replicate 256 4095
    let k : Fin 16 := 15
    let entAt := fun (x i : Nat) => s.reg (if x = 0 then Reg.AX_SEQA_ENT i else Reg.AX_SEQB_ENT i)
    let step := fun (f : Int × Nat) (x : Int) => (x - f.1) * f.2 + 8192
    let live := s.fld Fld.AX_STATUS_LIVE
    let lw := entAt live k.val
    let lcal := (signed 16 (s.fld (Fld.AX_CAL_OFF_OFF (bits lw 18 16))), s.fld (Fld.AX_CAL_GAIN_GAIN (bits lw 18 16)))
    let means := (raw.map (fun x => step lcal x / 16384)).sum
    let target := signed 16 (s.fld Fld.AX_SYSCAL_TARGET_TARGET)
    let gain := roundDiv (target * 16384 * 256) (means - 256 * signed 16 (s.fld (Fld.AX_SYSCAL_SOFF k.val)))
    s.ax.syscal = some (k.val, true) ∧ raw.length = 256 ∧ (target = 0 ∨ gain < 0x2000 ∨ 0x8000 < gain) := by decide +kernel

/-! ## Power -/

/-- A unit in power state `n` with the power controller as given. -/
def powered (n : Nat) (x : PwState) : State := { withFlds [(Fld.PW_STATE_STATE, n)] with pw := x }

/-- The same after step 17. -/
def poweredUp (n : Nat) (x : PwState) : State := { powered n x with boot := { step := 17 } }

theorem test_powerRequestsDecided_0 :
    let s : State :=
      { (powered 0 { request := some (4, 7) }).setReg Reg.PW_VETO 8 with cores := vput State.reset.cores 3 { running := true } }
    let k : Fin 5 := 4
    let src : Nat := 7
    let cause : Nat := 1
    let unit : Nat := 3
    let waits := s.pw.entering = false ∧ s.flag Fld.PW_STATE_BUSY = false ∧ s.pw.request = some (k.val, src)
    waits ∧ src < 8 ∧ k.val ≠ 0 ∧ s.refuser k.val = some (cause, unit) := by decide +kernel

theorem test_powerRequestsDecided_1 :
    let s : State := powered 0 { request := some (0, 7) }
    let k : Fin 5 := 0
    let src : Nat := 7
    let waits := s.pw.entering = false ∧ s.flag Fld.PW_STATE_BUSY = false ∧ s.pw.request = some (k.val, src)
    waits ∧ k = 0 := by decide +kernel

theorem test_powerRequestsDecided_2 :
    let s : State := powered 0 { request := some (1, 7) }
    let k : Fin 5 := 1
    let src : Nat := 7
    let waits := s.pw.entering = false ∧ s.flag Fld.PW_STATE_BUSY = false ∧ s.pw.request = some (k.val, src)
    waits ∧ k = 1 ∧ s.refuser 1 = none := by decide +kernel

theorem test_lowPowerEntriesComplete_0 :
    let s : State := powered 0 { request := some (2, 7) }
    let src : Nat := 7
    let still := s.pw.entering = false ∧ s.flag Fld.PW_STATE_BUSY = false ∧ s.reg Reg.SV_CTRL = 0 ∧ s.sensorStopped = true ∧
      s.csState ≠ 3 ∧ s.csState ≠ 4 ∧ s.pk.begun = false ∧ s.pk.quiesce = 0 ∧ s.heldStores = [] ∧ s.coresDrained = true ∧ (∀
      p : Fin 4, (s.partition p.val).toSuspend = false) ∧ s.anySkim = false
    still ∧ s.pw.request = some (2, src) ∧ s.refuser 2 = none ∧ s.vFloor < 1024 := by decide +kernel

theorem test_lowPowerEntriesComplete_1 :
    let s : State := powered 0 { request := some (3, 7) }
    let src : Nat := 7
    let still := s.pw.entering = false ∧ s.flag Fld.PW_STATE_BUSY = false ∧ s.reg Reg.SV_CTRL = 0 ∧ s.sensorStopped = true ∧
      s.csState ≠ 3 ∧ s.csState ≠ 4 ∧ s.pk.begun = false ∧ s.pk.quiesce = 0 ∧ s.heldStores = [] ∧ s.coresDrained = true ∧ (∀
      p : Fin 4, (s.partition p.val).toSuspend = false) ∧ s.anySkim = false
    still ∧ s.pw.request = some (3, src) ∧ s.refuser 3 = none ∧ s.ax.passes = [] ∧ s.fld mbState ≠ 2 := by decide +kernel

theorem test_lowPowerEntriesComplete_2 :
    let s : State := powered 0 { request := some (4, 7) }
    let src : Nat := 7
    let still := s.pw.entering = false ∧ s.flag Fld.PW_STATE_BUSY = false ∧ s.reg Reg.SV_CTRL = 0 ∧ s.sensorStopped = true ∧
      s.csState ≠ 3 ∧ s.csState ≠ 4 ∧ s.pk.begun = false ∧ s.pk.quiesce = 0 ∧ s.heldStores = [] ∧ s.coresDrained = true ∧ (∀
      p : Fin 4, (s.partition p.val).toSuspend = false) ∧ s.anySkim = false
    still ∧ s.pw.request = some (4, src) ∧ s.refuser 4 = none ∧ s.ax.passes = [] ∧ s.fld mbState ≠ 2 ∧ s.snagQueue = [] ∧
      s.mg.snagOps = [] := by decide +kernel

theorem test_wakesLeaveSkimAndDoze_0 :
    let s : State := powered 2 { wake := true }
    let ready := s.pw.entering = false ∧ s.pw.wake = true ∧ s.pw.exitStep = 0 ∧ s.flag Fld.PW_STATE_BUSY = false
    s.power = 2 ∧ ready ∧ s.flag Fld.PW_AVS_STATUS_LOST = false ∧ s.pw.avs.current = none ∧ s.pw.heldRequest < 1024 := by decide +kernel

theorem test_wakesLeaveSkimAndDoze_1 :
    let s : State := powered 2 { exitStep := 2 }
    s.power = 2 ∧ s.pw.entering = false ∧ s.pw.exitStep = 2 ∧ s.pw.avs.current = none ∧ s.anySkim = false ∧ s.px.skim =
      false ∧ s.px.skimNext = none := by decide +kernel

theorem test_wakesLeaveSkimAndDoze_2 :
    let s : State := powered 3 { wake := true }
    let ready := s.pw.entering = false ∧ s.pw.wake = true ∧ s.pw.exitStep = 0 ∧ s.flag Fld.PW_STATE_BUSY = false
    s.power = 3 ∧ ready ∧ s.pw.restartEnd = 0 ∧ s.boot.failed = none := by decide +kernel

theorem test_wakesLeaveSkimAndDoze_3 :
    let s : State := powered 3 { exitStep := 6 }
    s.power = 3 ∧ s.pw.entering = false ∧ s.boot.failed = none ∧ s.pw.exitStep = 6 ∧ s.boot.toLoad = [] ∧ s.boot.imageFailed
      = false ∧ s.fld Fld.PW_STATE_TARGET < 2 := by decide +kernel

theorem test_monitorsAndSupplyRestart_0 :
    let s : State := (powered 0 {}).setFlag Fld.PW_STATUS_LDO_NORMAL false
    s.flag Fld.PW_STATUS_LDO_NORMAL = false := by decide +kernel

theorem test_monitorsAndSupplyRestart_1_5 :
    let s : State := powered 0 {}
    let a : Int := 117
    let b : Int := 117
    let c : Int := -40
    let trip : Int := if s.fuses.grade = 0 then 118 else 133
    s.power < 3 ∧ a < trip ∧ b < trip ∧ c < trip := by decide +kernel

theorem test_monitorsAndSupplyRestart_2_3_4 :
    let s : State := poweredUp 0 {}
    let a : Int := 117
    let b : Int := 118
    let c : Int := -40
    let trip : Int := if s.fuses.grade = 0 then 118 else 133
    let up := s.boot.step = 17 ∧ s.boot.stopped = false ∧ s.boot.failed = none
    up ∧ s.power < 3 ∧ s.pw.restartEnd = 0 ∧ (trip ≤ a ∨ trip ≤ b ∨ trip ≤ c) ∧ s.flag Fld.PW_STATUS_RESTART = false := by decide +kernel

theorem test_monitorsAndSupplyRestart_6 :
    let s : State := (powered 3 { restartEnd := 1 }).setFlag Fld.PW_STATUS_RESTART true
    s.flag Fld.PW_STATUS_RESTART = true ∧ s.pw.restartEnd = 1 ∧ s.power = 3 ∧ s.pw.entering = false ∧ s.boot.failed = none ∧
      s.pw.exitStep = 0 ∧ s.flag Fld.PW_STATE_BUSY = false := by decide +kernel

/-! ## Management -/

/-- A mailbox in a state, owned by the host SPI port, with its command, length and arguments, and an update's state. -/
def mailed (st cmd len a0 a1 upd : Nat) : State :=
  let s := withFlds [(mbState, st), (mbOwner, 4), (Fld.MG_UPD_STATUS_STATE, upd), (Fld.MG_UPD_STATUS_OWNER, 4), (Fld.MG_STATUS_FW, 1), (⟨Reg.MG_UPD_LEN, 31, 0⟩, 0x10000)]
  { s.setFld Fld.DS_LC_STATE 1 with
    mg := { mbox := Sparse.puts mboxDefault 0 (toLe 2 cmd ++ toLe 2 len ++ toLe 4 0 ++ toLe 4 a0 ++ toLe 4 a1) [] }
    boot := { locators := [⟨0, 3, true, 0x50000, 0x10000, 0x80000, 0x10000⟩], nvmSize := 0x100000 } }

/-- The same with owner keys in slots 2 and 3. -/
def keyed (s : State) : State := { s with fuses := { keys := [none, none, some 6, some 7] } }

/-- A management core that writes FZ_PROG_CMD in a lifecycle state. -/
def fusing (lc : Nat) : State :=
  let s := withFlds [(Fld.DS_LC_STATE, lc), (Fld.MG_STATUS_FW, 1), (⟨Reg.FZ_PROG_ARG, 31, 0⟩, 1)]
  keyed { s with fuses := { arb := 0 } }

/-- The management subsystem as given, with a mailbox command and an update's state. -/
def managed (cmd upd : Nat) (x : MgState) (q : List SnagEntry) : State :=
  { mailed 2 cmd 0 0 0 upd with mg := { x with mbox := (mailed 2 cmd 0 0 0 upd).mg.mbox }, snagQueue := q }

theorem test_mailboxServesRequests_0 :
    let s : State := mailed 1 1 0 0 0 0
    let r : Requester := .dpHost
    let v : Word := 1
    s.fld mbState = 1 ∧ s.mbOwns r = true ∧ tstBit v 0 = true := by decide +kernel

theorem test_mailboxServesRequests_1 :
    let s : State := mailed 1 1 0 0 0 0
    let r : Requester := .dpLath
    let busy := s.fld mbState = 2
    (busy ∨ (s.fld mbState = 1 ∧ s.mbOwns r = false)) := by decide +kernel

theorem test_mailboxServesRequests_3 :
    let s : State := mailed 2 0x50 0 0x5353 0 0
    let j : Fin 10 := 9
    let busy := s.fld mbState = 2
    let off := s.mbArg 0
    let len := s.mbArg 1
    let limits : List (Instr × Nat × Bool × Bool) := [(.mboxInfo, 0x0001, true, s.mbLen == 0), (.snagRead, 0x0010, true,
      s.mbLen == 0 && off < 4096 && 1 ≤ len && len ≤ 63), (.updBegin, 0x0020, true, s.mbLen == 0), (.updData, 0x0021, true,
      16 ≤ s.mbLen && s.mbLen ≤ 2032 && s.mbLen % 16 == 0 && off % 16 == 0), (.updFinish, 0x0022, true, s.mbLen == 0),
      (.updAbort, 0x0023, true, s.mbLen == 0), (.arbAdvance, 0x0024, false, s.mbLen == 0), (.keyRevoke, 0x0031, false,
      s.mbLen == 64 && off < 4), (.policyProgram, 0x0032, false, s.mbLen == 0), (.reset, 0x0050, true, s.mbLen == 0 && off
      == 0x5352)]
    let cmd := limits.getD j.val (.mboxInfo, 0x0001, true, true)
    busy ∧ s.mbCmd = cmd.2.1 ∧ (cmd.2.2.2 = false ∨ (s.safeHalt = true ∧ cmd.2.2.1 = false)) := by decide +kernel

theorem test_mailboxServesRequests_4 :
    let s : State := mailed 2 1 0 0 0 0
    let busy := s.fld mbState = 2
    busy ∧ s.mbCmd = 0x0001 ∧ s.mbLen = 0 := by decide +kernel

theorem test_mailboxServesRequests_5 :
    let s : State := mailed 2 0x10 0 4095 63 0
    let busy := s.fld mbState = 2
    let off := s.mbArg 0
    let len := s.mbArg 1
    busy ∧ s.mbCmd = 0x0010 ∧ s.mbLen = 0 ∧ off < 4096 ∧ 1 ≤ len ∧ len ≤ 63 := by decide +kernel

theorem test_mailboxServesRequests_6 :
    let s : State := mailed 2 0x50 0 0x5352 0 0
    let busy := s.fld mbState = 2
    let off := s.mbArg 0
    busy ∧ s.mbCmd = 0x0050 ∧ s.mbLen = 0 ∧ off = 0x5352 ∧ s.mg.current = none := by decide +kernel

theorem test_mailboxServesRequests_7 :
    let s : State := mailed 2 0xFFFF 0 0 0 0
    let status : Nat := 65535
    let res0 : Nat := 0xFFFFFFFF
    let res1 : Nat := 0xFFFFFFFF
    let payload : List Byte := List.replicate 2016 255
    let busy := s.fld mbState = 2
    busy ∧ 0x8000 ≤ s.mbCmd ∧ s.flag Fld.MG_STATUS_FW = true ∧ s.safeHalt = false ∧ payload.length ≤ 2016 ∧ status < 2 ^ 16
      ∧ res0 < 2 ^ 32 ∧ res1 < 2 ^ 32 := by decide +kernel

theorem test_mailboxServesRequests_8 :
    let s : State := (mailed 2 0x8000 0 0 0 0).setFlag Fld.MG_STATUS_FW false
    let busy := s.fld mbState = 2
    busy ∧ 0x8000 ≤ s.mbCmd ∧ (s.flag Fld.MG_STATUS_FW = false ∨ s.safeHalt = true) := by decide +kernel

theorem test_mailboxServesRequests_9 :
    let s : State := mailed 2 0x20 0 0x103 0x10000 3
    let busy := s.fld mbState = 2
    let off := s.mbArg 0
    let len := s.mbArg 1
    let updState := s.fld Fld.MG_UPD_STATUS_STATE
    busy ∧ s.mbCmd = 0x0020 ∧ s.mbLen = 0 ∧ (updState = 1 ∨ updState = 2 ∨ updState = 3 ∨ s.updSlotOk off len = false) := by decide +kernel

theorem test_mailboxServesRequests_10 :
    let s : State := mailed 2 0x20 0 0xF0000 0x10000 4
    let busy := s.fld mbState = 2
    let off := s.mbArg 0
    let len := s.mbArg 1
    let updState := s.fld Fld.MG_UPD_STATUS_STATE
    busy ∧ s.mbCmd = 0x0020 ∧ s.mbLen = 0 ∧ ¬(1 ≤ updState ∧ updState ≤ 3) ∧ s.updSlotOk off len = true ∧ s.mg.current ≠
      some false := by decide +kernel

theorem test_mailboxServesRequests_11 :
    let s : State := mailed 2 0x21 2032 0x10 0 3
    let busy := s.fld mbState = 2
    let off := s.mbArg 0
    let updState := s.fld Fld.MG_UPD_STATUS_STATE
    let mine := s.fld Fld.MG_UPD_STATUS_OWNER = s.fld mbOwner
    busy ∧ s.mbCmd = 0x0021 ∧ 16 ≤ s.mbLen ∧ s.mbLen ≤ 2032 ∧ s.mbLen % 16 = 0 ∧ off % 16 = 0 ∧ (updState ≠ 2 ∨ ¬mine ∨ (off
      + s.mbLen ≤ (s.reg Reg.MG_UPD_LEN).toNat ∧ s.mg.programmed.any (fun p => overlap off s.mbLen p.1 p.2) = true)) := by decide +kernel

theorem test_mailboxServesRequests_12 :
    let s : State := mailed 2 0x21 2032 0xF810 0 2
    let busy := s.fld mbState = 2
    let off := s.mbArg 0
    let updState := s.fld Fld.MG_UPD_STATUS_STATE
    let mine := s.fld Fld.MG_UPD_STATUS_OWNER = s.fld mbOwner
    busy ∧ s.mbCmd = 0x0021 ∧ 16 ≤ s.mbLen ∧ s.mbLen ≤ 2032 ∧ s.mbLen % 16 = 0 ∧ off % 16 = 0 ∧ updState = 2 ∧ mine ∧ off +
      s.mbLen ≤ (s.reg Reg.MG_UPD_LEN).toNat ∧ s.mg.programmed.any (fun p => overlap off s.mbLen p.1 p.2) = false ∧
      s.mg.current = none := by decide +kernel

theorem test_mailboxServesRequests_13 :
    let s : State := mailed 2 0x22 0 0 0x10000 3
    let busy := s.fld mbState = 2
    let updState := s.fld Fld.MG_UPD_STATUS_STATE
    let mine := s.fld Fld.MG_UPD_STATUS_OWNER = s.fld mbOwner
    busy ∧ s.mbCmd = 0x0022 ∧ s.mbLen = 0 ∧ (updState ≠ 2 ∨ ¬mine) := by decide +kernel

theorem test_mailboxServesRequests_14 :
    let s : State := mailed 2 0x22 0 0 0x10000 2
    let busy := s.fld mbState = 2
    let len := s.mbArg 1
    let updState := s.fld Fld.MG_UPD_STATUS_STATE
    let mine := s.fld Fld.MG_UPD_STATUS_OWNER = s.fld mbOwner
    busy ∧ s.mbCmd = 0x0022 ∧ s.mbLen = 0 ∧ updState = 2 ∧ mine ∧ len ≤ (s.reg Reg.MG_UPD_LEN).toNat := by decide +kernel

theorem test_mailboxServesRequests_15 :
    let s : State := mailed 2 0x23 0 0 0 3
    let busy := s.fld mbState = 2
    let updState := s.fld Fld.MG_UPD_STATUS_STATE
    let mine := s.fld Fld.MG_UPD_STATUS_OWNER = s.fld mbOwner
    busy ∧ s.mbCmd = 0x0023 ∧ s.mbLen = 0 ∧ 1 ≤ updState ∧ updState ≤ 3 ∧ mine ∧ s.mg.current = none := by decide +kernel

theorem test_mailboxServesRequests_16 :
    let s : State := mailed 2 0x23 0 0 0 4
    let busy := s.fld mbState = 2
    let updState := s.fld Fld.MG_UPD_STATUS_STATE
    let mine := s.fld Fld.MG_UPD_STATUS_OWNER = s.fld mbOwner
    busy ∧ s.mbCmd = 0x0023 ∧ s.mbLen = 0 ∧ (updState = 0 ∨ 4 ≤ updState ∨ ¬mine) := by decide +kernel

theorem test_nvmFusesAndWatchdog_0 :
    let s : State := managed 0 0 {} [SnagEntry.mk 1 2 3 4 5 6 7]
    let e : SnagEntry := SnagEntry.mk 1 2 3 4 5 6 7
    s.snagQueue.head? = some e ∧ s.mg.snagOps = [] ∧ s.mg.current = none := by decide +kernel

theorem test_nvmFusesAndWatchdog_1_11_12_21 :
    let s : State := State.reset
    let r : Requester := .mgmt
    let early := s.lifecycle = 0 ∨ s.lifecycle = 1
    s.snagQueue = [] ∧ s.fzWriter r = true ∧ s.mg.job = none ∧ s.inService = false ∧ early ∧ s.fuses.pseudo = none ∧ (s.flag
      Fld.MG_STATUS_FW = false ∨ 3 ≤ s.power) := by decide +kernel

theorem test_nvmFusesAndWatchdog_2 :
    let s : State := managed 0 0 { snagOps := [⟨0x30000, 0, [0xFF, 0]⟩], current := some true } []
    let o : NvmOp := ⟨0x30000, 0, [0xFF, 0]⟩
    s.mg.current = some true ∧ s.mg.snagOps = [o] ∧ o.erase = 0 ∧ ((s.nvmBytes o.addr o.data.length).zip o.data).all (fun p
      => p.1 &&& p.2 == p.2) = true ∧ s.mg.lostDue = 0 ∧ s.mg.updOps = [] := by decide +kernel

theorem test_nvmFusesAndWatchdog_3 :
    let s : State := managed 0x20 1 { updOps := [⟨0x50000, 0x1000, []⟩], current := some false } []
    let o : NvmOp := ⟨0x50000, 0x1000, []⟩
    let busy := s.fld mbState = 2
    s.mg.current = some false ∧ s.mg.updOps = [o] ∧ o.erase ≠ 0 ∧ s.mg.snagOps = [] ∧ s.fld Fld.MG_UPD_STATUS_STATE = 1 ∧
      busy ∧ s.mbCmd = 0x0020 := by decide +kernel

theorem test_nvmFusesAndWatchdog_4 :
    let s : State := managed 0 0 { snagOps := [⟨0x30000, 0, [0xFF, 0]⟩], current := some true } [SnagEntry.mk 1 2 3 4 5 6 7]
    let left : List Byte := [1, 2]
    let o : NvmOp := ⟨0x30000, 0, [0xFF, 0]⟩
    let isErase := decide (o.erase ≠ 0)
    s.mg.current = some true ∧ s.mg.snagOps.head? = some o ∧ s.mg.updOps = [] ∧ s.snagQueue ≠ [] ∧ left.length = (if isErase
      then o.erase else o.data.length) ∧ s.snagQueue.length ≤ 64 ∧ s.mg.lostDue < 65535 := by decide +kernel

theorem test_nvmFusesAndWatchdog_5 :
    let s : State := managed 0x21 2 { updOps := [⟨0x50000, 0, [1, 2]⟩], current := some false } []
    let left : List Byte := [1, 3]
    let o : NvmOp := ⟨0x50000, 0, [1, 2]⟩
    let busy := s.fld mbState = 2
    let isErase := decide (o.erase ≠ 0)
    s.mg.current = some false ∧ s.mg.updOps.head? = some o ∧ s.mg.snagOps = [] ∧ busy ∧ s.mbCmd = 0x0021 ∧ s.fld
      Fld.MG_UPD_STATUS_STATE = 2 ∧ left.length = (if isErase then o.erase else o.data.length) := by decide +kernel

theorem test_nvmFusesAndWatchdog_6 :
    let s : State := fusing 0
    let r : Requester := .tile 15
    s.fzWriter r = false := by decide +kernel

theorem test_nvmFusesAndWatchdog_7_8_9_10 :
    let s : State := { fusing 1 with boot := { primerArb := 1, arbs := [(16, 1)] } }
    let r : Requester := .mgmt
    let arg := s.reg Reg.FZ_PROG_ARG
    s.fzWriter r = true ∧ s.mg.job = none ∧ s.inService = true ∧ s.arbOk arg.toNat = true := by decide +kernel

theorem test_nvmFusesAndWatchdog_13 :
    let s : State := mailed 2 0x24 0 1 0 0
    let busy := s.fld mbState = 2
    busy ∧ s.mbCmd = 0x0024 ∧ s.mbLen = 0 ∧ s.safeHalt = false ∧ s.mg.job = none := by decide +kernel

theorem test_nvmFusesAndWatchdog_14 :
    let s : State := (mailed 2 0x30 32 3 0 0).setFld Fld.DS_LC_STATE 0
    let slot : Fin 4 := 3
    let busy := s.fld mbState = 2
    busy ∧ s.mbCmd = 0x0030 ∧ s.lifecycle = 0 ∧ s.mbLen = 32 ∧ s.mbArg 0 = slot.val ∧ s.safeHalt = false ∧ s.mg.job = none ∧
      s.fuses.programmed slot = false := by decide +kernel

theorem test_nvmFusesAndWatchdog_15 :
    let s : State := mailed 2 0x32 0 0x017F7F7F 0 0
    let busy := s.fld mbState = 2
    let early := s.lifecycle = 0 ∨ s.lifecycle = 1
    busy ∧ s.mbCmd = 0x0032 ∧ s.mbLen = 0 ∧ s.safeHalt = false ∧ s.mg.job = none ∧ early ∧ word (s.mbArg 0) &&&
      s.fuses.policy = s.fuses.policy ∧ word (s.mbArg 0) &&& ~~~0x017F7F7F#32 = 0 := by decide +kernel

theorem test_nvmFusesAndWatchdog_16 :
    let s : State := keyed (mailed 2 0x31 64 3 0 0)
    let slot : Fin 4 := 3
    let busy := s.fld mbState = 2
    let others := (List.range 4).any (fun i => i != slot.val && s.fuses.usable i)
    busy ∧ s.mbCmd = 0x0031 ∧ s.mbLen = 64 ∧ s.mbArg 0 = slot.val ∧ s.safeHalt = false ∧ s.mg.job = none ∧ s.inService =
      true ∧ s.fuses.programmed slot = true ∧ others = true := by decide +kernel

theorem test_nvmFusesAndWatchdog_17 :
    let s : State := (mailed 2 0x31 64 3 0 0).setFld Fld.DS_LC_STATE 7
    let m : Fin 3 := 1
    let busy := s.fld mbState = 2
    let queries : List (Nat × Instr) := [(0x0030, .keyProgram), (0x0031, .keyRevoke), (0x0032, .policyProgram)]
    let query := queries.getD m.val (0x0032, .policyProgram)
    busy ∧ s.mbCmd = query.1 ∧ s.mg.job = none ∧ s.safeHalt = false ∧ s.lifecycle = 7 ∧ s.mbArg 0 < 4 ∧ s.mbLen = (if m = 0
      then 32 else if m = 1 then 64 else 0) := by decide +kernel

theorem test_nvmFusesAndWatchdog_18 :
    let s : State := managed 0 0 { job := some { op := 3, slot := 3 } } []
    let job : FuseJob := { op := 3, slot := 3 }
    s.mg.job = some job ∧ job.op < 6 ∧ 1 ≤ job.op ∧ job.mailbox = false ∧ job.slot < 4 ∧ s.fuses.keys.length = 4 ∧
      s.fuses.revoked.length = 4 ∧ s.fuses.arb ≤ 64 := by decide +kernel

theorem test_nvmFusesAndWatchdog_20 :
    let s : State := mailed 2 1 0 0 0 0
    s.flag Fld.MG_STATUS_FW = true ∧ s.power < 3 ∧ s.mg.current = none := by decide +kernel

/-! ## The whole machine -/

/-- What a step answers. -/
def stepped (s : State) : State :=
  match step s with
  | .next t => t
  | _ => s

theorem test_stepRunsFrontCommand_0 :
    let s : State := { State.reset with pending := [.budgetSlotAdvance] }
    let c : Instr := .budgetSlotAdvance
    let rest : List Instr := []
    s.pending = c :: rest := by decide +kernel

theorem test_stepKeepsCanonicalMemories_0 :
    let s : State := { State.reset with pending := [.budgetSlotAdvance] }
    let t : State := stepped s
    s.memWf = true ∧ step s = .next t := by
  exact ⟨by decide +kernel, rfl⟩

theorem test_resetLeavesTablesValues_0 :
    let a := Reg.TM_RTC_TIME + 0x1000
    a ∉ [Reg.TM_RTC_TIME, Reg.TM_RTC_DATE] := by decide +kernel

end Sys2Proof.Tests
end

section
/-! PROOFS. R254: the results at the extremes of each format (Tables 8.6 to 8.10). A NaN's conversion holds for every NaN code
of every floating format; every other row of the tables is one closed evaluation of an element function, made at each value
of FTZ. -/

namespace Sys2Proof.Machine

/-- R242: a NaN rounded to a floating format is the canonical NaN of the format and sets no flag, whatever FTZ says. -/
theorem finishF_nan (f : Fmt) (z : Bool) : finishF f z (plain .nan) = (fmtNan f, noFlags) := rfl

/-- R250: between two floating formats CVT rounds the operand's exact value once; FP32 to FP32 is the INT32 source instead. -/
theorem cvtElem_float_float {f f2 : Fmt} (z : Bool) (code : Nat) (hf : fmtIsInt f = false) (hf2 : fmtIsInt f2 = false)
    (hne : ¬ (f = .fp32 ∧ f2 = .fp32)) : cvtElem f f2 z code = finishF f2 z (plain (decodeF f code)) := by
  simp [cvtElem, hf, hf2, hne]

/-- R242: a NaN converted to another floating format is its canonical NaN, without a flag. -/
theorem cvtElem_nan_float {f f2 : Fmt} (z : Bool) {code : Nat} (hf : fmtIsInt f = false) (hf2 : fmtIsInt f2 = false)
    (hne : ¬ (f = .fp32 ∧ f2 = .fp32)) (hnan : decodeF f code = .nan) : cvtElem f f2 z code = (fmtNan f2, noFlags) := by
  rw [cvtElem_float_float z code hf hf2 hne, hnan, finishF_nan]

/-- R242: a NaN converted to an integer format is 0, with NV. -/
theorem cvtElem_nan_int {f f2 : Fmt} (z : Bool) {code : Nat} (hf : fmtIsInt f = false) (hf2 : fmtIsInt f2 = true)
    (hnan : decodeF f code = .nan) : cvtElem f f2 z code = (0, onlyNv) := by
  have hne : f2 ≠ .fp32 := by rintro rfl; cases hf2
  simp [cvtElem, hf, hf2, hne, hnan]

/-- Settles O27: each row of Tables 8.6 to 8.10 evaluated with FTZ 0 and with FTZ 1, and the conversions of a NaN by the laws
above. -/
theorem resultsAtTheExtremes : Obligations.ResultsAtTheExtremes := by
  intro z nf code
  dsimp only
  refine ⟨?vecFloat, ?vecInt, ?mm, ?drain, ?cvt, fun hf hnan => ⟨?nanToE4m3, fun g hg => ?nanToInt⟩⟩
  case nanToE4m3 => exact cvtElem_nan_float z hf rfl (by simp) hnan
  case nanToInt =>
    have hint : ∀ g ∈ [Fmt.int4, Fmt.int8, Fmt.int16], fmtIsInt g = true := by decide
    exact cvtElem_nan_int z hf (hint g hg) hnan
  all_goals clear nf code
  case vecFloat => cases z <;> decide +kernel
  case vecInt => cases z <;> decide +kernel
  case mm => cases z <;> decide +kernel
  case drain => cases z <;> decide +kernel
  case cvt => cases z <;> decide +kernel

end Sys2Proof.Machine
end

section
/-! PROOFS. What the commands of a running core do: which of the shared wrappers (earlier loads, both buffers, a waiting reset,
the mode check of the Xcg extension) leave the instruction's own effect alone, and what a retirement, a trap and the end of a
task leave of the state. -/

namespace Sys2Proof.Machine

/-! ## Vectors, cores, tiles and counters: reading after writing -/

theorem vget_vput_same {α : Type} {n : Nat} (d : α) (v : Vector α n) {i : Nat} (x : α) (h : i < n) :
    vget d (vput v i x) i = x := by
  simp [vget, vput, h]

theorem vget_vput_ne {α : Type} {n : Nat} (d : α) (v : Vector α n) {i j : Nat} (x : α) (h : i ≠ j) :
    vget d (vput v i x) j = vget d v j := by
  simp [vget, vput, h]

theorem vput_vget_self {α : Type} {n : Nat} (d : α) (v : Vector α n) (i : Nat) : vput v i (vget d v i) = v := by
  ext j hj
  by_cases h : i = j <;> simp [vput, vget, h, hj]

theorem State.core_setCore_same (s : State) {c : Nat} (x : Core) (hc : c < 5) : (s.setCore c x).core c = x :=
  vget_vput_same _ _ _ hc

theorem State.tile_setTile_same (s : State) {t : Nat} (x : Tile) (ht : t < 16) : (s.setTile t x).tile t = x :=
  vget_vput_same _ _ _ ht

theorem State.tile_setTile_ne (s : State) {t i : Nat} (x : Tile) (h : t ≠ i) : (s.setTile t x).tile i = s.tile i :=
  vget_vput_ne _ _ _ h

theorem State.counter_setCounter_same (s : State) {t k : Nat} (x : Counter) (ht : t < 16) (hk : k < 16) :
    (s.setCounter t k x).counter t k = x := by
  unfold State.counter State.setCounter
  rw [State.tile_setTile_same s _ ht]
  exact vget_vput_same _ _ _ hk

theorem State.setCounter_counter_self (s : State) (t k : Nat) : s.setCounter t k (s.counter t k) = s := by
  have htile : s.setTile t (s.tile t) = s := by simp only [State.setTile, State.tile, vput_vget_self]
  simp only [State.setCounter, State.counter, vput_vget_self, htile]

theorem State.core_congr {s t : State} (h : t.cores = s.cores) (c : Nat) : t.core c = s.core c := by
  simp [State.core, h]

/-! ## Registers and CSRs of a core -/

theorem Core.reg_setReg_same (x : Core) {i : Nat} (v : Word) (h0 : i ≠ 0) (hi : i < 32) : (x.setReg i v).reg i = v := by
  simp [Core.reg, Core.setReg, h0, vget_vput_same _ _ _ hi]

@[simp] theorem Core.setReg_pc (x : Core) (i : Nat) (v : Word) : (x.setReg i v).pc = x.pc := by
  unfold Core.setReg; split <;> rfl

@[simp] theorem Core.setReg_resetDue (x : Core) (i : Nat) (v : Word) : (x.setReg i v).resetDue = x.resetDue := by
  unfold Core.setReg; split <;> rfl

/-- A CSR reads as it was last written; every other CSR is unchanged. -/
theorem Core.csr_setCsr (x : Core) (a b : Nat) (v : Word) : (x.setCsr a v).csr b = if b = a then v else x.csr b :=
  Sparse.get_put _ _ _ _ _

@[simp] theorem Core.setCsr_resetDue (x : Core) (a : Nat) (v : Word) : (x.setCsr a v).resetDue = x.resetDue := rfl

/-! ## The wrappers of a core's commands -/

theorem State.afterLoads_of_loads_nil {s : State} {c : Nat} (h : (s.core c).loads = []) (f : State → State) :
    s.afterLoads c f = f s := by
  simp [State.afterLoads, h, State.finishLoads]

/-- With nothing buffered and nothing outstanding a drain changes nothing (R279). -/
theorem State.drainAll_of_empty {s : State} {c : Nat} (hst : (s.core c).stores = []) (hnt : (s.core c).nts = [])
    (hld : (s.core c).loads = []) (hnw : s.sp.narrowWrites = []) (hheld : s.heldStores = []) :
    s.drainAll c = some s := by
  have hnts : s.drainNts c (fun _ => true) = s := by simp [State.drainNts, hnt, State.drainNtsFrom]
  have hstores : s.drainStores c (fun _ => true) = s := by simp [State.drainStores, hst, State.drainStoresFrom]
  have hdrained : s.drained c = true := by simp [State.drained, hst, hnt, hld, hnw, hheld]
  simp [State.drainAll, hnts, hstores, hdrained]

theorem State.settleReset_of_not_due {s : State} {c : Nat} (h : (s.core c).resetDue = false) : s.settleReset c = s := by
  simp [State.settleReset, h]

theorem State.resetDue_of_coreReady {s : State} {c : Nat} (h : s.coreReady c = true) : (s.core c).resetDue = false := by
  simp only [State.coreReady, Bool.and_eq_true, Bool.not_eq_true'] at h
  obtain ⟨⟨⟨⟨_, hdue⟩, _⟩, _⟩, _⟩ := h
  exact hdue

/-- A control core that executes, in M-mode, with no access of its own outstanding or held back: what the statements about
the Xcg instructions suppose of the core (R268, R273). -/
structure XcgReady (s : State) (c : Nat) : Prop where
  ready : s.coreReady c = true
  cluster : c < 4
  machine : (s.core c).user = false
  stores : (s.core c).stores = []
  nts : (s.core c).nts = []
  loads : (s.core c).loads = []
  held : s.heldStores = []
  narrow : s.sp.narrowWrites = []

section Ready
variable {s : State} {c : Nat} (h : XcgReady s c)
include h

theorem XcgReady.resetDue : (s.core c).resetDue = false := State.resetDue_of_coreReady h.ready

/-- A ready core in M-mode carries out an Xcg instruction, where that leaves no reset waiting. -/
theorem XcgReady.inOrder_xcg {f : State → State} {t : State} (hf : f s = t) (hdue : (t.core c).resetDue = false) :
    s.inOrder c (fun s => s.xcg c f) = t := by
  have hxcg : s.xcg c f = t := by simp [State.xcg, h.machine, Nat.not_le.mpr h.cluster, hf]
  have hloads : s.afterLoads c (fun s => s.xcg c f) = t := by rw [State.afterLoads_of_loads_nil h.loads, hxcg]
  simp [State.inOrder, State.onCore, h.ready, hloads, State.settleReset_of_not_due hdue]

theorem XcgReady.afterDrain (f : State → State) : s.afterDrain c f = f s := by
  simp [State.afterDrain, State.drainAll_of_empty h.stores h.nts h.loads h.narrow h.held, State.done, h.ready]

end Ready

/-! ## Retirement -/

theorem State.core_retire (s : State) {c : Nat} (hc : c < 5) (len : Nat) :
    (s.retire c len).core c =
      { s.core c with pc := (s.core c).pc + word len, minstret := (s.core c).counted, wfi := false, stepping := false } :=
  State.core_setCore_same s _ hc

theorem State.pc_retire (s : State) {c : Nat} (hc : c < 5) (len : Nat) :
    ((s.retire c len).core c).pc = (s.core c).pc + word len := by
  rw [s.core_retire hc]

theorem State.x_retire (s : State) {c : Nat} (hc : c < 5) (len : Nat) : ((s.retire c len).core c).x = (s.core c).x := by
  rw [s.core_retire hc]

theorem State.core_coreWrite (s : State) {c : Nat} (hc : c < 5) (i : Nat) (v : Word) :
    (s.coreWrite c i v).core c = (s.core c).setReg i v :=
  State.core_setCore_same s _ hc

theorem MemoryKept.coreWrite_retire {s r : State} (h : MemoryKept s r) (c rd : Nat) (w : Word) :
    MemoryKept s ((r.coreWrite c rd w).retire c 4) := h

@[simp] theorem State.coreWrite_retire_tile (r : State) (c rd : Nat) (w : Word) (t : Nat) :
    ((r.coreWrite c rd w).retire c 4).tile t = r.tile t := rfl

theorem State.reg_coreWrite_retire (r : State) {c rd : Nat} (hc : c < 5) (w : Word) (h0 : rd ≠ 0) (hrd : rd < 32) :
    (((r.coreWrite c rd w).retire c 4).core c).reg rd = w := by
  rw [State.core_retire _ hc, State.core_coreWrite r hc]
  exact Core.reg_setReg_same _ w h0 hrd

section Answer
/-! An instruction's result is written to `rd` and the instruction retires, on a state `r` with the cores as before. -/

variable {s r : State} {c rd : Nat} (hr : r.cores = s.cores) (hc : c < 5) (w : Word)
include hr hc

theorem State.pc_coreWrite_retire : (((r.coreWrite c rd w).retire c 4).core c).pc = (s.core c).pc + 4 := by
  rw [State.pc_retire _ hc, State.core_coreWrite r hc, State.core_congr hr, Core.setReg_pc]
  rfl

theorem State.resetDue_coreWrite_retire :
    (((r.coreWrite c rd w).retire c 4).core c).resetDue = (s.core c).resetDue := by
  rw [State.core_retire _ hc, State.core_coreWrite r hc, State.core_congr hr]
  exact Core.setReg_resetDue _ _ _

end Answer

/-! ## Traps (R265, R266) -/

/-- With nothing held back, the end of a reservation changes the core alone. -/
theorem State.dropReservation_of_held_nil {s : State} (c : Nat) (hc : c < 5) (h : s.heldStores = []) :
    s.dropReservation c = s.setCore c { s.core c with reserved := none, holding := false } := by
  have hperform : ∀ t : State, t.heldStores = [] → t.performHeld = t := by
    rintro ⟨⟩ ht; cases ht; rfl
  have hheld : ∀ x y : Core, ((s.setCore c x).setCore c y).heldStores = [] := fun _ _ => h
  rw [State.dropReservation, State.endHold, hperform _ (hheld _ _), State.core_setCore_same s _ hc]
  simp [State.setCore, vput]

theorem State.mcause_trap (s : State) {c : Nat} (hc : c < 5) (cause : Nat) (irq : Bool) (tval : Word) :
    ((s.trap c cause irq tval).core c).csr Csr.mcause = word (cause + 0x80000000 * bit irq) := by
  unfold State.trap
  rw [State.core_setCore_same _ _ hc]
  change (Core.setCsr _ _ _).csr Csr.mcause = _
  rw [Core.csr_setCsr, if_neg (by decide), Core.csr_setCsr, if_neg (by decide), Core.csr_setCsr, if_pos rfl]

section Trap
variable {s : State} {c : Nat} (hc : c < 5) (h : s.heldStores = []) (cause : Nat) (irq : Bool) (tval : Word)
include hc h

/-- A trap changes its core alone. -/
theorem State.trap_eq_setCore : s.trap c cause irq tval = s.setCore c ((s.trap c cause irq tval).core c) := by
  unfold State.trap
  rw [State.dropReservation_of_held_nil c hc h, State.core_setCore_same _ _ hc]
  simp [State.setCore, vput]

theorem State.resetDue_trap : ((s.trap c cause irq tval).core c).resetDue = (s.core c).resetDue := by
  unfold State.trap
  rw [State.dropReservation_of_held_nil c hc h, State.core_setCore_same _ _ hc, State.core_setCore_same _ _ hc]
  simp only [Core.setCsr_resetDue]

end Trap

/-! ## Raising a code of the control cores -/

/-- Memories, tiles, cores and held stores stand: what raising and logging a code leaves, and the bookkeeping of a task's
end. -/
def FabricKept (s t : State) : Prop :=
  MemoryKept s t ∧ t.tiles = s.tiles ∧ t.cores = s.cores ∧ t.heldStores = s.heldStores

theorem FabricKept.refl (s : State) : FabricKept s s := ⟨⟨rfl, rfl, rfl, rfl⟩, rfl, rfl, rfl⟩

theorem FabricKept.trans {s t u : State} (h : FabricKept s t) (h' : FabricKept t u) : FabricKept s u := by
  obtain ⟨⟨hmem, htags, hnvm, hspill⟩, htiles, hcores, hheld⟩ := h
  obtain ⟨⟨hmem', htags', hnvm', hspill'⟩, htiles', hcores', hheld'⟩ := h'
  exact ⟨⟨hmem'.trans hmem, htags'.trans htags, hnvm'.trans hnvm, hspill'.trans hspill⟩, htiles'.trans htiles,
    hcores'.trans hcores, hheld'.trans hheld⟩

theorem FabricKept.ite {s t u : State} {p : Prop} [Decidable p] (ht : FabricKept s t) (hu : FabricKept s u) :
    FabricKept s (if p then t else u) :=
  iteInduction (motive := FabricKept s) (fun _ => ht) (fun _ => hu)

theorem FabricKept.setReg {s t : State} (h : FabricKept s t) (a : Nat) (v : Word) : FabricKept s (t.setReg a v) := h

theorem FabricKept.pend {s t : State} (h : FabricKept s t) (k : Nat) : FabricKept s (t.pend k) := h

theorem FabricKept.setFld {s t : State} (h : FabricKept s t) (f : RegField) (v : Nat) : FabricKept s (t.setFld f v) := h

theorem FabricKept.setFlag {s t : State} (h : FabricKept s t) (f : RegField) (v : Bool) : FabricKept s (t.setFlag f v) := h

theorem FabricKept.incSat {s t : State} (h : FabricKept s t) (f : RegField) (n : Nat) : FabricKept s (t.incSat f n) := by
  unfold State.incSat
  exact .ite h (h.setFld _ _)

theorem FabricKept.setPart {s t : State} (h : FabricKept s t) (p : Nat) (x : PartState) : FabricKept s (t.setPart p x) := h

theorem State.queueSnag_frame (s : State) (e : SnagEntry) : FabricKept s (s.queueSnag e) := by
  unfold State.queueSnag
  refine FabricKept.ite ?queued ?lost
  case queued =>
    refine .setFld ?_ _ _
    exact .refl s
  case lost =>
    refine .setFld (.setFlag (.incSat ?_ _ _) _ _) _ _
    exact .refl s

theorem State.logLimited_frame (s : State) (key ns src code : Nat) (arg : Word) :
    FabricKept s (s.logLimited key ns src code arg) := by
  unfold State.logLimited
  dsimp only
  refine FabricKept.ite ?due ?held
  case due => exact State.queueSnag_frame { s with logSlots := _ } _
  case held => exact FabricKept.refl s

theorem State.raiseBits_frame (s : State) (status codeReg code : Nat) :
    FabricKept s (s.raiseBits status codeReg code) :=
  .setFld (.setReg (.refl s) _ _) _ _

theorem State.raiseCc_frame (s : State) (code n addr : Nat) : FabricKept s (s.raiseCc code n addr) :=
  (FabricKept.setFld (s.raiseBits_frame _ _ _) _ _).trans (State.logLimited_frame _ _ _ _ _ _)

/-- A precise access fault with a code of Table 9.8: the trap of its cause, on a state where the code is raised and stands in
the core's fault registers (R266). -/
theorem State.accessFault_of_cc (s : State) {c cause code : Nat} (a : Nat) (hc : c < 4) (hheld : s.heldStores = [])
    (hcode : 0x0501 ≤ code ∧ code ≤ 0x0504) :
    let t := s.accessFault c cause code a
    MemoryKept s t ∧ t.tiles = s.tiles ∧ t.reg (Reg.CC_FAULT_CODE c) = word code ∧
      (t.core c).csr Csr.mcause = word cause ∧ (t.core c).resetDue = (s.core c).resetDue := by
  obtain ⟨hmem, htiles, hcores, hstores⟩ := s.raiseCc_frame code c a
  have hc5 : c < 5 := by omega
  have hfault : s.accessFault c cause code a =
      (((s.raiseCc code c a).setReg (Reg.CC_FAULT_CODE c) (word code)).setReg (Reg.CC_FAULT_ADDR c) (word a)).trap
        c cause false (word a) := by
    simp [State.accessFault, State.raiseAt, State.setFault, hcode, hc]
  generalize s.raiseCc code c a = r at hmem htiles hcores hstores hfault
  have hr : ((r.setReg (Reg.CC_FAULT_CODE c) (word code)).setReg (Reg.CC_FAULT_ADDR c) (word a)).heldStores = [] :=
    hstores.trans hheld
  intro t
  refine ⟨?memory, ?tiles, ?code, ?cause, ?due⟩
  case cause =>
    change ((s.accessFault c cause code a).core c).csr Csr.mcause = _
    rw [hfault, State.mcause_trap _ hc5]
    simp [bit]
  case due =>
    change ((s.accessFault c cause code a).core c).resetDue = _
    rw [hfault, State.resetDue_trap hc5 hr]
    exact congrArg Core.resetDue (State.core_congr hcores c)
  all_goals
    rw [State.trap_eq_setCore hc5 hr] at hfault
    simp only [t, hfault]
  case memory => exact hmem
  case tiles => exact htiles
  case code =>
    rw [State.setCore_reg, State.reg_setReg_ne _ _ (by simp [Reg.CC_FAULT_CODE, Reg.CC_FAULT_ADDR]), State.reg_setReg_same]

/-! ## The end of a task (R178) -/

/-- A scrub's start changes the spill request table alone (R224, R234). -/
theorem State.scrubStart_frame (s : State) (t : Nat) : FabricKept s (s.scrubStart t) := by
  unfold State.scrubStart
  exact .ite (.refl s) (.refl s)

/-- The end of a task changes its tile, which scrubs, and beside it nothing of the memories, tiles and cores. -/
theorem State.endTask_frame {s : State} {t : Nat} (hb : (s.tile t).busy = true) :
    FabricKept (s.setTile t { s.tile t with run := .scrubbing, statusHeld := (s.tile t).tag, bundle := none })
      (s.endTask t) := by
  unfold State.endTask
  simp only [hb, if_true]
  generalize s.setTile t { s.tile t with run := .scrubbing, statusHeld := (s.tile t).tag, bundle := none } = u
  generalize hscrub : State.scrubStart _ t = r
  have hr : FabricKept u r := hscrub ▸ (FabricKept.refl u).trans (State.scrubStart_frame _ t)
  split
  case h_1 => exact .ite (.pend (.ite hr (hr.setReg _ _)) 4) (.ite hr (hr.setReg _ _))
  case h_2 => exact .setPart (.ite (.pend (.ite hr (hr.setReg _ _)) 4) (.ite hr (hr.setReg _ _))) _ _

theorem State.run_endTask {s : State} {t : Nat} (ht : t < 16) (hb : (s.tile t).busy = true) :
    ((s.endTask t).tile t).run = .scrubbing := by
  obtain ⟨_, htiles, _⟩ := State.endTask_frame hb
  rw [State.tile, htiles]
  exact congrArg Tile.run (State.tile_setTile_same s _ ht)

theorem State.memoryKept_endTask {s : State} {t : Nat} (hb : (s.tile t).busy = true) : MemoryKept s (s.endTask t) := by
  obtain ⟨hmem, _⟩ := State.endTask_frame hb
  exact hmem

theorem State.endTask_cores {s : State} {t : Nat} (hb : (s.tile t).busy = true) : (s.endTask t).cores = s.cores := by
  obtain ⟨_, _, hcores, _⟩ := State.endTask_frame hb
  exact hcores

/-! ## Counters (R174, R188, R197) -/

theorem State.incCounter_of_le {s : State} {t k n : Nat} (tag : Bool) (hsat : (s.counter t k).saturated = false)
    (hle : (s.counter t k).value + n ≤ 0xFFFF) :
    s.incCounter t k n tag =
      s.setCounter t k { s.counter t k with value := (s.counter t k).value + n, tag := (s.counter t k).tag || tag } := by
  simp [State.incCounter, hsat, hle]

/-- The fields of TF_CNT_VAL (Table 6.22). -/
theorem State.bits_cntWord (s : State) (t k : Nat) :
    let w := s.cntWord t k
    let x := s.counter t k
    bits w 31 18 = 0 ∧ bits w 17 17 = (if x.tag then 0 else 1) ∧ bits w 16 16 = (if x.tag then 1 else 0) ∧
      bits w 15 0 = if x.tag then 0 else x.value % 65536 := by
  intro w x
  cases htag : x.tag with
  | true =>
    have hw : w = word 65536 := if_pos htag
    rw [hw]
    exact ⟨by decide, by decide, by decide, rfl⟩
  | false =>
    have hw : w = word (x.value % 65536 + 131072) := if_neg (ne_true_of_eq_false htag)
    have hn : w.toNat = x.value % 65536 + 131072 := by rw [hw, word, BitVec.toNat_ofNat]; omega
    simp only [bits, hn, Bool.false_eq_true, if_false]
    omega

end Sys2Proof.Machine
end

section
/-! PROOFS. R269 to R274: the Xcg instructions. Each is carried out at once on a ready core (`XcgReady`): one lemma says which
state it leaves, and the statement reads off that state. -/

namespace Sys2Proof.Machine

/-! ## Reading a descriptor from cluster SRAM (R269) -/

theorem regionOf_sram {a : Nat} (hlo : 0x60000000 ≤ a) (hhi : a < 0x60100000) : regionOf a = some 6 := by
  unfold regionOf
  repeat rw [if_neg (by omega)]
  exact if_pos ⟨hlo, hhi⟩

/-- A descriptor at `v` that CG.DISP reads without a fault: aligned, in cluster SRAM without an error, and allowed by the
protection. -/
structure DescReadable (s : State) (c v : Nat) : Prop where
  aligned : v % 16 = 0
  lower : 0x60000000 ≤ v
  upper : v + 48 ≤ 0x60100000
  noError : s.sramEcc = []
  allowed : s.pmpOk c 0 v 48 = true

section Desc
variable {s : State} {c v : Nat} (h : DescReadable s c v)
include h

theorem DescReadable.region : regionOf v = some 6 := regionOf_sram h.lower (by have := h.upper; omega)

theorem DescReadable.region_last : regionOf (v + 47) = some 6 :=
  regionOf_sram (by have := h.lower; omega) (by have := h.upper; omega)

theorem DescReadable.busCode (hc : c < 4) : s.busCode (coreReq c) .read .clean v 48 = none := by
  have hregion : s.regionCode (.core c) .read v 48 = none := by
    simp [State.regionCode, h.region, h.region_last, reaches]
  have hsram : s.sramUe false v 48 = false := by simp [State.sramUe, h.noError, Sparse.get]
  have hread : (AccKind.read == .write) = false := by decide
  simp [State.busCode, State.accessCode, coreReq, hc, hregion, inScratch, h.region, hread, hsram]

theorem DescReadable.busBytes : s.busBytes v 48 = s.bytes v 48 := by
  simp [State.busBytes, State.loadBytes, h.region]

theorem DescReadable.countCorrected : s.countCorrected v 48 = s := by
  simp [State.countCorrected, inScratch, inSram, h.region, h.noError, State.incSat]

end Desc

/-! ## Offering a descriptor to a tile (Table 9.6) -/

theorem State.offer_of_closed {s : State} {t : Nat} (d : List Byte) (h : s.tileOpen t = false) : s.offer t d = (s, 2) := by
  simp [State.offer, h]

theorem State.offer_of_running {s : State} {t : Nat} (d : List Byte) (h : s.tileOpen t = true)
    (hrun : (s.tile t).run = .running) : s.offer t d = (s, 1) := by
  simp [State.offer, h, State.dispatchBusy, State.startable, hrun]

/-- An idle tile that is open to the cores takes a sound descriptor: its task starts (R176, R177). -/
theorem State.offer_of_idle {s : State} {t : Nat} {d : List Byte} (h : s.tileOpen t = true) (hrun : (s.tile t).run = .idle)
    (hhalt : (s.tile t).haltAfter = false) (hheld : (s.tile t).statusHeld = false)
    (hok : descOk d (s.latchRel (le d 2 1) (le d 0x0C 1)) = true) :
    s.offer t d = (s.setTile t ((s.tile t).started d (s.latchRel (le d 2 1) (le d 0x0C 1)) true), 0) := by
  simp [State.offer, h, State.dispatchBusy, State.startable, hrun, hhalt, hheld, State.startTask, hok]

/-! ## The state each instruction leaves -/

section Exec
variable {s : State} {c : Fin 5} (h : XcgReady s c)
include h

/-- An instruction that leaves every core alone writes its result and retires. -/
theorem XcgReady.answer {f : State → State} {r : State} {rd : Nat} {w : Word} (hr : r.cores = s.cores)
    (hf : f s = (r.coreWrite c rd w).retire c 4) :
    s.inOrder c (fun s => s.xcg c f) = (r.coreWrite c rd w).retire c 4 :=
  h.inOrder_xcg hf ((State.resetDue_coreWrite_retire hr c.isLt w).trans h.resetDue)

theorem exec_cgDisp {rd rs1 rs2 : Fin 32} {r : State} {n : Nat}
    (hd : DescReadable s c ((s.core c).reg rs1).toNat)
    (hoffer : s.offer (((s.core c).reg rs2).toNat % 16) (s.bytes ((s.core c).reg rs1).toNat 48) = (r, n))
    (hr : r.cores = s.cores) :
    exec (.cgDisp c rd rs1 rs2) s = .next ((r.coreWrite c rd (word n)).retire c 4) := by
  refine congrArg Host.Outcome.next (h.answer hr ?_)
  rw [h.afterDrain]
  simp [hd.aligned, inSram, hd.region, hd.region_last, hd.allowed, hd.busCode h.cluster, hd.busBytes, hd.countCorrected,
    hoffer]

/-- CG.END of a running task on a tile that is open to the cores (R270). -/
theorem exec_cgEnd_of_running {rd rs1 : Fin 32} (hopen : s.tileOpen (((s.core c).reg rs1).toNat % 16) = true)
    (hb : (s.tile (((s.core c).reg rs1).toNat % 16)).busy = true) :
    exec (.cgEnd c rd rs1) s =
      .next (((s.endTask (((s.core c).reg rs1).toNat % 16)).coreWrite c rd 0).retire c 4) := by
  refine congrArg Host.Outcome.next (h.answer (State.endTask_cores hb) ?_)
  rw [h.afterDrain]
  simp [hopen, hb, word]

/-- CG.SIG that neither saturates the counter nor finds it saturated: the value goes up, the tag stands (R271). -/
theorem exec_cgSig_of_le {rs1 rs2 : Fin 32} :
    let v := ((s.core c).reg rs1).toNat
    let n := ((s.core c).reg rs2).toNat % 256
    let k := s.counter (v % 16) (v / 16 % 16)
    s.tileOpen (v % 16) = true → k.saturated = false → k.value + n ≤ 0xFFFF →
    exec (.cgSig c rs1 rs2) s =
      .next ((s.setCounter (v % 16) (v / 16 % 16) { k with value := k.value + n }).retire c 4) := by
  intro v n k hopen hsat hle
  have hinc : (if n = 0 then s else s.incCounter (v % 16) (v / 16 % 16) n false) =
      s.setCounter (v % 16) (v / 16 % 16) { k with value := k.value + n } := by
    split
    case isTrue hn => rw [hn]; exact (s.setCounter_counter_self _ _).symm
    case isFalse => rw [State.incCounter_of_le false hsat hle, Bool.or_false]
  refine congrArg Host.Outcome.next (h.inOrder_xcg ?state ?due)
  case state =>
    rw [h.afterDrain]
    simp [v, n, hopen, hinc]
  case due =>
    rw [State.core_retire _ c.isLt]
    exact h.resetDue

/-- CG.SIG at a tile outside CC_DISP_MASK: the access fault of CC_DISP at an address left open (R271). -/
theorem exec_cgSig_of_closed {rs1 rs2 : Fin 32} (hclosed : s.tileOpen (((s.core c).reg rs1).toNat % 16) = false) :
    exec (.cgSig c rs1 rs2) s = .next (s.accessFault c 7 0x0503 (s.free 32).toNat).nextFree := by
  obtain ⟨_, _, _, _, hdue⟩ :=
    s.accessFault_of_cc (cause := 7) (code := 0x0503) (s.free 32).toNat h.cluster h.held (by decide)
  refine congrArg Host.Outcome.next (h.inOrder_xcg ?state ?due)
  case state =>
    rw [h.afterDrain]
    simp [hclosed]
  case due => exact hdue.trans h.resetDue

/-- CG.CNTRD (R272). -/
theorem exec_cgCntrd {rd rs1 : Fin 32} :
    let v := ((s.core c).reg rs1).toNat
    exec (.cgCntrd c rd rs1) s = .next ((s.coreWrite c rd (s.cntWord (v % 16) (v / 16 % 16))).retire c 4) :=
  congrArg Host.Outcome.next (h.answer rfl rfl)

end Exec

/-- Settles O37: each instruction leaves the state its lemma above says, and the statement's facts are read off that state. -/
theorem xcgInstructions : Obligations.XcgInstructions := by
  intro s c rd rs1 rs2 x y v n k ready mask d td desc
  have run : ready → XcgReady s c ∧ rd.val ≠ 0 :=
    fun ⟨hready, hcluster, hmachine, hstores, hnts, hloads, hrd, hheld, hnarrow⟩ =>
      ⟨⟨hready, hcluster, hmachine, hstores, hnts, hloads, hheld, hnarrow⟩, Fin.val_ne_zero_iff.mpr hrd⟩
  have readable : desc → DescReadable s c v := fun ⟨haligned, hlower, hupper, hecc, hpmp⟩ =>
    ⟨haligned, hlower, hupper, hecc, hpmp⟩
  have ht : v % 16 < 16 := Nat.mod_lt _ (by decide)
  refine ⟨?closed, ?busy, ?starts, ?ends, ?adds, ?faults, ?reads⟩
  case closed =>
    intro hrun hdesc hmask
    obtain ⟨h, hrd⟩ := run hrun
    exact ⟨_, exec_cgDisp h (readable hdesc) (State.offer_of_closed d hmask) rfl, ⟨rfl, rfl, rfl, rfl⟩, rfl,
      State.reg_coreWrite_retire _ c.isLt _ hrd rd.isLt, State.pc_coreWrite_retire rfl c.isLt _⟩
  case busy =>
    intro hrun hdesc hmask hrunning
    obtain ⟨h, hrd⟩ := run hrun
    exact ⟨_, exec_cgDisp h (readable hdesc) (State.offer_of_running d hmask hrunning) rfl, ⟨rfl, rfl, rfl, rfl⟩, rfl,
      State.reg_coreWrite_retire _ c.isLt _ hrd rd.isLt, State.pc_coreWrite_retire rfl c.isLt _⟩
  case starts =>
    intro hrun hdesc hmask hidle hhalt hheld hok
    obtain ⟨h, hrd⟩ := run hrun
    have htile := State.tile_setTile_same s
      ((s.tile td).started d (s.latchRel (le d 2 1) (le d 0x0C 1)) true) (Nat.mod_lt _ (by decide) : td < 16)
    exact ⟨_, exec_cgDisp h (readable hdesc) (State.offer_of_idle hmask hidle hhalt hheld hok) rfl, ⟨rfl, rfl, rfl, rfl⟩,
      rfl, State.reg_coreWrite_retire _ c.isLt _ hrd rd.isLt, congrArg Tile.run htile, congrArg Tile.tag htile,
      congrArg Tile.pc htile, fun i hi => State.tile_setTile_ne s _ hi.symm⟩
  case ends =>
    intro hrun hmask hrunning
    obtain ⟨h, hrd⟩ := run hrun
    have hb : (s.tile (v % 16)).busy = true := by simp [Tile.busy, hrunning]
    exact ⟨_, exec_cgEnd_of_running h hmask hb, (State.memoryKept_endTask hb).coreWrite_retire _ _ _,
      State.reg_coreWrite_retire _ c.isLt _ hrd rd.isLt, by rw [State.coreWrite_retire_tile]; exact State.run_endTask ht hb,
      State.pc_coreWrite_retire (State.endTask_cores hb) c.isLt _⟩
  case adds =>
    intro hrun hmask hsat hle
    obtain ⟨h, _⟩ := run hrun
    exact ⟨_, exec_cgSig_of_le h hmask hsat hle, ⟨rfl, rfl, rfl, rfl⟩, rfl,
      State.counter_setCounter_same s _ ht (Nat.mod_lt _ (by decide)), State.pc_retire _ c.isLt 4, State.x_retire _ c.isLt 4⟩
  case faults =>
    intro hrun hmask
    obtain ⟨h, _⟩ := run hrun
    obtain ⟨hmem, htiles, hcode, hcause, _⟩ :=
      s.accessFault_of_cc (cause := 7) (code := 0x0503) (s.free 32).toNat h.cluster h.held (by decide)
    exact ⟨_, exec_cgSig_of_closed h hmask, hmem, htiles, hcause, hcode⟩
  case reads =>
    intro hrun
    obtain ⟨h, hrd⟩ := run hrun
    have hword := State.bits_cntWord s (v % 16) (v / 16 % 16)
    rw [← State.reg_coreWrite_retire s c.isLt (s.cntWord (v % 16) (v / 16 % 16)) hrd rd.isLt] at hword
    exact ⟨_, exec_cgCntrd h, ⟨rfl, rfl, rfl, rfl⟩, rfl, rfl, State.pc_coreWrite_retire rfl c.isLt _, hword⟩

end Sys2Proof.Machine
end

section
/-! PROOFS. R62, R421 to R424: the host SPI port. Each transaction leaves one state where the port answers (`State.spiOn`) and
the state as it was where it does not; what that state keeps is read off the writes it is made of. -/

namespace Sys2Proof.Machine

/-! ## What registers that are kept say of fields, flags and raised codes -/

section Kept
variable {l : List Nat} {s t : State} (h : RegsKept l s t)
include h

theorem RegsKept.setReg {a : Nat} (v : Word) (ha : a ∈ l) : RegsKept l s (t.setReg a v) := by
  intro b hb
  rw [State.reg_setReg_ne t v (ne_of_mem_of_not_mem ha hb).symm, h b hb]

theorem RegsKept.fld {f : RegField} (hf : f.addr ∉ l) : t.fld f = s.fld f := by rw [State.fld, h _ hf, State.fld]

theorem RegsKept.flag {f : RegField} (hf : f.addr ∉ l) : t.flag f = s.flag f := by rw [State.flag, h _ hf, State.flag]

theorem RegsKept.raised {status codeReg code : Nat} (hs : status ∉ l) (hc : codeReg ∉ l) (hr : Raised status codeReg code s) :
    Raised status codeReg code t := by
  rwa [Raised, h _ hs, h _ hc]

end Kept

/-! ## Writes of the port and of registers -/

/-- The state with the port set. -/
def State.setSpi (s : State) (x : SpiState) : State := { s with spi := x }

@[simp] theorem State.setSpi_spi (s : State) (x : SpiState) : (s.setSpi x).spi = x := rfl
@[simp] theorem State.setSpi_reg (s : State) (x : SpiState) (a : Nat) : (s.setSpi x).reg a = s.reg a := rfl
@[simp] theorem State.setSpi_flag (s : State) (x : SpiState) (f : RegField) : (s.setSpi x).flag f = s.flag f := rfl
@[simp] theorem State.setSpi_fld (s : State) (x : SpiState) (f : RegField) : (s.setSpi x).fld f = s.fld f := rfl

theorem Raised.setSpi {status codeReg code : Nat} {s : State} (h : Raised status codeReg code s) (x : SpiState) :
    Raised status codeReg code (s.setSpi x) := h

/-- The state with the power controller set. -/
def State.setPw (s : State) (x : PwState) : State := { s with pw := x }

/-- Nothing but the port and registers of the list has changed. -/
def PortOnly (l : List Nat) (s t : State) : Prop := t = { s with regs := t.regs, spi := t.spi } ∧ RegsKept l s t

theorem PortOnly.refl (l : List Nat) (s : State) : PortOnly l s s := ⟨rfl, fun _ _ => rfl⟩

section Writes
variable {l : List Nat} {s t : State} (h : PortOnly l s t)
include h

theorem PortOnly.regsKept : RegsKept l s t := h.2

theorem PortOnly.mono {m : List Nat} (hm : l ⊆ m) : PortOnly m s t := ⟨h.1, fun a ha => h.2 a fun hl => ha (hm hl)⟩

theorem PortOnly.trans {u : State} (h' : PortOnly l t u) : PortOnly l s u :=
  ⟨h'.1.trans (congrArg (fun w : State => { w with regs := u.regs, spi := u.spi }) h.1),
    fun a ha => (h'.2 a ha).trans (h.2 a ha)⟩

theorem PortOnly.onlyRegs (hspi : t.spi = s.spi) : OnlyRegs l s t := by
  obtain ⟨hframe, hregs⟩ := h
  rw [hspi] at hframe
  exact ⟨hframe, hregs⟩

theorem PortOnly.setSpi (x : SpiState) : PortOnly l s (t.setSpi x) :=
  ⟨congrArg (State.setSpi · x) h.1, h.2⟩

theorem PortOnly.setReg {a : Nat} (v : Word) (ha : a ∈ l) : PortOnly l s (t.setReg a v) :=
  ⟨congrArg (fun u : State => { u with regs := (t.setReg a v).regs }) h.1, h.2.setReg v ha⟩

theorem PortOnly.setFld {f : RegField} (v : Nat) (hf : f.addr ∈ l) : PortOnly l s (t.setFld f v) := h.setReg _ hf

theorem PortOnly.setFlag {f : RegField} (b : Bool) (hf : f.addr ∈ l) : PortOnly l s (t.setFlag f b) := h.setFld _ hf

theorem PortOnly.incSat {f : RegField} (n : Nat) (hf : f.addr ∈ l) : PortOnly l s (t.incSat f n) := by
  unfold State.incSat
  exact iteInduction (motive := PortOnly l s) (fun _ => h) (fun _ => h.setFld _ hf)

end Writes

/-! ## Raising a code -/

theorem tstBit_setBits_one (w : Word) {k : Nat} (hk : k < 32) : tstBit (setBits w k k 1) k = true :=
  tstBit_setBits_same w k true hk

/-- The status bit and the last code of a code 0xBBcc with cc from 1 to 32. -/
theorem State.raised_raiseBits (s : State) {status codeReg code : Nat} (hne : status ≠ codeReg)
    (hbit : code % 256 - 1 < 32) (hcode : code < 65536) : Raised status codeReg code (s.raiseBits status codeReg code) := by
  constructor
  · rw [State.raiseBits, State.reg_setFld_ne _ _ _ _ hne, State.reg_setReg_same]
    exact tstBit_setBits_one _ hbit
  · rw [State.raiseBits, State.setFld, State.reg_setReg_same, bits_setBits_same _ 15 0 _ (by decide) (by decide)]
    exact Nat.mod_eq_of_lt hcode

/-- The registers of HP codes, and the event words and the interrupt source that a raised one sets (R434). -/
def hpCodeRegs : List Nat := [Reg.HP_ERR_STATUS, Reg.HP_ERR_CODE]
def hpEventRegs : List Nat := [Reg.LK_EVENT, Reg.HP_IRQ_STATUS, Reg.CC_IRQ_PEND]

/-- The registers that a transaction writes where it raises an HP code. -/
def hpRaiseRegs : List Nat := Reg.HP_STATUS :: (hpCodeRegs ++ hpEventRegs)

/-- The events and the interrupt source follow the code (R434). -/
theorem State.raiseHp_portOnly_events (s : State) (code : Nat) :
    PortOnly hpEventRegs (s.raiseBits Reg.HP_ERR_STATUS Reg.HP_ERR_CODE code) (s.raiseHp code) :=
  (((PortOnly.refl _ _).setReg _ (by decide)).setReg _ (by decide)).setReg _ (by decide)

theorem PortOnly.raiseHp {l : List Nat} {s t : State} (h : PortOnly l s t) (code : Nat) (hl : hpCodeRegs ++ hpEventRegs ⊆ l) :
    PortOnly l s (t.raiseHp code) := by
  have mem : ∀ a ∈ hpCodeRegs ++ hpEventRegs, a ∈ l := fun _ ha => hl ha
  exact ((((h.setReg _ (mem _ (by decide))).setFld _ (mem Reg.HP_ERR_CODE (by decide))).setReg _ (mem _ (by decide))).setReg _
    (mem _ (by decide))).setReg _ (mem _ (by decide))

theorem State.raiseHp_portOnly (s : State) (code : Nat) : PortOnly (hpCodeRegs ++ hpEventRegs) s (s.raiseHp code) :=
  (PortOnly.refl _ s).raiseHp code (List.Subset.refl _)

@[simp] theorem State.raiseHp_spi (s : State) (code : Nat) : (s.raiseHp code).spi = s.spi := by
  rw [State.raiseHp, State.pend_spi, State.errorEvents, State.bothEvents, State.hostEvent, State.setReg_spi, State.lathEvent,
    State.setReg_spi, State.raiseBits_spi]

theorem State.raised_raiseHp (s : State) {code : Nat} (hbit : code % 256 - 1 < 32) (hcode : code < 65536) :
    Raised Reg.HP_ERR_STATUS Reg.HP_ERR_CODE code (s.raiseHp code) :=
  (s.raiseHp_portOnly_events code).regsKept.raised (by decide) (by decide) (s.raised_raiseBits (by decide) hbit hcode)

/-- ERROR on both host paths, and CC_IRQ_PEND.HP (Tables 13.7 and 9.10). -/
theorem State.events_raiseHp (s : State) (code : Nat) :
    tstBit ((s.raiseHp code).reg Reg.LK_EVENT) 4 = true ∧ tstBit ((s.raiseHp code).reg Reg.HP_IRQ_STATUS) 4 = true ∧
      tstBit ((s.raiseHp code).reg Reg.CC_IRQ_PEND) 12 = true := by
  refine ⟨?lath, ?host, ?pend⟩
  case lath =>
    rw [State.raiseHp, State.pend, State.reg_setReg_ne _ _ (by decide), State.errorEvents, State.bothEvents, State.hostEvent,
      State.reg_setReg_ne _ _ (by decide), State.lathEvent, State.reg_setReg_same]
    exact tstBit_setBits_one _ (by decide)
  case host =>
    rw [State.raiseHp, State.pend, State.reg_setReg_ne _ _ (by decide), State.errorEvents, State.bothEvents, State.hostEvent,
      State.reg_setReg_same]
    exact tstBit_setBits_one _ (by decide)
  case pend =>
    rw [State.raiseHp, State.pend, State.reg_setReg_same]
    exact tstBit_setBits_one _ (by decide)

/-! ## IRQ_N (R62, R424, Table 2.10) -/

section IrqN
variable {s : State}

theorem State.ball_irqN_of_running (hvdd : s.pins.vddAon = true) (hstep : s.boot.step ≠ 0) :
    s.ball .irqN = if s.hostWord &&& s.reg Reg.HP_IRQ_EN = 0 then .released else .low := by
  by_cases hword : s.hostWord &&& s.reg Reg.HP_IRQ_EN = 0 <;>
    simp [State.ball, State.ballRunning, State.irqLow, State.outOfReset, hvdd, hstep, hword]

theorem State.ball_irqN_of_reset (hvdd : s.pins.vddAon = true) (hstep : s.boot.step = 0) : s.ball .irqN = .released := by
  simp [State.ball, Ball.inReset, hvdd, hstep]

theorem State.ball_irqN_of_unpowered (hvdd : s.pins.vddAon = false) : s.ball .irqN = .highZ := by
  simp [State.ball, Ball.unpowered, hvdd]

end IrqN

/-! ## Byte strings: what the port drives -/

theorem le_append_right (x y : List Byte) (o n : Nat) : le (x ++ y) (x.length + o) n = le y o n := by
  rw [le, List.drop_length_add_append, le]

theorem le_toLe_append (n v : Nat) (y : List Byte) : le (toLe n v ++ y) 0 n = v % 256 ^ n := by
  have htake : ((toLe n v ++ y).drop 0).take n = toLe n v := List.take_left' (toLe_length n v)
  rw [le, htake]
  clear htake
  induction n generalizing v with
  | zero => simp [toLe, Nat.mod_one]
  | succ n ih =>
    have hsplit : v % 256 ^ (n + 1) = v % 256 + 256 * (v / 256 % 256 ^ n) := by rw [Nat.pow_succ', Nat.mod_mul]
    rw [toLe, List.foldr_cons, ih, BitVec.toNat_ofNat, hsplit]

/-- A word driven over and over reads as that word at each of its places. -/
theorem le_flatten_replicate_toLe (m v : Nat) {n k : Nat} (hk : k < n) :
    le (List.replicate n (toLe m v)).flatten (m * k) m = v % 256 ^ m := by
  induction k generalizing n with
  | zero =>
    obtain ⟨n, rfl⟩ : ∃ i, n = i + 1 := ⟨n - 1, by omega⟩
    rw [List.replicate_succ, List.flatten_cons, Nat.mul_zero, le_toLe_append]
  | succ k ih =>
    obtain ⟨n, rfl⟩ : ∃ i, n = i + 1 := ⟨n - 1, by omega⟩
    have hoff : m * (k + 1) = (toLe m v).length + m * k := by rw [toLe_length, Nat.mul_succ, Nat.add_comm]
    rw [List.replicate_succ, List.flatten_cons, hoff, le_append_right, ih (by omega)]

theorem getD_take_append_replicate (x : List Byte) {n k : Nat} (hk : k < n) :
    (x.take n ++ List.replicate (n - x.length) 0).getD k 0 = x.getD k 0 := by
  simp only [List.getD_eq_getElem?_getD]
  by_cases hx : k < x.length
  · rw [List.getElem?_append_left (by rw [List.length_take]; omega), List.getElem?_take_of_lt hk]
  · have hlen : (x.take n).length = x.length := by rw [List.length_take]; omega
    rw [List.getElem?_append_right (by omega), List.getElem?_eq_none (Nat.le_of_not_lt hx), hlen,
      List.getElem?_replicate_of_lt (by omega)]
    rfl

/-! ## A known opcode (R422) -/

theorem State.spiOn_iff (s : State) :
    s.spiOn = true ↔ s.pins.vddAon = true ∧ s.pins.resetN = true ∧ s.pins.vddioGood = true := by
  simp [State.spiOn, and_assoc]

theorem State.goodCmd_portOnly (s : State) : PortOnly [Reg.HP_STATUS] s s.goodCmd := (PortOnly.refl _ s).setFlag _ (by decide)

@[simp] theorem State.goodCmd_spi (s : State) : s.goodCmd.spi = s.spi := s.setFlag_spi _ _

theorem State.cmdErr_goodCmd (s : State) : s.goodCmd.flag Fld.HP_STATUS_CMD_ERR = false :=
  State.flag_setFlag_same s _ _ rfl (by decide)

/-! ## STATUS, RESPONSE and IRQ_CLEAR -/

section On
variable {s : State} (hon : s.spiOn = true)
include hon

theorem State.spiStatus_of_on (n : Nat) : s.spiStatus n =
    s.goodCmd.setSpi { s.spi with driven := (List.replicate n (toLe 4 s.hpStatus.toNat)).flatten } := by
  rw [State.spiStatus, hon]
  rfl

theorem State.spiResponse_of_on (n : Nat) : s.spiResponse n = s.goodCmd.setSpi { s.spi with
    driven := s.spi.response.take n ++ List.replicate (n - s.spi.response.length) 0 } := by
  rw [State.spiResponse, hon]
  rfl

theorem State.irqClear_of_on (v : Word) :
    s.irqClear v = s.goodCmd.setReg Reg.HP_IRQ_STATUS (s.reg Reg.HP_IRQ_STATUS &&& ~~~v) := by
  simp [State.irqClear, hon]

end On

/-! ## REQUEST (R423) -/

/-- The length of a REQUEST is that of its header and of the payload its LEN names, and no more than the buffer's. -/
def WholeRequest (b : List Byte) : Prop := b.length = 4 + le b 2 2 ∧ 4 ≤ b.length ∧ b.length ≤ 260

/-- A REQUEST that is not taken: REQ_ERR is set and the code raised. -/
def State.requestRefused (s : State) (code : Nat) : State := (s.goodCmd.setFlag Fld.HP_STATUS_REQ_ERR true).raiseHp code

/-- A REQUEST that is taken waits for the engine, without a response yet. -/
def State.requestTaken (s : State) (r : HostReq) : State :=
  ((s.goodCmd.setFlag Fld.HP_STATUS_REQ_ERR false).setFlag Fld.HP_STATUS_DONE false).setSpi
    { s.spi with req := some r, response := [] }

section On
variable {s : State} (hon : s.spiOn = true)
include hon

theorem State.spiRequest_of_busy {b : List Byte} (hreq : s.spi.req.isSome = true) :
    s.spiRequest b = s.requestRefused 0x0A03 := by
  simp [State.spiRequest, State.requestRefused, hon, hreq]

theorem State.spiRequest_of_not_whole {b : List Byte} (hreq : s.spi.req = none) (hb : ¬ WholeRequest b) :
    s.spiRequest b = s.requestRefused 0x0A02 := by
  have hform : b.length < 4 ∨ b.length ≠ 4 + le b 2 2 ∨ 260 < b.length := by unfold WholeRequest at hb; omega
  simp [State.spiRequest, State.requestRefused, hon, hreq, hform]

/-- A whole request is taken; one of an unknown TYPE is answered at once (R415). -/
theorem State.spiRequest_of_whole {b : List Byte} (hreq : s.spi.req = none) (hb : WholeRequest b) :
    let r : HostReq := { type := le b 0 1, payload := b.drop 4 }
    s.spiRequest b = if hostType r.type then s.requestTaken r else (s.requestTaken r).hostFail .spi r 0x0A02 := by
  have hform : ¬ (b.length < 4 ∨ b.length ≠ 4 + le b 2 2 ∨ 260 < b.length) := by unfold WholeRequest at hb; omega
  simp only [State.spiRequest, hon, State.goodCmd_spi, hreq, hform, Bool.not_true, Option.isSome_none, Bool.false_eq_true,
    if_false, State.setFlag_spi, State.requestTaken, State.setSpi]

end On

/-- What a REQUEST that is not taken leaves. -/
theorem State.requestRefused_spec (s : State) {code : Nat} (hbit : code % 256 - 1 < 32) (hcode : code < 65536) :
    let t := s.requestRefused code
    PortOnly hpRaiseRegs s t ∧ t.spi = s.spi ∧ t.flag Fld.HP_STATUS_REQ_ERR = true ∧
      Raised Reg.HP_ERR_STATUS Reg.HP_ERR_CODE code t := by
  have marked := (s.goodCmd_portOnly.mono (m := hpRaiseRegs) (by decide)).setFlag (f := Fld.HP_STATUS_REQ_ERR) true (by decide)
  have raised := ((s.goodCmd.setFlag Fld.HP_STATUS_REQ_ERR true).raiseHp_portOnly code).regsKept
  exact ⟨marked.raiseHp code (by decide), by simp [State.requestRefused],
    (raised.flag (by decide)).trans (State.flag_setFlag_same _ _ _ rfl (by decide)), State.raised_raiseHp _ hbit hcode⟩

theorem State.cmdErr_requestRefused (s : State) (code : Nat) :
    (s.requestRefused code).flag Fld.HP_STATUS_CMD_ERR = false := by
  rw [State.requestRefused, (State.raiseHp_portOnly _ code).regsKept.flag (by decide),
    State.flag_setFlag_other _ _ _ _ (by decide) (by decide) (by decide), s.cmdErr_goodCmd]

theorem State.requestTaken_portOnly (s : State) (r : HostReq) : PortOnly [Reg.HP_STATUS] s (s.requestTaken r) :=
  ((s.goodCmd_portOnly.setFlag _ (by decide)).setFlag _ (by decide)).setSpi _

theorem State.reqErr_requestTaken (s : State) (r : HostReq) : (s.requestTaken r).flag Fld.HP_STATUS_REQ_ERR = false := by
  rw [State.requestTaken, State.setSpi_flag, State.flag_setFlag_other _ _ _ _ (by decide) (by decide) (by decide),
    State.flag_setFlag_same _ _ _ rfl (by decide)]

theorem State.done_requestTaken (s : State) (r : HostReq) : (s.requestTaken r).flag Fld.HP_STATUS_DONE = false := by
  rw [State.requestTaken, State.setSpi_flag, State.flag_setFlag_same _ _ _ rfl (by decide)]

/-- The answer with an HP code: the code, no payload, DONE and RESP (R415, R423). -/
theorem State.hostFail_spi (s : State) (r : HostReq) (code : Nat) : s.hostFail .spi r code =
    (((s.raiseHp code).setSpi { s.spi with req := none, response := toLe 2 code ++ toLe 6 0 }).setFlag
      Fld.HP_STATUS_DONE true).hostEvent 6 := by
  have hbytes : toLe 2 code ++ toLe 2 0 ++ toLe 2 0 ++ toLe 2 0 ++ [] = toLe 2 code ++ toLe 6 0 := by simp [toLe]
  simp only [State.hostFail, State.respond, State.spiRespond, List.length_nil, hbytes, State.raiseHp_spi, State.setSpi]

theorem State.done_hostFail_spi (s : State) (r : HostReq) (code : Nat) :
    (s.hostFail .spi r code).flag Fld.HP_STATUS_DONE = true := by
  rw [State.hostFail_spi, State.hostEvent, State.flag_setReg_ne _ _ _ _ (by decide),
    State.flag_setFlag_same _ _ _ rfl (by decide)]

/-- After the code is raised, the answer writes the port, HP_STATUS and the port's event word alone. -/
theorem State.hostFail_spi_portOnly (s : State) (r : HostReq) (code : Nat) :
    PortOnly [Reg.HP_STATUS, Reg.HP_IRQ_STATUS] (s.raiseHp code) (s.hostFail .spi r code) := by
  rw [State.hostFail_spi]
  exact (((PortOnly.refl _ _).setSpi _).setFlag _ (by decide)).setReg _ (by decide)

/-- What the answer to a REQUEST of an unknown TYPE leaves. -/
theorem State.requestAnswered_spec (s : State) (r : HostReq) (hreq : s.spi.req = none) :
    let t := (s.requestTaken r).hostFail .spi r 0x0A02
    PortOnly hpRaiseRegs s t ∧ t.spi = { s.spi with response := toLe 2 0x0A02 ++ toLe 6 0 } ∧
      t.flag Fld.HP_STATUS_DONE = true ∧ Raised Reg.HP_ERR_STATUS Reg.HP_ERR_CODE 0x0A02 t := by
  have raised := ((s.requestTaken_portOnly r).mono (m := hpRaiseRegs) (by decide)).raiseHp 0x0A02 (by decide)
  have answer := (s.requestTaken r).hostFail_spi_portOnly r 0x0A02
  refine ⟨raised.trans (answer.mono (by decide)), ?spi, State.done_hostFail_spi _ _ _,
    answer.regsKept.raised (by decide) (by decide) (State.raised_raiseHp _ (by decide) (by decide))⟩
  rw [State.hostFail_spi]
  simp [State.hostEvent, State.requestTaken, ← hreq]

/-! ## HP_BAD_CMD (R422) -/

theorem State.badCmd_of_unknown {s : State} (hon : s.spiOn = true) {op : Byte}
    (hop : [0x05, 0x02, 0x32, 0x0B, 0x6B, 0x61, 0xAB].contains op = false) : s.badCmd op =
      (((s.setFlag Fld.HP_STATUS_CMD_ERR true).incSat Fld.HP_BAD_CMD_CNT_COUNT 1).raiseHp 0x0A05).setSpi
        { s.spi with driven := [] } := by
  rw [State.badCmd, if_neg (by simpa [hon] using hop)]
  simp only [State.raiseHp_spi, State.incSat_spi, State.setFlag_spi, State.setSpi]

theorem State.badCmd_of_known (s : State) {op : Byte}
    (hop : [0x05, 0x02, 0x32, 0x0B, 0x6B, 0x61, 0xAB].contains op = true) : s.badCmd op = s :=
  if_pos (.inr hop)

/-- What an unknown opcode leaves. -/
theorem State.badCmd_spec {s : State} (hon : s.spiOn = true) {op : Byte}
    (hop : [0x05, 0x02, 0x32, 0x0B, 0x6B, 0x61, 0xAB].contains op = false) :
    let t := s.badCmd op
    PortOnly (Reg.HP_BAD_CMD_CNT :: hpRaiseRegs) s t ∧ t.flag Fld.HP_STATUS_CMD_ERR = true ∧
      t.spi = { s.spi with driven := [] } ∧ Raised Reg.HP_ERR_STATUS Reg.HP_ERR_CODE 0x0A05 t ∧
      t.fld Fld.HP_BAD_CMD_CNT_COUNT = min (s.fld Fld.HP_BAD_CMD_CNT_COUNT + 1) 65535 := by
  rw [State.badCmd_of_unknown hon hop]
  have marked : PortOnly [Reg.HP_STATUS] s (s.setFlag Fld.HP_STATUS_CMD_ERR true) := (PortOnly.refl _ s).setFlag _ (by decide)
  have hmark := State.flag_setFlag_same s Fld.HP_STATUS_CMD_ERR true rfl (by decide)
  generalize s.setFlag Fld.HP_STATUS_CMD_ERR true = u at marked hmark
  have counted : PortOnly [Reg.HP_BAD_CMD_CNT] u (u.incSat Fld.HP_BAD_CMD_CNT_COUNT 1) :=
    (PortOnly.refl _ u).incSat _ (by decide)
  have hcount := u.fld_incSat Fld.HP_BAD_CMD_CNT_COUNT 1 (by decide)
  generalize u.incSat Fld.HP_BAD_CMD_CNT_COUNT 1 = w at counted hcount
  have raised := (w.raiseHp_portOnly 0x0A05).regsKept
  refine ⟨(((marked.mono (by decide)).trans (counted.mono (by decide))).raiseHp 0x0A05 (by decide)).setSpi _, ?cmdErr,
    State.setSpi_spi _ _, (State.raised_raiseHp w (by decide) (by decide)).setSpi _, ?count⟩
  case cmdErr => rw [State.setSpi_flag, raised.flag (by decide), counted.regsKept.flag (by decide), hmark]
  case count =>
    rw [State.setSpi_fld, raised.fld (by decide), hcount, marked.regsKept.fld (by decide)]
    rfl

/-! ## WAKE (R504) -/

theorem State.wakeMode_goodCmd (s : State) : s.goodCmd.wakeMode = s.wakeMode := by
  have hkept := s.goodCmd_portOnly.regsKept
  rw [State.wakeMode, State.power, hkept.fld (by decide), hkept.fld (by decide), State.goodCmd, State.setFlag_pw,
    State.wakeMode, State.power]

theorem State.spiWake_of_on {s : State} (hon : s.spiOn = true) : s.spiWake = s.goodCmd.wakeFrom 2 0 := by
  simp [State.spiWake, hon]

/-- WAKE outside Skim and Doze, and outside an entry to them, is a known opcode and nothing more. -/
theorem State.wakeFrom_spi_of_awake {s : State} (hskim : s.wakeMode ≠ 2) (hdoze : s.wakeMode ≠ 3) :
    s.goodCmd.wakeFrom 2 0 = s.goodCmd := by
  simp [State.wakeFrom, State.wakeEnabled, s.wakeMode_goodCmd, hskim, hdoze]

/-- What WAKE leaves in Skim and Doze, and during an entry to them. -/
theorem State.wakeFrom_spi_of_asleep {s : State} (hmode : s.wakeMode = 2 ∨ s.wakeMode = 3) :
    let t := s.goodCmd.wakeFrom 2 0
    t = { s with regs := t.regs, pw := t.pw } ∧ RegsKept [Reg.HP_STATUS, Reg.PW_WAKE_CAUSE] s t ∧
      tstBit (t.reg Reg.PW_WAKE_CAUSE) 2 = true ∧
      t.pw = { s.pw with wake := s.pw.wake || !(s.flag Fld.PW_STATE_BUSY && !s.pw.entering) } := by
  have henabled : s.goodCmd.wakeEnabled 2 0 = true := by simpa [State.wakeEnabled, s.wakeMode_goodCmd] using hmode
  have hbusy : s.goodCmd.flag Fld.PW_STATE_BUSY = s.flag Fld.PW_STATE_BUSY := s.goodCmd_portOnly.regsKept.flag (by decide)
  have hpw : s.goodCmd.pw = s.pw := s.setFlag_pw _ _
  rw [State.wakeFrom, if_pos henabled, hbusy, hpw]
  have marked := (s.goodCmd_portOnly.mono (m := [Reg.HP_STATUS, Reg.PW_WAKE_CAUSE]) (by decide)).setReg
    (setBits (s.goodCmd.reg Reg.PW_WAKE_CAUSE) 2 2 1) (a := Reg.PW_WAKE_CAUSE) (by decide)
  have hmark := State.reg_setReg_same s.goodCmd Reg.PW_WAKE_CAUSE (setBits (s.goodCmd.reg Reg.PW_WAKE_CAUSE) 2 2 1)
  obtain ⟨hframe, hregs⟩ := marked.onlyRegs (by simp)
  generalize s.goodCmd.setReg Reg.PW_WAKE_CAUSE (setBits (s.goodCmd.reg Reg.PW_WAKE_CAUSE) 2 2 1) = u at hframe hregs hmark
  have hbit : tstBit (u.reg Reg.PW_WAKE_CAUSE) 2 = true := by rw [hmark, tstBit_setBits_one _ (by decide)]
  exact ⟨congrArg (State.setPw · _) hframe, hregs, hbit, rfl⟩

/-! ## The statement -/

theorem exec_request (q : Bool) (b : List Byte) (s : State) :
    exec (if q then .requestQuad b else .request b) s = .next (s.spiRequest b) := by cases q <;> rfl

theorem exec_response (q : Bool) (n : Nat) (s : State) :
    exec (if q then .responseQuad n else .response n) s = .next (s.spiResponse n) := by cases q <;> rfl

/-- Settles O46: each transaction leaves the state its lemma above says, and the statement's facts are read off that state. -/
theorem hostSpiTransactions : Obligations.HostSpiTransactions := by
  intro s b n k v op q on len whole known types raises request response only
  have hson : on → s.spiOn = true := s.spiOn_iff.mpr
  have hsoff : ¬ on → (!s.spiOn) = true := fun h => by simpa using mt s.spiOn_iff.mp h
  have requested : ∀ {t}, s.spiRequest b = t → exec request s = .next t := fun h => h ▸ exec_request q b s
  refine ⟨State.ball_irqN_of_running, State.ball_irqN_of_reset, State.ball_irqN_of_unpowered, ?status, ?busy, ?malformed, ?taken,
    ?unknownType, ?response, ?irqClear, ?wakeAwake, ?wakeAsleep, ?badCmd, ?goodCmd, ?statusOff, ?requestOff, ?responseOff,
    ?irqClearOff⟩
  case status =>
    intro hon
    refine ⟨_, congrArg Host.Outcome.next (State.spiStatus_of_on (hson hon) n), s.goodCmd_portOnly.setSpi _, s.cmdErr_goodCmd,
      rfl, ?length, fun hk => ?word⟩
    case length => simp [toLe_length, Nat.mul_comm]
    case word => exact (le_flatten_replicate_toLe 4 _ hk).trans (Nat.mod_eq_of_lt s.hpStatus.isLt)
  case busy =>
    intro hon hreq
    obtain ⟨honly, hspi, herr, hraised⟩ := s.requestRefused_spec (code := 0x0A03) (by decide) (by decide)
    exact ⟨_, requested (State.spiRequest_of_busy (hson hon) hreq), honly, hspi, herr, hraised, s.cmdErr_requestRefused _⟩
  case malformed =>
    intro hon hreq hwhole
    obtain ⟨honly, hspi, herr, hraised⟩ := s.requestRefused_spec (code := 0x0A02) (by decide) (by decide)
    exact ⟨_, requested (State.spiRequest_of_not_whole (hson hon) hreq hwhole), honly, hspi, herr, hraised,
      State.events_raiseHp _ _⟩
  case taken =>
    intro hon hreq hwhole htype
    exact ⟨_, requested ((State.spiRequest_of_whole (hson hon) hreq hwhole).trans (if_pos htype)),
      s.requestTaken_portOnly _, s.reqErr_requestTaken _, s.done_requestTaken _, rfl⟩
  case unknownType =>
    intro hon hreq hwhole htype
    exact ⟨_, requested ((State.spiRequest_of_whole (hson hon) hreq hwhole).trans (if_neg (ne_true_of_eq_false htype))),
      s.requestAnswered_spec _ hreq⟩
  case response =>
    intro hon
    refine ⟨_, (exec_response q n s).trans (congrArg Host.Outcome.next (State.spiResponse_of_on (hson hon) n)),
      s.goodCmd_portOnly.setSpi _, rfl, ?length, getD_take_append_replicate _⟩
    simp only [State.setSpi_spi, List.length_append, List.length_take, List.length_replicate]
    omega
  case irqClear =>
    intro hon
    refine ⟨_, congrArg Host.Outcome.next (State.irqClear_of_on (hson hon) v),
      ((s.goodCmd_portOnly.mono (by decide)).setReg _ (by decide)).onlyRegs (by simp), fun hk => ?_⟩
    rw [State.reg_setReg_same]
    simp [tstBit, hk]
  case wakeAwake =>
    intro hon hskim hdoze
    exact ⟨_, congrArg Host.Outcome.next ((State.spiWake_of_on (hson hon)).trans (State.wakeFrom_spi_of_awake hskim hdoze)),
      s.goodCmd_portOnly.onlyRegs s.goodCmd_spi⟩
  case wakeAsleep =>
    intro hon hmode
    exact ⟨_, congrArg Host.Outcome.next (State.spiWake_of_on (hson hon)), State.wakeFrom_spi_of_asleep hmode⟩
  case badCmd => exact fun hon hop => ⟨_, rfl, State.badCmd_spec (hson hon) hop⟩
  case goodCmd => exact fun hop => ⟨_, rfl, s.badCmd_of_known hop⟩
  case statusOff => exact fun hoff => ⟨_, rfl, if_pos (hsoff hoff)⟩
  case requestOff => exact fun hoff => ⟨_, exec_request q b s, if_pos (hsoff hoff)⟩
  case responseOff => exact fun hoff => ⟨_, exec_response q n s, if_pos (hsoff hoff)⟩
  case irqClearOff => exact fun hoff => ⟨_, rfl, if_pos (hsoff hoff)⟩

end Sys2Proof.Machine
end
